-- ==== Sys2Proof/Word.lean ====
section
/-! DEFINITION. The words of the GS30: a byte of the host link and the 48-bit local time. -/

namespace Sys2Proof

/-- One byte of the serial link (R175: 8 data bits). -/
abbrev Byte := BitVec 8

/-- The 48-bit local time, in microseconds, wrapping from 2^48 − 1 to 0 (R146). -/
abbrev LocalTime := BitVec 48

end Sys2Proof
end

