-- ==== Sys2Proof/Config.lean ====
section
/-! DEFINITION. What the spec leaves free, and the fixed figures of the part. -/

namespace Sys2Proof

/-- FREE VALUE (log entry 1). Where several events are due at one instant the spec says that either may be
taken first. The n-th such choice of a run is `freeChoice n`, reduced modulo the number of events that are due.
It has no body: nothing may be proved about the order it picks. -/
opaque Config.freeChoice : Nat → Nat

/-- The SYNC byte that opens every frame (R175). -/
def Config.sync : Byte := 0xA7#8

/-- Vendor code, part code and revision that IDENTIFY reports (R179). -/
def Config.vendorCode : Nat := 0x0C7A
/-- See `Config.vendorCode` (R179). -/
def Config.partCode : Nat := 0x0030
/-- See `Config.vendorCode` (R179). -/
def Config.revision : Nat := 1

/-- The longest body a frame carries: LEN is 0 to 248 (R175). -/
def Config.maxBody : Nat := 248

/-- The receive queue holds at most 4 complete requests (R177). -/
def Config.rxQueueMax : Nat := 4

/-- Ticks that may pass after a byte of a frame before the next byte starts (R176). -/
def Config.frameGap : Nat := 2000

/-- Ticks of an ATTN pulse in EDGE mode (R184). -/
def Config.attnPulse : Nat := 8

/-- An axle queue holds at most 32 entries (R28). -/
def Config.axleQueueMax : Nat := 32

/-- A head list holds at most 8 heads (R60). -/
def Config.headListMax : Nat := 8

/-- The record store holds at most 32 records (R166). -/
def Config.storeSlots : Nat := 32

/-- The lowest and the highest axle speed, in mm/s (R39). -/
def Config.crawlSpeed : Nat := 300
/-- See `Config.crawlSpeed` (R39). -/
def Config.topSpeed : Nat := 110000

/-- The last whole second before local time wraps, in microseconds (R146). -/
def Config.lastSecond : Nat := 281474976000000

end Sys2Proof
end

