-- ==== Sys2Proof/Syntax.lean ====
section
/-! DEFINITION. The commands of the GS30: one constructor of `Instr` for each row of spec/opcode_table.json, with the
names of tracks, sensors, detectors and directions that they and the state share.

A REQUEST row carries the TAG and the body bytes of a request frame of its kind (R175, R178). An EVENT row carries what
tells one such event from another: the track, the input, the camera, the strobe, the head index. -/

namespace Sys2Proof

/-- The two track channels, T1 and T2 (R1). -/
inductive TrackId where
  | t1 | t2
  deriving DecidableEq, Repr

/-- The four wheel sensors of a track (R21), in the fixed order WAO, WAI, WBI, WBO. -/
inductive WheelSensor where
  | wao | wai | wbi | wbo
  deriving DecidableEq, Repr

/-- The two head detectors of a track (R21). -/
inductive Detector where
  | hda | hdb
  deriving DecidableEq, Repr

/-- The two directions of a passage; on the link 0 is A→B and 1 is B→A. -/
inductive Direction where
  | ab | ba
  deriving DecidableEq, Repr

/-- The commands. `tag` and `body` are the TAG and the body bytes of a complete request frame. -/
inductive Instr where
  -- requests of the host link (chapter 12)
  | identify (tag : Byte) (body : List Byte)
  | restart (tag : Byte) (body : List Byte)
  | restartTakesEffect
  | readEvents (tag : Byte) (body : List Byte)
  | setAttention (tag : Byte) (body : List Byte)
  -- requests of the tracks (chapters 1 to 4)
  | setTrackGeometry (tag : Byte) (body : List Byte)
  | setTrackTiming (tag : Byte) (body : List Byte)
  | setTrackMode (tag : Byte) (body : List Byte)
  | readTrack (tag : Byte) (body : List Byte)
  | setSpeedFilter (tag : Byte) (body : List Byte)
  | setHeadLimits (tag : Byte) (body : List Byte)
  -- requests of the cameras and strobes (chapters 6 and 7)
  | setCamera (tag : Byte) (body : List Byte)
  | resetCamera (tag : Byte) (body : List Byte)
  | readCameras (tag : Byte) (body : List Byte)
  | setStrobe (tag : Byte) (body : List Byte)
  | setInhibit (tag : Byte) (body : List Byte)
  | readStrobes (tag : Byte) (body : List Byte)
  -- requests of the plans (chapter 5)
  | loadPlan (tag : Byte) (body : List Byte)
  | bindPlan (tag : Byte) (body : List Byte)
  | readPlan (tag : Byte) (body : List Byte)
  -- requests of the record store (chapter 11)
  | fetchRecord (tag : Byte) (body : List Byte)
  | releaseRecord (tag : Byte) (body : List Byte)
  | setStore (tag : Byte) (body : List Byte)
  -- requests of sensor health (chapter 8)
  | readHealth (tag : Byte) (body : List Byte)
  | rejoinSensor (tag : Byte) (body : List Byte)
  | setHealth (tag : Byte) (body : List Byte)
  -- requests of the timebase (chapter 9) and of rehearsal (chapter 10)
  | setTime (tag : Byte) (body : List Byte)
  | readTime (tag : Byte) (body : List Byte)
  | setReference (tag : Byte) (body : List Byte)
  | rehearse (tag : Byte) (body : List Byte)
  -- resets and the link (chapter 12)
  /-- Release of RSTn; `straps` are the levels at BAUD1 (bit 1) and BAUD0 (bit 0) at that instant (R185). -/
  | pinReset (straps : BitVec 2)
  /-- A byte whose last bit has arrived at RXD; `stopHigh` says whether its stop bit was high (R176). -/
  | rxByte (value : Byte) (stopHigh : Bool)
  | frameGapTimeout
  | replySent
  | attnPulseEnd
  -- sensor inputs (chapters 2 and 4)
  | wheelLeadingEdge (track : TrackId) (sensor : WheelSensor)
  | wheelTrailingEdge (track : TrackId) (sensor : WheelSensor)
  | wheelPulseAccepted (track : TrackId) (sensor : WheelSensor)
  /-- An edge at a head-detector pin; `high` is the level after the edge. -/
  | headDetectorEdge (track : TrackId) (detector : Detector) (high : Bool)
  | blockedStart (track : TrackId) (detector : Detector)
  | blockedEnd (track : TrackId) (detector : Detector)
  -- heads and the action timeline (chapters 3 to 5)
  | headCrosses (track : TrackId) (index : Nat)
  | headDeparted (track : TrackId) (index : Nat)
  | timelineEntryExpiry (track : TrackId) (index : Nat)
  -- cameras (chapter 6)
  | triggerRelease (camera : Fin 8)
  | cdoneEdge (camera : Fin 8)
  | confirmationWindowExpiry (camera : Fin 8)
  | recoveryEnd (camera : Fin 8)
  | warmUpEnd (camera : Fin 8)
  -- strobes, inhibit and charger (chapter 7)
  | strobePulseEnd (strobe : Fin 6)
  /-- An edge at an inhibit pin; `high` is the level after the edge. -/
  | inhibitInputEdge (input : Fin 4) (high : Bool)
  | chargeCompletion
  -- timers of a track (chapters 1 and 3)
  | clearIntervalExpiry (track : TrackId)
  | dormantDelayExpiry (track : TrackId)
  | stalenessExpiry (track : TrackId)
  -- timebase (chapter 9)
  /-- An edge at REF; `rising` tells a rising edge from a falling one. -/
  | refEdge (rising : Bool)
  | windowClose
  | adjustedTick
  -- rehearsal (chapter 10)
  | rehearsalEdgeDelivery (track : TrackId)
  deriving DecidableEq, Repr

end Sys2Proof
end

