-- ==== Sys2Proof/Decode.lean ====
section
/-! DEFINITION. The command a table word spells. No row of spec/opcode_table.json gives any bits (every row's `fields` is
empty), so no word spells a command. The bytes of the host link are decoded by the link unit itself, byte by byte
(Machine/Link.lean, R176), as the part does. -/

/-- The command that a word spells by the table's bits: none, because the table gives no row any bits. -/
def Sys2Proof.decodeTableWord (_nbits _w : Nat) : Option Sys2Proof.Instr := none
end

