-- ==== Sys2Proof/WellFormed.lean ====
section
/-! DEFINITION. Which commands are well formed. The operand types already bound tracks, inputs, cameras, strobes and
inhibit inputs; what is left is the length of a request's body and the range of a head index. -/

namespace Sys2Proof

/-- A request frame carries at most 248 body bytes (R175). -/
def bodyFits (body : List Byte) : Bool := body.length ≤ Config.maxBody

/-- A head index is 1 to 255 (R74). -/
def headIndexInRange (index : Nat) : Bool := 1 ≤ index && index ≤ 255

/-- A command the part can receive. -/
def Instr.wellFormed : Instr → Bool
  | .identify _ body => bodyFits body
  | .restart _ body => bodyFits body
  | .restartTakesEffect => true
  | .readEvents _ body => bodyFits body
  | .setAttention _ body => bodyFits body
  | .setTrackGeometry _ body => bodyFits body
  | .setTrackTiming _ body => bodyFits body
  | .setTrackMode _ body => bodyFits body
  | .readTrack _ body => bodyFits body
  | .setSpeedFilter _ body => bodyFits body
  | .setHeadLimits _ body => bodyFits body
  | .setCamera _ body => bodyFits body
  | .resetCamera _ body => bodyFits body
  | .readCameras _ body => bodyFits body
  | .setStrobe _ body => bodyFits body
  | .setInhibit _ body => bodyFits body
  | .readStrobes _ body => bodyFits body
  | .loadPlan _ body => bodyFits body
  | .bindPlan _ body => bodyFits body
  | .readPlan _ body => bodyFits body
  | .fetchRecord _ body => bodyFits body
  | .releaseRecord _ body => bodyFits body
  | .setStore _ body => bodyFits body
  | .readHealth _ body => bodyFits body
  | .rejoinSensor _ body => bodyFits body
  | .setHealth _ body => bodyFits body
  | .setTime _ body => bodyFits body
  | .readTime _ body => bodyFits body
  | .setReference _ body => bodyFits body
  | .rehearse _ body => bodyFits body
  | .pinReset _ => true
  | .rxByte _ _ => true
  | .frameGapTimeout => true
  | .replySent => true
  | .attnPulseEnd => true
  | .wheelLeadingEdge _ _ => true
  | .wheelTrailingEdge _ _ => true
  | .wheelPulseAccepted _ _ => true
  | .headDetectorEdge _ _ _ => true
  | .blockedStart _ _ => true
  | .blockedEnd _ _ => true
  | .headCrosses _ index => headIndexInRange index
  | .headDeparted _ index => headIndexInRange index
  | .timelineEntryExpiry _ index => headIndexInRange index
  | .triggerRelease _ => true
  | .cdoneEdge _ => true
  | .confirmationWindowExpiry _ => true
  | .recoveryEnd _ => true
  | .warmUpEnd _ => true
  | .strobePulseEnd _ => true
  | .inhibitInputEdge _ _ => true
  | .chargeCompletion => true
  | .clearIntervalExpiry _ => true
  | .dormantDelayExpiry _ => true
  | .stalenessExpiry _ => true
  | .refEdge _ => true
  | .windowClose => true
  | .adjustedTick => true
  | .rehearsalEdgeDelivery _ => true

end Sys2Proof
end

