-- ==== Sys2Proof/Machine/State.lean ====
section
/-! DEFINITION. The state of the GS30 as plain data, the reasons a step can stop, and the state after a pin reset.
Instants are kept in two clocks, as the spec has them: local time (48 bits, corrected and stepped, R146) for every
timestamp and due time, and the tick count `ticks` for every duration (R146: "Every duration in the part is counted in
ticks"). A running timer is held as the tick at which it runs out (log entry 10). -/

namespace Sys2Proof.Machine

/-- The reasons a step can fault. There is none: the spec gives every command an effect, so the type is empty. -/
inductive Fault where
  deriving DecidableEq, Repr

/-- The reasons a command is refused. -/
inductive Refusal where
  /-- Raised by `exec`'s arm of a command that has no meaning in the model yet. Safe: the model stops. -/
  | notModelled (mnemonic : String)
  deriving DecidableEq, Repr

/-! ## Families of like things -/

/-- One thing for each track. -/
structure PerTrack (α : Type) where
  t1 : α
  t2 : α
  deriving DecidableEq, Repr

/-- One thing for each wheel sensor of a track, in the order WAO, WAI, WBI, WBO. -/
structure PerSensor (α : Type) where
  wao : α
  wai : α
  wbi : α
  wbo : α
  deriving DecidableEq, Repr

/-- One thing for each head detector of a track. -/
structure PerDetector (α : Type) where
  hda : α
  hdb : α
  deriving DecidableEq, Repr

/-- One thing for each direction. -/
structure PerDirection (α : Type) where
  ab : α
  ba : α
  deriving DecidableEq, Repr

/-! ## Tracks and passages (chapters 1 to 4) -/

/-- The state of a track channel (R1). -/
inductive TrackState where
  | offline | idle | dormant | passage
  deriving DecidableEq, Repr

/-- The mode of a track in service (R1). -/
inductive Mode where
  | live | rehearsal
  deriving DecidableEq, Repr

/-- The outcome of a passage (R18). -/
inductive PassageOutcome where
  | normal | reversed | conflict | aborted
  deriving DecidableEq, Repr

/-- The state of a wheel-sensor pair during a passage (section 2.5). -/
inductive PairState where
  | normal | slipped | out
  deriving DecidableEq, Repr

/-- The six configured positions of a track, in mm on the A→B axis (R21). -/
structure Geometry where
  wao : Int
  wai : Int
  hda : Int
  hdb : Int
  wbi : Int
  wbo : Int
  deriving DecidableEq, Repr

/-- A real wheel-sensor input: the level at its pin, and while its debounce count runs the recorded leading-edge time and
the tick at which the count runs out (R24). -/
structure WheelInput where
  level : Bool
  count : Option (LocalTime × Nat)
  deriving DecidableEq, Repr

/-- A head-detector input: the level at its pin, the synthetic level of rehearsal, its debounce state (`blocked` or
clear) and the tick at which a running count runs out (R57). -/
structure DetectorInput where
  pin : Bool
  synthetic : Bool
  blocked : Bool
  count : Option Nat
  deriving DecidableEq, Repr

/-- A synthetic wheel pulse in its own debounce count (R24, R163). -/
structure SyntheticPulse where
  sensor : WheelSensor
  timestamp : LocalTime
  accepts : Nat
  deriving DecidableEq, Repr

/-- One wheel-sensor pair of a passage: its state, its axle queue of first-sensor timestamps, oldest first (R28), and its
count of consecutive implausible matches (R42). -/
structure AxlePair where
  state : PairState
  queue : List LocalTime
  implausible : Nat
  deriving DecidableEq, Repr

/-- The speed state of a track with its estimate, in mm/s, where there is one (R45). -/
inductive Speed where
  | absent
  | fresh (estimate : Nat)
  | stale (estimate : Nat)
  deriving DecidableEq, Repr

/-- The anchor of a timed head: time, position in µm in the travel frame, speed in mm/s (R50). -/
structure Anchor where
  time : LocalTime
  position : Int
  speed : Nat
  deriving DecidableEq, Repr

/-- The plan status of an open head (R65). -/
inductive HeadStatus where
  | untimed | scheduled | held | finished
  deriving DecidableEq, Repr

/-- The cursor of a head in its plan: plan number, late tolerance, and the step at which it rests; the plan's length
stands for the end of the plan (R85). The due time of its wait is held by its timeline entry. -/
structure Cursor where
  plan : Fin 4
  tolerance : Nat
  step : Nat
  deriving DecidableEq, Repr

/-- The outcome of an EXPOSE step (R114). -/
inductive ShotOutcome where
  | takenLit | takenUnlit | notReady | cameraBusy | cameraFailed | late
  deriving DecidableEq, Repr

/-- Why a taken shot is unlit (R114). -/
inductive UnlitReason where
  | noStrobe | inhibited | strobeNotReady | rehearsalDark
  deriving DecidableEq, Repr

/-- The confirmation of a shot; `unsettled` is the spec's NONE (R114). -/
inductive Confirmation where
  | unsettled | confirmed | noReturn | aborted
  deriving DecidableEq, Repr

/-- A shot entry (R114). -/
structure Shot where
  step : Nat
  camera : Fin 8
  strobe : Option (Fin 6)
  due : LocalTime
  start : Option LocalTime
  exposure : Option Nat
  outcome : ShotOutcome
  unlit : Option UnlitReason
  confirmation : Confirmation
  clamped : Bool
  flashCut : Bool
  deriving DecidableEq, Repr

/-- A mark entry: the step index and the instant it ran (R89). -/
structure Mark where
  step : Nat
  instant : LocalTime
  deriving DecidableEq, Repr

/-- An open head of a track's head list (R65): its detection data, its timing and its plan. -/
structure Head where
  index : Nat
  blockedStart : LocalTime
  duration : Nat
  status : HeadStatus
  length : Option Nat
  firstSpeed : Option Nat
  anchor : Option Anchor
  predicted : Option LocalTime
  departure : Option LocalTime
  observed : Option LocalTime
  crossed : Bool
  confirmed : Bool
  departed : Bool
  speedHeld : Bool
  cursor : Option Cursor
  shots : List Shot
  marks : List Mark
  deriving DecidableEq, Repr

/-- The current passage of a track in PASSAGE, otherwise its last one (R10, R18). `number` is also the passage number
counter: it is 0 until the first passage after a reset. `closed` is the close time once closing or an abort fixed it. -/
structure Passage where
  number : Nat
  direction : Direction
  opened : LocalTime
  closed : Option LocalTime
  outcome : PassageOutcome
  rehearsal : Bool
  overspeed : Bool
  counts : PerSensor Nat
  accepted : Nat
  rejected : Nat
  dropped : Nat
  captured : Nat
  missed : Nat
  lost : Nat
  lastIndex : Nat
  estimates : Option (Nat × Nat)
  approachInUse : Bool
  departureInUse : Bool
  approachOpen : Option LocalTime
  deriving DecidableEq, Repr

/-- An input that the rehearsal generator drives. -/
inductive SyntheticInput where
  | wheel (sensor : WheelSensor)
  | head (detector : Detector)
  deriving DecidableEq, Repr

/-- A scheduled synthetic edge: its tick offset from the acceptance instant, its input and its kind (R159). -/
structure SyntheticEdge where
  offset : Nat
  input : SyntheticInput
  leading : Bool
  deriving DecidableEq, Repr

/-- The rehearsal generator of a track (R159). -/
structure Generator where
  schedule : List SyntheticEdge
  acceptedAt : Nat
  liveStrobe : Bool
  deriving DecidableEq, Repr

/-- One track channel (R1). -/
structure Channel where
  state : TrackState
  mode : Option Mode
  -- configuration
  geometryValid : Bool
  geometry : Geometry
  debounce : Nat
  clearInterval : Nat
  dormantDelay : Nat
  staleLimit : Nat
  jumpLimit : Nat
  lengthMin : Nat
  lengthMax : Nat
  margin : Nat
  -- inputs
  wheels : PerSensor WheelInput
  detectors : PerDetector DetectorInput
  synthetic : List SyntheticPulse
  generator : Generator
  -- timers, as the tick at which each runs out
  clearTimer : Option Nat
  dormantTimer : Option Nat
  staleTimer : Option Nat
  -- the tick at which the clear interval of a closing passage ran out (the model's own, log entry 37)
  closingSince : Option Nat
  -- the passage
  passage : Passage
  approach : AxlePair
  departure : AxlePair
  window : List Nat
  speed : Speed
  heads : List Head
  deriving DecidableEq, Repr

/-! ## Plans and the action timeline (chapter 5) -/

/-- A step of a capture plan (R79). -/
inductive Step where
  | atPos (position : Int)
  | after (delay : Nat)
  | expose (camera : Fin 8) (strobe : Option (Fin 6))
  | mark
  deriving DecidableEq, Repr

/-- A binding: the optional plan and the late tolerance of one track and direction (R82). -/
structure Binding where
  plan : Option (Fin 4)
  tolerance : Nat
  deriving DecidableEq, Repr

/-- The kind of a pending wait. -/
inductive WaitKind where
  | atPos | after
  deriving DecidableEq, Repr

/-- An entry of the action timeline (R90). -/
structure TimelineEntry where
  track : TrackId
  passage : Nat
  index : Nat
  step : Nat
  kind : WaitKind
  due : LocalTime
  deriving DecidableEq, Repr

/-! ## Cameras (chapter 6) -/

/-- What names a shot: its head (track, passage number, head index) and its plan step. -/
structure ShotRef where
  track : TrackId
  passage : Nat
  index : Nat
  step : Nat
  deriving DecidableEq, Repr

/-- The state of a camera (section 6.2). `warming` holds the tick of its power-up, `exposing` the shot it exposes for and
the exposure length. -/
inductive CameraState where
  | off
  | warming (since : Nat)
  | ready
  | exposing (shot : ShotRef) (exposure : Nat)
  | recovering
  | failed
  deriving DecidableEq, Repr

/-- An open confirmation window: the shot it judges and the tick at which it runs out (R110). -/
structure ConfirmWindow where
  shot : ShotRef
  closes : Nat
  deriving DecidableEq, Repr

/-- One camera with its seven settings, its state, its two output pins, the tick at which its last exposure started, its
window and its counts (chapter 6). -/
structure Camera where
  track : Option TrackId
  blur : Nat
  exposureMin : Nat
  exposureMax : Nat
  recovery : Nat
  warmUp : Nat
  windowLength : Nat
  state : CameraState
  cpwr : Bool
  ctrg : Bool
  lastExposure : Option Nat
  confirm : Option ConfirmWindow
  noReturnRun : Nat
  takenTotal : Nat
  confirmedTotal : Nat
  noReturnTotal : Nat
  deriving DecidableEq, Repr

/-! ## Strobes, charger and inhibit (chapter 7) -/

/-- The state of a strobe (section 7.2). `firing` holds the shot it lights, the pulse length and the tick at which the
pulse started. -/
inductive StrobeState where
  | off
  | empty
  | charging
  | ready
  | firing (shot : ShotRef) (pulse : Nat) (since : Nat)
  deriving DecidableEq, Repr

/-- One strobe: its settings, its state, its fire pin and its last pulse, `none` being a full one (R119). -/
structure Strobe where
  base : Nat
  factor : Nat
  maxPulse : Nat
  state : StrobeState
  sfire : Bool
  lastPulse : Option Nat
  deriving DecidableEq, Repr

/-- A member of the charge queue with the instant at which it joined (R126), kept as a tick count: a DESIGN CHOICE, since
R126 does not say on which clock (log entry 31). -/
structure QueueMember where
  strobe : Fin 6
  joined : Nat
  deriving DecidableEq, Repr

/-- A charge in progress and the tick at which it completes (R128). `joins` is the tick of the joins that its start chose
among, `none` where it followed another charge's completion: a strobe that joins at that same tick is chosen among too
(R128, log entry 19). -/
structure Charge where
  strobe : Fin 6
  completes : Nat
  joins : Option Nat
  deriving DecidableEq, Repr

/-- An inhibit input: its level, its enable and its polarity, `true` being active-high (R123, R124). -/
structure InhibitInput where
  level : Bool
  enabled : Bool
  activeHigh : Bool
  deriving DecidableEq, Repr

/-! ## Sensor health (chapter 8) -/

/-- The health state of a sensor (R134). -/
inductive HealthState where
  | normal | degraded | excluded
  deriving DecidableEq, Repr

/-- The health entry of a sensor (R133). -/
structure Health where
  score : Nat
  state : HealthState
  progress : Nat
  faults : Nat
  goods : Nat
  deriving DecidableEq, Repr

/-! ## Reference tracker (chapter 9) -/

/-- The state of the reference tracker (section 9.2). -/
inductive TrackerState where
  | free | search | locked | holdover
  deriving DecidableEq, Repr

/-- A pending adjusted tick: its target and whether it advances by 2 (`up`) or by 0 (R153). -/
structure Correction where
  target : LocalTime
  up : Bool
  deriving DecidableEq, Repr

/-- The reference tracker. `window` is the whole second of the window in progress or next to open, `seen` its edge-seen
status; both matter in LOCKED only (R152). -/
structure Tracker where
  enabled : Bool
  falling : Bool
  state : TrackerState
  misses : Nat
  window : LocalTime
  seen : Bool
  corrections : List Correction
  phaseError : Option Int
  deriving DecidableEq, Repr

/-! ## Record store (chapter 11) -/

/-- The final status of a head (R71). -/
inductive FinalStatus where
  | captured | noShot | missed | cancelled | unbound
  deriving DecidableEq, Repr

/-- The fields of a HEAD record (R74); its track is in the header, and its PREDECESSOR_DISPLACED flag is the header's
displaced flag. -/
structure HeadRecord where
  passage : Nat
  index : Nat
  direction : Direction
  status : FinalStatus
  detected : LocalTime
  duration : Nat
  length : Option Nat
  firstSpeed : Option Nat
  predicted : Option LocalTime
  observed : Option LocalTime
  error : Option Int
  confirmed : Bool
  speedHeld : Bool
  rehearsal : Bool
  overspeed : Bool
  shots : List Shot
  marks : List Mark
  deriving DecidableEq, Repr

/-- The fields of a PASSAGE record (R18); its track is in the header. -/
structure PassageRecord where
  number : Nat
  direction : Direction
  opened : LocalTime
  closed : LocalTime
  outcome : PassageOutcome
  rehearsal : Bool
  overspeed : Bool
  counts : PerSensor Nat
  agreed : Option Nat
  accepted : Nat
  rejected : Nat
  dropped : Nat
  captured : Nat
  missed : Nat
  estimates : Option (Nat × Nat)
  approach : PairState
  departure : PairState
  lost : Nat
  deriving DecidableEq, Repr

/-- The two kinds of record (section 11.1). -/
inductive RecordBody where
  | head (record : HeadRecord)
  | passage (record : PassageRecord)
  deriving DecidableEq, Repr

/-- A stored record with its header (section 11.1). -/
structure Record where
  number : Nat
  track : TrackId
  stored : LocalTime
  displaced : Bool
  body : RecordBody
  deriving DecidableEq, Repr

/-- A HEAD record that has been offered to the store at this instant (R72, log entry 35). -/
structure OfferedRecord where
  track : TrackId
  record : HeadRecord
  deriving DecidableEq, Repr

/-- What the store does when it is full (R169). -/
inductive StorePolicy where
  | keep | replace
  deriving DecidableEq, Repr

/-- The record store, oldest record first (R166). `offered` is the model's own: the HEAD records that have been offered at
this instant, stored or not, in the order of their places (R72, log entry 35). -/
structure Store where
  records : List Record
  nextNumber : Nat
  policy : StorePolicy
  threshold : Nat
  offered : List OfferedRecord
  deriving DecidableEq, Repr

/-! ## Host link and attention (chapter 12) -/

/-- A complete request frame: KIND, TAG and body (R177). -/
structure Request where
  kind : Byte
  tag : Byte
  body : List Byte
  deriving DecidableEq, Repr

/-- The receiver: hunting, or inside a frame with the bytes taken after SYNC and the tick of the last one (R176). It hunts
too once a restart has abandoned a frame; that frame and the tick of the restart are kept, because a frame that completes at
that same tick is still taken (R180, log entry 38). -/
inductive Receiver where
  | hunting
  | inFrame (taken : List Byte) (lastByte : Nat)
  | abandoned (taken : List Byte) (lastByte restart : Nat)
  deriving DecidableEq, Repr

/-- A reply in transmission: the request being answered, the bytes of the reply frame, the tick at which transmission
started, and whether a restart follows it (R178, R180). `reported` is the model's own: the record that the reply to a FETCH
RECORD reports (R170, log entry 35). -/
structure Transmission where
  request : Request
  bytes : List Byte
  started : Nat
  restarts : Bool
  reported : Option Record := none
  deriving DecidableEq, Repr

/-- The host link. `baud` holds the sampled straps, BAUD1 in bit 1 (R185). -/
structure Link where
  baud : BitVec 2
  receiver : Receiver
  queue : List Request
  transmission : Option Transmission
  deriving DecidableEq, Repr

/-- The ATTN mode (R183). -/
inductive AttnMode where
  | level | edge
  deriving DecidableEq, Repr

/-- The attention unit: the latched set and the mask, one bit an event, the mode, the ATTN pin, and in EDGE mode the tick
at which a pulse ends (R181 to R184). -/
structure Attention where
  latched : BitVec 12
  mask : BitVec 12
  mode : AttnMode
  attn : Bool
  pulseEnds : Option Nat
  deriving DecidableEq, Repr

/-! ## The whole part -/

/-- The state of the GS30. `pending` is the queue of commands that wait, first in, first out, and `choices` counts the
free choices made so far; both are the model's own. -/
structure State where
  ticks : Nat
  localTime : LocalTime
  tracker : Tracker
  channels : PerTrack Channel
  plans : Vector (List Step) 4
  bindings : PerTrack (PerDirection Binding)
  timeline : List TimelineEntry
  cameras : Vector Camera 8
  strobes : Vector Strobe 6
  chargeQueue : List QueueMember
  charger : Option Charge
  chgEn : Bool
  chgSel : BitVec 3
  inhibits : Vector InhibitInput 4
  inhibit : Bool
  health : Vector Health 12
  autoRejoin : Bool
  store : Store
  link : Link
  attention : Attention
  pending : List Instr
  choices : Nat
  deriving DecidableEq, Repr

/-! ## Values after a pin reset -/

/-- A wheel pair before any passage: it reads NORMAL, its queue is empty (R20). -/
def AxlePair.reset : AxlePair := { state := .normal, queue := [], implausible := 0 }

/-- No passage yet: number 0, outcome NORMAL (R20). The other fields are not reported before a passage sets them. -/
def Passage.reset : Passage :=
  { number := 0, direction := .ab, opened := 0#48, closed := none, outcome := .normal, rehearsal := false,
    overspeed := false, counts := ⟨0, 0, 0, 0⟩, accepted := 0, rejected := 0, dropped := 0, captured := 0, missed := 0,
    lost := 0, lastIndex := 0, estimates := none, approachInUse := false, departureInUse := false, approachOpen := none }

/-- A track channel after a reset (R20, R22, R55, R76, R77, R159), with every pin low (log entry 6). -/
def Channel.reset : Channel :=
  { state := .offline, mode := none, geometryValid := false, geometry := ⟨0, 0, 0, 0, 0, 0⟩, debounce := 100,
    clearInterval := 10000, dormantDelay := 600, staleLimit := 1000, jumpLimit := 20, lengthMin := 150, lengthMax := 900,
    margin := 3000,
    wheels := ⟨⟨false, none⟩, ⟨false, none⟩, ⟨false, none⟩, ⟨false, none⟩⟩,
    detectors := ⟨⟨false, false, false, none⟩, ⟨false, false, false, none⟩⟩,
    synthetic := [], generator := { schedule := [], acceptedAt := 0, liveStrobe := false },
    clearTimer := none, dormantTimer := none, staleTimer := none, closingSince := none,
    passage := Passage.reset, approach := AxlePair.reset, departure := AxlePair.reset,
    window := [], speed := .absent, heads := [] }

/-- A camera after a pin reset, with the default settings (R103, R116). -/
def Camera.reset : Camera :=
  { track := none, blur := 2000, exposureMin := 10, exposureMax := 2000, recovery := 50000, warmUp := 500,
    windowLength := 5000, state := .off, cpwr := false, ctrg := false, lastExposure := none, confirm := none,
    noReturnRun := 0, takenTotal := 0, confirmedTotal := 0, noReturnTotal := 0 }

/-- A strobe after a reset (R118, R132). -/
def Strobe.reset : Strobe :=
  { base := 50000, factor := 500, maxPulse := 500, state := .off, sfire := false, lastPulse := none }

/-- An inhibit input after a reset: enabled and active-low (R125), its level low (log entry 6). -/
def InhibitInput.reset : InhibitInput := { level := false, enabled := true, activeHigh := false }

/-- A health entry after a reset (R144). -/
def Health.reset : Health := { score := 0, state := .normal, progress := 0, faults := 0, goods := 0 }

/-- The tracker after a pin reset (R158); `window` and `seen` have no meaning outside LOCKED (log entry 25). -/
def Tracker.reset : Tracker :=
  { enabled := false, falling := false, state := .free, misses := 0, window := 0#48, seen := false, corrections := [],
    phaseError := none }

/-- The record store after a reset (R173). -/
def Store.reset : Store := { records := [], nextNumber := 1, policy := .keep, threshold := 1, offered := [] }

/-- The link unit after a pin reset that sampled `baud` (R185). -/
def Link.reset (baud : BitVec 2) : Link :=
  { baud := baud, receiver := .hunting, queue := [], transmission := none }

/-- The attention unit after a reset (R181, R183, R184). -/
def Attention.reset : Attention :=
  { latched := 0#12, mask := 0#12, mode := .level, attn := false, pulseEnds := none }

/-- A binding after a reset (R82). -/
def Binding.reset : Binding := { plan := none, tolerance := 100 }

/-- The machine right after the release of a pin reset, with every input pin low and both straps low (log entries 6 and
7): the enabled active-low inhibit inputs then make the inhibit active (R125). -/
def State.reset : State :=
  { ticks := 0, localTime := 0#48, tracker := Tracker.reset,
    channels := ⟨Channel.reset, Channel.reset⟩,
    plans := Vector.replicate 4 [],
    bindings := ⟨⟨Binding.reset, Binding.reset⟩, ⟨Binding.reset, Binding.reset⟩⟩,
    timeline := [],
    cameras := Vector.replicate 8 Camera.reset,
    strobes := Vector.replicate 6 Strobe.reset,
    chargeQueue := [], charger := none, chgEn := false, chgSel := 0#3,
    inhibits := Vector.replicate 4 InhibitInput.reset, inhibit := true,
    health := Vector.replicate 12 Health.reset, autoRejoin := true,
    store := Store.reset, link := Link.reset 0#2, attention := Attention.reset,
    pending := [], choices := 0 }

end Sys2Proof.Machine
end

