-- ==== Sys2Proof/Machine/Ops.lean ====
section
/-! DEFINITION. The named operations that every block shares: comparison of instants, rounding and saturation, the names of
sensors and pairs, and reading and updating one part of the state. -/

namespace Sys2Proof.Machine

/-! ## Local time (R146) -/

/-- `a` minus `b`, modulo 2^48 read as a signed 48-bit number (R146). -/
def timeDiff (a b : LocalTime) : Int := (a - b).toInt

/-- Instant `a` lies at or before instant `b` (R146). -/
def atOrBefore (a b : LocalTime) : Bool := timeDiff a b ≤ 0

/-- Instant `a` lies after instant `b` (R146). -/
def after (a b : LocalTime) : Bool := 0 < timeDiff a b

/-- The span from `a` to `b` in microseconds, 0 where `b` does not lie after `a`. -/
def span (a b : LocalTime) : Nat := (timeDiff b a).toNat

/-- The instant `n` microseconds after `t`, wrapping at 2^48 (R146). -/
def later (t : LocalTime) (n : Nat) : LocalTime := t + BitVec.ofNat 48 n

/-- The instant `n` microseconds before `t`, wrapping at 2^48. -/
def earlier (t : LocalTime) (n : Nat) : LocalTime := t - BitVec.ofNat 48 n

/-! ## Arithmetic -/

/-- Division rounded up. -/
def ceilDiv (a b : Nat) : Nat := (a + b - 1) / b

/-- `n + 1`, saturating at `top`. -/
def satSucc (top n : Nat) : Nat := if n < top then n + 1 else top

/-- `x` lies from `low` to `high`, both ends included. -/
def inRange (low high x : Nat) : Bool := low ≤ x && x ≤ high

/-- `x` lies from `low` to `high`, both ends included. -/
def inRangeInt (low high x : Int) : Bool := low ≤ x && x ≤ high

/-- The limit of the 8-bit counts of a PASSAGE record (R18). -/
def top8 : Nat := 255
/-- The limit of the 16-bit pulse counts (R11). -/
def top16 : Nat := 65535
/-- The limit of the 32-bit totals (R113, R135). -/
def top32 : Nat := 4294967295

/-- Keep a position within a signed 32-bit number (R51). -/
def clampPosition (x : Int) : Int := max (-2147483648) (min 2147483647 x)

/-- Insert `x` before the first element that `goesBefore` says it goes before. -/
def insertSorted {α : Type} (goesBefore : α → α → Bool) (x : α) : List α → List α
  | [] => [x]
  | y :: rest => if goesBefore x y then x :: y :: rest else y :: insertSorted goesBefore x rest

/-- Sort by insertion; elements neither of which goes before the other keep their order. -/
def sortBy {α : Type} (goesBefore : α → α → Bool) : List α → List α
  | [] => []
  | x :: rest => insertFirst goesBefore x (sortBy goesBefore rest)
where
  /-- Insert `x`, which stood ahead of every element of the list, before the first that does not go before it. -/
  insertFirst (goesBefore : α → α → Bool) (x : α) : List α → List α
    | [] => [x]
    | y :: rest => if goesBefore y x then y :: insertFirst goesBefore x rest else x :: y :: rest

/-! ## Families of like things -/

/-- The part of a track. -/
def PerTrack.get {α : Type} (p : PerTrack α) : TrackId → α
  | .t1 => p.t1
  | .t2 => p.t2

/-- Replace the part of a track. -/
def PerTrack.set {α : Type} (p : PerTrack α) (t : TrackId) (x : α) : PerTrack α :=
  match t with
  | .t1 => { p with t1 := x }
  | .t2 => { p with t2 := x }

/-- The part of a wheel sensor. -/
def PerSensor.get {α : Type} (p : PerSensor α) : WheelSensor → α
  | .wao => p.wao
  | .wai => p.wai
  | .wbi => p.wbi
  | .wbo => p.wbo

/-- Replace the part of a wheel sensor. -/
def PerSensor.set {α : Type} (p : PerSensor α) (w : WheelSensor) (x : α) : PerSensor α :=
  match w with
  | .wao => { p with wao := x }
  | .wai => { p with wai := x }
  | .wbi => { p with wbi := x }
  | .wbo => { p with wbo := x }

/-- The part of a head detector. -/
def PerDetector.get {α : Type} (p : PerDetector α) : Detector → α
  | .hda => p.hda
  | .hdb => p.hdb

/-- Replace the part of a head detector. -/
def PerDetector.set {α : Type} (p : PerDetector α) (d : Detector) (x : α) : PerDetector α :=
  match d with
  | .hda => { p with hda := x }
  | .hdb => { p with hdb := x }

/-- The part of a direction. -/
def PerDirection.get {α : Type} (p : PerDirection α) : Direction → α
  | .ab => p.ab
  | .ba => p.ba

/-- Replace the part of a direction. -/
def PerDirection.set {α : Type} (p : PerDirection α) (d : Direction) (x : α) : PerDirection α :=
  match d with
  | .ab => { p with ab := x }
  | .ba => { p with ba := x }

/-- Replace one entry of a vector by a function of it. -/
def updateAt {α : Type} {n : Nat} (v : Vector α n) (i : Fin n) (f : α → α) : Vector α n := v.set i (f v[i])

/-- The tracks. -/
def allTracks : List TrackId := [.t1, .t2]
/-- The wheel sensors of a track, in their fixed order (R18). -/
def allSensors : List WheelSensor := [.wao, .wai, .wbi, .wbo]
/-- The head detectors of a track. -/
def allDetectors : List Detector := [.hda, .hdb]
/-- The cameras C0 to C7. -/
def allCameras : List (Fin 8) := [0, 1, 2, 3, 4, 5, 6, 7]
/-- The strobes S0 to S5. -/
def allStrobes : List (Fin 6) := [0, 1, 2, 3, 4, 5]
/-- The inhibit inputs INH0 to INH3. -/
def allInhibits : List (Fin 4) := [0, 1, 2, 3]
/-- The twelve sensors of the part, by index (R133). -/
def allSensorIndices : List (Fin 12) := [0, 1, 2, 3, 4, 5, 6, 7, 8, 9, 10, 11]

/-- The other track. -/
def otherTrack : TrackId → TrackId
  | .t1 => .t2
  | .t2 => .t1

/-! ## Updating one part of the state -/

/-- The channel of a track. -/
def State.channel (s : State) (t : TrackId) : Channel := s.channels.get t

/-- Replace the channel of a track by a function of it. -/
def State.updChannel (s : State) (t : TrackId) (f : Channel → Channel) : State :=
  { s with channels := s.channels.set t (f (s.channels.get t)) }

/-- Replace the current passage of a track by a function of it. -/
def State.updPassage (s : State) (t : TrackId) (f : Passage → Passage) : State :=
  s.updChannel t fun c => { c with passage := f c.passage }

/-- A camera. -/
def State.camera (s : State) (i : Fin 8) : Camera := s.cameras[i]

/-- Replace a camera by a function of it. -/
def State.updCamera (s : State) (i : Fin 8) (f : Camera → Camera) : State :=
  { s with cameras := updateAt s.cameras i f }

/-- A strobe. -/
def State.strobe (s : State) (i : Fin 6) : Strobe := s.strobes[i]

/-- Replace a strobe by a function of it. -/
def State.updStrobe (s : State) (i : Fin 6) (f : Strobe → Strobe) : State :=
  { s with strobes := updateAt s.strobes i f }

/-- Replace a health entry by a function of it. -/
def State.updHealth (s : State) (i : Fin 12) (f : Health → Health) : State :=
  { s with health := updateAt s.health i f }

/-- The open head of a track with a head index, if it is still in the head list. -/
def State.findHead (s : State) (t : TrackId) (index : Nat) : Option Head :=
  (s.channel t).heads.find? fun h => h.index == index

/-- Replace the open head of a track with a head index by a function of it. -/
def State.updHead (s : State) (t : TrackId) (index : Nat) (f : Head → Head) : State :=
  s.updChannel t fun c => { c with heads := c.heads.map fun h => if h.index = index then f h else h }

/-! ## The two pairs and their sensors (R23, R27, R133) -/

/-- The two pairs of a track, by role. -/
inductive PairRole where
  | approach | departure
  deriving DecidableEq, Repr

/-- The pair of a role. -/
def Channel.pair (c : Channel) : PairRole → AxlePair
  | .approach => c.approach
  | .departure => c.departure

/-- Replace the pair of a role by a function of it. -/
def Channel.updPair (c : Channel) (r : PairRole) (f : AxlePair → AxlePair) : Channel :=
  match r with
  | .approach => { c with approach := f c.approach }
  | .departure => { c with departure := f c.departure }

/-- The first and the second sensor of a pair in a direction (R27). -/
def pairSensors : Direction → PairRole → WheelSensor × WheelSensor
  | .ab, .approach => (.wao, .wai)
  | .ab, .departure => (.wbi, .wbo)
  | .ba, .approach => (.wbo, .wbi)
  | .ba, .departure => (.wai, .wao)

/-- The pair of a sensor in a direction, and whether it is the pair's first sensor (R27). -/
def sensorRole : Direction → WheelSensor → PairRole × Bool
  | .ab, .wao => (.approach, true)
  | .ab, .wai => (.approach, false)
  | .ab, .wbi => (.departure, true)
  | .ab, .wbo => (.departure, false)
  | .ba, .wbo => (.approach, true)
  | .ba, .wbi => (.approach, false)
  | .ba, .wai => (.departure, true)
  | .ba, .wao => (.departure, false)

/-- The direction that an outer sensor opens a passage in; inner sensors open none (R9). -/
def openingDirection : WheelSensor → Option Direction
  | .wao => some .ab
  | .wbo => some .ba
  | .wai => none
  | .wbi => none

/-- The approach detector of a direction (R56). -/
def approachDetector : Direction → Detector
  | .ab => .hda
  | .ba => .hdb

/-- The departure detector of a direction (R56). -/
def departureDetector : Direction → Detector
  | .ab => .hdb
  | .ba => .hda

/-- The health index of a wheel sensor (R133). -/
def wheelIndex : TrackId → WheelSensor → Fin 12
  | .t1, .wao => 0
  | .t1, .wai => 1
  | .t1, .wbi => 2
  | .t1, .wbo => 3
  | .t2, .wao => 6
  | .t2, .wai => 7
  | .t2, .wbi => 8
  | .t2, .wbo => 9

/-- The health index of a head detector (R133). -/
def detectorIndex : TrackId → Detector → Fin 12
  | .t1, .hda => 4
  | .t1, .hdb => 5
  | .t2, .hda => 10
  | .t2, .hdb => 11

/-- The travel-frame geometry of a passage (R23): positions in mm with the camera plane at 0, spacings and distances. -/
structure TravelFrame where
  approachOuter : Int
  approachInner : Int
  approachHead : Int
  departureHead : Int
  departureInner : Int
  departureOuter : Int
  approachSpacing : Nat
  departureSpacing : Nat
  approachDistance : Nat
  departureDistance : Nat
  deriving DecidableEq, Repr

/-- The travel-frame geometry of a direction, from the stored geometry (R23). -/
def travelFrame (g : Geometry) : Direction → TravelFrame
  | .ab =>
    { approachOuter := g.wao, approachInner := g.wai, approachHead := g.hda, departureHead := g.hdb,
      departureInner := g.wbi, departureOuter := g.wbo,
      approachSpacing := (g.wai - g.wao).toNat, departureSpacing := (g.wbo - g.wbi).toNat,
      approachDistance := g.hda.natAbs, departureDistance := g.hdb.natAbs }
  | .ba =>
    { approachOuter := -g.wbo, approachInner := -g.wbi, approachHead := -g.hdb, departureHead := -g.hda,
      departureInner := -g.wai, departureOuter := -g.wao,
      approachSpacing := (g.wbo - g.wbi).toNat, departureSpacing := (g.wai - g.wao).toNat,
      approachDistance := g.hdb.natAbs, departureDistance := g.hda.natAbs }

/-- The travel-frame geometry of a track's passage. -/
def Channel.frame (c : Channel) : TravelFrame := travelFrame c.geometry c.passage.direction

/-- The spacing of a pair (R23). -/
def TravelFrame.spacing (f : TravelFrame) : PairRole → Nat
  | .approach => f.approachSpacing
  | .departure => f.departureSpacing

/-! ## Conditions of a track -/

/-- The track is IDLE or PASSAGE: its cameras are powered and it counts toward strobe power (R7). -/
def Channel.awake (c : Channel) : Bool := c.state = .idle || c.state = .passage

/-- The track is in PASSAGE and its passage is closing (R14). -/
def Channel.closing (c : Channel) : Bool := c.state = .passage && c.passage.closed.isSome

/-- The track is in PASSAGE, not closing: wheel pulses are counted (R26). -/
def Channel.counting (c : Channel) : Bool := c.state = .passage && c.passage.closed.isNone

/-- The track is in PASSAGE with outcome NORMAL, not closing: pairs match and heads are handled (R26, R58). -/
def Channel.tracking (c : Channel) : Bool := c.counting && c.passage.outcome = .normal

/-- The estimate, present in FRESH and STALE (R45). -/
def Speed.estimate : Speed → Option Nat
  | .absent => none
  | .fresh v => some v
  | .stale v => some v

/-- The speed an anchor made now takes: the estimate in FRESH and 0 in STALE (R50). -/
def Speed.anchorSpeed : Speed → Nat
  | .absent => 0
  | .fresh v => v
  | .stale _ => 0

/-- A timer has run out: it runs, and its tick has been reached. -/
def timerDue (timer : Option Nat) (ticks : Nat) : Bool :=
  match timer with
  | some d => d ≤ ticks
  | none => false

/-- Ticks in a millisecond. -/
def ticksPerMs : Nat := 1000
/-- Ticks in a second. -/
def ticksPerS : Nat := 1000000

end Sys2Proof.Machine
end

