-- ==== Sys2Proof/Machine/Flags.lean ====
section
/-! DEFINITION. The attention flags: the twelve events, the latched set, the mask and the ATTN output (R181 to R184). -/

namespace Sys2Proof.Machine

/-- The twelve attention events (section 12.4). -/
inductive Event where
  | storeLevel | storeLoss | passageAbnormal | sensorDegraded | sensorExcluded | sensorRejoined
  | cameraFault | refMissed | refLost | refLocked | linkOverrun | rehearsalDone
  deriving DecidableEq, Repr

/-- The mask bit of an event (section 12.4). -/
def Event.bit : Event → Nat
  | .storeLevel => 0
  | .storeLoss => 1
  | .passageAbnormal => 2
  | .sensorDegraded => 3
  | .sensorExcluded => 4
  | .sensorRejoined => 5
  | .cameraFault => 6
  | .refMissed => 7
  | .refLost => 8
  | .refLocked => 9
  | .linkOverrun => 10
  | .rehearsalDone => 11

/-- The event's bit alone. -/
def Event.mask (e : Event) : BitVec 12 := BitVec.twoPow 12 e.bit

/-- The unmasked latched events (R184). -/
def Attention.unmasked (a : Attention) : BitVec 12 := a.latched &&& ~~~a.mask

/-- The ATTN level of LEVEL mode (R184); in EDGE mode the pin is as its pulse left it. -/
def Attention.settle (a : Attention) : Attention :=
  match a.mode with
  | .level => { a with attn := a.unmasked != 0#12, pulseEnds := none }
  | .edge => a

/-- Start, or extend, an ATTN pulse of 8 ticks (R184). -/
def Attention.pulse (a : Attention) (ticks : Nat) : Attention :=
  { a with attn := true, pulseEnds := some (ticks + Config.attnPulse) }

/-- An event is handed to the link unit: it joins the latched set whatever the mask, without effect if it is already
latched (R181); an unmasked event that joins moves ATTN by the mode (R184). -/
def Attention.latch (a : Attention) (e : Event) (ticks : Nat) : Attention :=
  if a.latched &&& e.mask = 0#12 then
    let joined := { a with latched := a.latched ||| e.mask }
    match a.mode with
    | .level => joined.settle
    | .edge => if a.mask &&& e.mask = 0#12 then joined.pulse ticks else joined
  else a

/-- An event is handed to the link unit of the part (R181). -/
def State.latch (s : State) (e : Event) : State := { s with attention := s.attention.latch e s.ticks }

/-- READ EVENTS clears the events it reports: the whole latched set of this instant (R182). -/
def Attention.clear (a : Attention) : Attention := Attention.settle { a with latched := 0#12 }

/-- SET ATTENTION replaces the mask and the mode (R183) and moves ATTN by the new mode (R184). In EDGE mode a pulse starts
where an unmasked latched event was masked under the old settings; a change from LEVEL to EDGE deasserts ATTN first. -/
def Attention.configure (a : Attention) (mask : BitVec 12) (mode : AttnMode) (ticks : Nat) : Attention :=
  match mode with
  | .level => Attention.settle { a with mask := mask, mode := .level }
  | .edge =>
    let kept := if a.mode = .level then { a with attn := false, pulseEnds := none } else a
    let set := { kept with mask := mask, mode := .edge }
    if set.unmasked &&& ~~~a.unmasked != 0#12 then set.pulse ticks else set

/-- The ATTN pulse of EDGE mode has run its 8 ticks (R184). -/
def Attention.pulseDue (a : Attention) (ticks : Nat) : Bool := timerDue a.pulseEnds ticks

/-- The ATTN pulse ends and ATTN is deasserted (R184). -/
def Attention.endPulse (a : Attention) : Attention := { a with attn := false, pulseEnds := none }

end Sys2Proof.Machine
end

