-- ==== Sys2Proof/Machine/Operands.lean ====
section
/-! DEFINITION. The operand forms of the host link: little-endian fields of a request's body and of a reply, their codes,
the CRC and the frame (chapter 12, R175, R178, R186). -/

namespace Sys2Proof.Machine

/-! ## Fields, least significant byte first -/

/-- The number that bytes spell, least significant byte first. -/
def fromBytes : List Byte → Nat
  | [] => 0
  | b :: rest => b.toNat + 256 * fromBytes rest

/-- `n` bytes that spell a number, least significant byte first. -/
def toBytes : Nat → Nat → List Byte
  | 0, _ => []
  | n + 1, x => BitVec.ofNat 8 x :: toBytes n (x / 256)

/-- `n` bytes that spell a signed number in two's complement, least significant byte first. -/
def toBytesInt (n : Nat) (x : Int) : List Byte := toBytes n (x % (256 ^ n : Nat)).toNat

/-- An unsigned field of `n` bytes at an offset. -/
def field (body : List Byte) (offset n : Nat) : Nat := fromBytes ((body.drop offset).take n)

/-- A signed field of `n` bytes at an offset. -/
def fieldInt (body : List Byte) (offset n : Nat) : Int :=
  let x := field body offset n
  if 2 * x < 256 ^ n then (x : Int) else (x : Int) - (256 ^ n : Nat)

/-- A byte that is 0 or 1. -/
def isFlag (x : Nat) : Bool := x = 0 || x = 1

/-- The byte of a flag. -/
def boolByte (b : Bool) : Byte := if b then 1#8 else 0#8

/-- A local time is 6 bytes (R186). -/
def timeBytes (t : LocalTime) : List Byte := toBytes 6 t.toNat

/-- An optional local time: zero where it is absent (R186). -/
def optTimeBytes (t : Option LocalTime) : List Byte := timeBytes (t.getD 0#48)

/-- Flags packed into one byte, the first in bit 0. -/
def packBits (bits : List Bool) : Byte := BitVec.ofNat 8 (go bits)
where
  /-- The number whose bits they are. -/
  go : List Bool → Nat
    | [] => 0
    | b :: rest => b.toNat + 2 * go rest

/-! ## Codes on the link -/

/-- A track by its link number, 1 or 2. -/
def trackOfCode : Nat → Option TrackId
  | 1 => some .t1
  | 2 => some .t2
  | _ => none

/-- The link number of a track. -/
def trackCode : TrackId → Nat
  | .t1 => 1
  | .t2 => 2

/-- A direction by its code. -/
def directionOfCode : Nat → Option Direction
  | 0 => some .ab
  | 1 => some .ba
  | _ => none

/-- The code of a direction. -/
def directionCode : Direction → Nat
  | .ab => 0
  | .ba => 1

/-- A camera by its number. -/
def cameraOfCode (n : Nat) : Option (Fin 8) := if h : n < 8 then some ⟨n, h⟩ else none
/-- A strobe by its number. -/
def strobeOfCode (n : Nat) : Option (Fin 6) := if h : n < 6 then some ⟨n, h⟩ else none
/-- A plan by its number. -/
def planOfCode (n : Nat) : Option (Fin 4) := if h : n < 4 then some ⟨n, h⟩ else none
/-- A sensor by its index (R133). -/
def sensorOfCode (n : Nat) : Option (Fin 12) := if h : n < 12 then some ⟨n, h⟩ else none

/-- Track state codes (R19). -/
def TrackState.code : TrackState → Nat
  | .offline => 0
  | .idle => 1
  | .dormant => 2
  | .passage => 3

/-- Mode codes (R19). -/
def Mode.code : Mode → Nat
  | .live => 1
  | .rehearsal => 2

/-- Passage outcome codes (R186). -/
def PassageOutcome.code : PassageOutcome → Nat
  | .normal => 0
  | .reversed => 1
  | .conflict => 2
  | .aborted => 3

/-- Speed state codes (R186). -/
def Speed.code : Speed → Nat
  | .absent => 0
  | .fresh _ => 1
  | .stale _ => 2

/-- Pair state codes (R186). -/
def PairState.code : PairState → Nat
  | .normal => 0
  | .slipped => 1
  | .out => 2

/-- Open head status codes (R186). -/
def HeadStatus.code : HeadStatus → Nat
  | .untimed => 0
  | .scheduled => 1
  | .held => 2
  | .finished => 3

/-- Final head status codes (R186). -/
def FinalStatus.code : FinalStatus → Nat
  | .captured => 0
  | .noShot => 1
  | .missed => 2
  | .cancelled => 3
  | .unbound => 4

/-- Shot outcome codes (R186). -/
def ShotOutcome.code : ShotOutcome → Nat
  | .takenLit => 0
  | .takenUnlit => 1
  | .notReady => 2
  | .cameraBusy => 3
  | .cameraFailed => 4
  | .late => 5

/-- Unlit reason codes (R186). -/
def UnlitReason.code : UnlitReason → Nat
  | .noStrobe => 0
  | .inhibited => 1
  | .strobeNotReady => 2
  | .rehearsalDark => 3

/-- Confirmation codes of a shot (R186). -/
def Confirmation.code : Confirmation → Nat
  | .unsettled => 0
  | .confirmed => 1
  | .noReturn => 2
  | .aborted => 3

/-- Camera state codes (R113). -/
def CameraState.code : CameraState → Nat
  | .off => 0
  | .warming _ => 1
  | .ready => 2
  | .exposing _ _ => 3
  | .recovering => 4
  | .failed => 5

/-- Strobe state codes (R130). -/
def StrobeState.code : StrobeState → Nat
  | .off => 0
  | .empty => 1
  | .charging => 2
  | .ready => 3
  | .firing _ _ _ => 4

/-- Health state codes (R143). -/
def HealthState.code : HealthState → Nat
  | .normal => 0
  | .degraded => 1
  | .excluded => 2

/-- Tracker state codes (R156). -/
def TrackerState.code : TrackerState → Nat
  | .free => 0
  | .search => 1
  | .locked => 2
  | .holdover => 3

/-! ## Plan steps (R186, the plan step of 6 bytes) -/

/-- A plan step in 6 bytes. Operand bytes that a kind does not use are zero (R80). -/
def Step.bytes : Step → List Byte
  | .atPos p => 0x01#8 :: toBytesInt 4 p ++ [0#8]
  | .after d => 0x02#8 :: toBytes 4 d ++ [0#8]
  | .expose c none => [0x03#8, BitVec.ofNat 8 c.val, 0#8, 0#8, 0#8, 0#8]
  | .expose c (some x) => [0x03#8, BitVec.ofNat 8 c.val, 1#8, BitVec.ofNat 8 x.val, 0#8, 0#8]
  | .mark => [0x04#8, 0#8, 0#8, 0#8, 0#8, 0#8]

/-- The plan step that 6 bytes spell, where the kind and the operands lie in range (R79, R80). -/
def stepOfBytes (b : List Byte) : Option Step :=
  match field b 0 1 with
  | 1 => if inRangeInt (-40000) 40000 (fieldInt b 1 4) then some (.atPos (fieldInt b 1 4)) else none
  | 2 => if inRange 1 1000000 (field b 1 4) then some (.after (field b 1 4)) else none
  | 3 =>
    match cameraOfCode (field b 1 1), field b 2 1 with
    | some c, 0 => some (.expose c none)
    | some c, 1 => (strobeOfCode (field b 3 1)).map fun x => .expose c (some x)
    | _, _ => none
  | 4 => some .mark
  | _ => none

/-- `n` plan steps of 6 bytes each; none where one of them is out of range. -/
def stepsOfBytes : Nat → List Byte → Option (List Step)
  | 0, _ => some []
  | n + 1, b =>
    match stepOfBytes (b.take 6), stepsOfBytes n (b.drop 6) with
    | some x, some rest => some (x :: rest)
    | _, _ => none

/-! ## Records (R186) -/

/-- A shot entry in 18 bytes; an absent field is zero (R186). The start time is sent as its offset from the due time. -/
def Shot.bytes (x : Shot) : List Byte :=
  [BitVec.ofNat 8 x.step, BitVec.ofNat 8 x.camera.val, BitVec.ofNat 8 ((x.strobe.map (·.val)).getD 0),
    packBits [x.strobe.isSome, x.start.isSome, x.exposure.isSome, x.unlit.isSome],
    BitVec.ofNat 8 x.outcome.code, BitVec.ofNat 8 ((x.unlit.map UnlitReason.code).getD 0),
    BitVec.ofNat 8 x.confirmation.code, packBits [x.clamped, x.flashCut]]
  ++ timeBytes x.due
  ++ toBytes 2 ((x.start.map (span x.due)).getD 0)
  ++ toBytes 2 (x.exposure.getD 0)

/-- A mark entry in 7 bytes (R186). -/
def Mark.bytes (m : Mark) : List Byte := BitVec.ofNat 8 m.step :: timeBytes m.instant

/-- The body of a HEAD record; `displaced` is its PREDECESSOR_DISPLACED flag (R74, R186). -/
def HeadRecord.bytes (r : HeadRecord) (displaced : Bool) : List Byte :=
  toBytes 2 r.passage
  ++ [BitVec.ofNat 8 r.index, BitVec.ofNat 8 (directionCode r.direction), BitVec.ofNat 8 r.status.code,
    packBits [r.length.isSome, r.firstSpeed.isSome, r.predicted.isSome, r.observed.isSome, r.error.isSome],
    packBits [r.speedHeld, r.rehearsal, r.overspeed, displaced], boolByte r.confirmed]
  ++ timeBytes r.detected
  ++ toBytes 4 r.duration
  ++ toBytes 2 (r.length.getD 0)
  ++ toBytes 4 (r.firstSpeed.getD 0)
  ++ optTimeBytes r.predicted
  ++ optTimeBytes r.observed
  ++ toBytesInt 4 (r.error.getD 0)
  ++ [BitVec.ofNat 8 r.shots.length, BitVec.ofNat 8 r.marks.length]
  ++ r.shots.flatMap Shot.bytes
  ++ r.marks.flatMap Mark.bytes

/-- The body of a PASSAGE record (R18, R186). -/
def PassageRecord.bytes (r : PassageRecord) : List Byte :=
  toBytes 2 r.number
  ++ [BitVec.ofNat 8 (directionCode r.direction), BitVec.ofNat 8 r.outcome.code, packBits [r.rehearsal, r.overspeed],
    packBits [r.agreed.isSome, r.estimates.isSome]]
  ++ timeBytes r.opened
  ++ timeBytes r.closed
  ++ toBytes 2 r.counts.wao ++ toBytes 2 r.counts.wai ++ toBytes 2 r.counts.wbi ++ toBytes 2 r.counts.wbo
  ++ toBytes 2 (r.agreed.getD 0)
  ++ [BitVec.ofNat 8 r.accepted, BitVec.ofNat 8 r.rejected, BitVec.ofNat 8 r.dropped, BitVec.ofNat 8 r.captured,
    BitVec.ofNat 8 r.missed]
  ++ toBytes 4 ((r.estimates.map (·.1)).getD 0)
  ++ toBytes 4 ((r.estimates.map (·.2)).getD 0)
  ++ [BitVec.ofNat 8 r.approach.code, BitVec.ofNat 8 r.departure.code, BitVec.ofNat 8 r.lost]

/-- The kind of a record in its header (R186): 1 HEAD, 2 PASSAGE. -/
def RecordBody.kindCode : RecordBody → Nat
  | .head _ => 1
  | .passage _ => 2

/-- A record: its 11-byte header and its fields (R186). -/
def Record.bytes (r : Record) : List Byte :=
  toBytes 2 r.number
  ++ [BitVec.ofNat 8 r.body.kindCode, BitVec.ofNat 8 (trackCode r.track)]
  ++ timeBytes r.stored
  ++ [boolByte r.displaced]
  ++ (match r.body with
      | .head h => h.bytes r.displaced
      | .passage p => p.bytes)

/-! ## Status codes and request kinds (R178) -/

/-- The status of a reply (R178). -/
inductive Status where
  | ok | unknownKind | badLength | badValue | wrongState | empty | notFound
  deriving DecidableEq, Repr

/-- The code of a status (R178). -/
def Status.code : Status → Byte
  | .ok => 0x00#8
  | .unknownKind => 0x01#8
  | .badLength => 0x02#8
  | .badValue => 0x03#8
  | .wrongState => 0x04#8
  | .empty => 0x05#8
  | .notFound => 0x06#8

/-- The request kinds (R178). -/
inductive RequestKind where
  | identify | restart | readEvents | setAttention
  | setTrackGeometry | setTrackTiming | setTrackMode | readTrack | setSpeedFilter | setHeadLimits
  | setCamera | resetCamera | readCameras
  | setStrobe | setInhibit | readStrobes
  | loadPlan | bindPlan | readPlan
  | fetchRecord | releaseRecord | setStore
  | readHealth | rejoinSensor | setHealth
  | setTime | readTime | setReference
  | rehearse
  deriving DecidableEq, Repr

/-- The code of a request kind (R178). -/
def RequestKind.code : RequestKind → Byte
  | .identify => 0x01#8
  | .restart => 0x02#8
  | .readEvents => 0x03#8
  | .setAttention => 0x04#8
  | .setTrackGeometry => 0x10#8
  | .setTrackTiming => 0x11#8
  | .setTrackMode => 0x12#8
  | .readTrack => 0x13#8
  | .setSpeedFilter => 0x14#8
  | .setHeadLimits => 0x15#8
  | .setCamera => 0x20#8
  | .resetCamera => 0x21#8
  | .readCameras => 0x22#8
  | .setStrobe => 0x28#8
  | .setInhibit => 0x29#8
  | .readStrobes => 0x2A#8
  | .loadPlan => 0x30#8
  | .bindPlan => 0x31#8
  | .readPlan => 0x32#8
  | .fetchRecord => 0x40#8
  | .releaseRecord => 0x41#8
  | .setStore => 0x42#8
  | .readHealth => 0x50#8
  | .rejoinSensor => 0x51#8
  | .setHealth => 0x52#8
  | .setTime => 0x60#8
  | .readTime => 0x61#8
  | .setReference => 0x62#8
  | .rehearse => 0x70#8

/-- The request kind of a KIND byte; none where the table of R178 does not hold it. -/
def kindOfByte (b : Byte) : Option RequestKind :=
  match b.toNat with
  | 0x01 => some .identify
  | 0x02 => some .restart
  | 0x03 => some .readEvents
  | 0x04 => some .setAttention
  | 0x10 => some .setTrackGeometry
  | 0x11 => some .setTrackTiming
  | 0x12 => some .setTrackMode
  | 0x13 => some .readTrack
  | 0x14 => some .setSpeedFilter
  | 0x15 => some .setHeadLimits
  | 0x20 => some .setCamera
  | 0x21 => some .resetCamera
  | 0x22 => some .readCameras
  | 0x28 => some .setStrobe
  | 0x29 => some .setInhibit
  | 0x2A => some .readStrobes
  | 0x30 => some .loadPlan
  | 0x31 => some .bindPlan
  | 0x32 => some .readPlan
  | 0x40 => some .fetchRecord
  | 0x41 => some .releaseRecord
  | 0x42 => some .setStore
  | 0x50 => some .readHealth
  | 0x51 => some .rejoinSensor
  | 0x52 => some .setHealth
  | 0x60 => some .setTime
  | 0x61 => some .readTime
  | 0x62 => some .setReference
  | 0x70 => some .rehearse
  | _ => none

/-- The body has the length its kind requires (R178, and the owner's rule of each request). -/
def bodyLengthOk (kind : RequestKind) (body : List Byte) : Bool :=
  match kind with
  | .identify | .restart | .readEvents | .readCameras | .readStrobes | .fetchRecord | .readHealth | .readTime =>
    body.length = 0
  | .setAttention => body.length = 3
  | .setTrackGeometry => body.length = 27
  | .setTrackTiming => body.length = 7
  | .setTrackMode => body.length = 2
  | .readTrack => body.length = 1
  | .setSpeedFilter => body.length = 4
  | .setHeadLimits => body.length = 7
  | .setCamera => body.length = 18
  | .resetCamera => body.length = 1
  | .setStrobe => body.length = 9
  | .setInhibit => body.length = 8
  | .loadPlan => 2 ≤ body.length && body.length = 2 + 6 * field body 1 1
  | .bindPlan => body.length = 6
  | .readPlan => body.length = 1
  | .releaseRecord => body.length = 2
  | .setStore => body.length = 2
  | .rejoinSensor => body.length = 1
  | .setHealth => body.length = 1
  | .setTime => body.length = 4
  | .setReference => body.length = 2
  | .rehearse => 11 ≤ body.length && body.length = 11 + 3 * field body 9 1 + 5 * field body 10 1

/-- What handling a request gives: the state after it, the status and the reply fields after the status byte. -/
structure Answer where
  state : State
  status : Status
  fields : List Byte

/-- A refused request changes nothing, and its reply is the status byte alone (R178). -/
def refuse (s : State) (status : Status) : Answer := { state := s, status := status, fields := [] }

/-- An accepted request. -/
def accept (s : State) (fields : List Byte) : Answer := { state := s, status := .ok, fields := fields }

/-! ## CRC and frames (R175) -/

/-- One bit of the CRC shift register, polynomial 0x1021. -/
def crcBit (r : BitVec 16) : BitVec 16 := if r.msb then (r <<< 1) ^^^ 0x1021#16 else r <<< 1

/-- One byte of the CRC, without reflection. -/
def crcByte (r : BitVec 16) (b : Byte) : BitVec 16 :=
  crcBit (crcBit (crcBit (crcBit (crcBit (crcBit (crcBit (crcBit (r ^^^ (b.setWidth 16 <<< 8)))))))))

/-- CRC-16 over bytes, initial value 0xFFFF, without final inversion (R175). -/
def crc (bytes : List Byte) : BitVec 16 := bytes.foldl crcByte 0xFFFF#16

/-- A frame: SYNC, LEN, KIND, TAG, body, CRC over all but SYNC, low byte first (R175). -/
def frameBytes (kind tag : Byte) (body : List Byte) : List Byte :=
  let covered := BitVec.ofNat 8 body.length :: kind :: tag :: body
  Config.sync :: covered ++ toBytes 2 (crc covered).toNat

/-- A request frame from the host. -/
def Request.frame (q : Request) : List Byte := frameBytes q.kind q.tag q.body

/-- The reply frame to a request: KIND with bit 7 set, the TAG echoed, the status ahead of the fields (R178). -/
def replyFrame (q : Request) (status : Status) (fields : List Byte) : List Byte :=
  frameBytes (q.kind ||| 0x80#8) q.tag (status.code :: fields)

/-- The line levels of one byte, in order: start bit low, eight data bits least significant first, stop bit high
(R175). -/
def uartBits (b : Byte) : List Bool :=
  [false, b.getLsbD 0, b.getLsbD 1, b.getLsbD 2, b.getLsbD 3, b.getLsbD 4, b.getLsbD 5, b.getLsbD 6, b.getLsbD 7, true]

/-- The baud rate of the sampled straps, BAUD1 in bit 1 (R175). -/
def baudRate (straps : BitVec 2) : Nat :=
  match straps.toNat with
  | 0 => 115200
  | 1 => 460800
  | 2 => 921600
  | _ => 1843200

/-- Ticks that bytes sent back to back take, 10 bit times each (R178), rounded up to a whole tick (log entry 9). -/
def sendTicks (straps : BitVec 2) (bytes : Nat) : Nat := ceilDiv (bytes * 10 * 1000000) (baudRate straps)

end Sys2Proof.Machine
end

