-- ==== Sys2Proof/Machine/Health.lean ====
section
/-! DEFINITION. Sensor health: fault and good events, the report at passage close, rejoin, and the requests SET HEALTH,
REJOIN SENSOR and READ HEALTH (chapter 8). -/

namespace Sys2Proof.Machine

/-- The health state of a score (R134). -/
def healthOfScore (score : Nat) : HealthState :=
  if score < 96 then .normal else if score < 128 then .degraded else .excluded

/-- The event that a change of health state latches (R134). -/
def healthEvent (before now : HealthState) : Option Event :=
  match before, now with
  | .normal, .degraded => some .sensorDegraded
  | .normal, .excluded => some .sensorExcluded
  | .degraded, .excluded => some .sensorExcluded
  | _, _ => none

/-- Latch an event, if there is one. -/
def State.latchSome (s : State) : Option Event → State
  | some e => s.latch e
  | none => s

/-- The entry after its score became `score`; entry to EXCLUDED sets the rejoin progress to 0 (R134, R138). -/
def Health.withScore (h : Health) (score : Nat) : Health :=
  { h with score := score, state := healthOfScore score,
           progress := if healthOfScore score = .excluded then 0 else h.progress }

/-- The entry after a fault event (R135, R137). -/
def Health.fault (h : Health) : Health :=
  let counted := { h with faults := satSucc top32 h.faults }
  if h.state = .excluded then counted else counted.withScore (min 255 (h.score + 8))

/-- The entry after a good event (R136, R137). -/
def Health.good (h : Health) : Health :=
  let counted := { h with goods := satSucc top32 h.goods }
  if h.state = .excluded then counted else counted.withScore (h.score - 1)

/-- The entry after a rejoin: full trust, the totals as they were (R141, R142). -/
def Health.rejoin (h : Health) : Health := { h with score := 0, progress := 0, state := .normal }

/-- A fault event is reported for a sensor (R135). -/
def State.fault (s : State) (i : Fin 12) : State :=
  State.latchSome (s.updHealth i Health.fault) (healthEvent s.health[i].state s.health[i].fault.state)

/-- A good event is reported for a sensor (R136). -/
def State.good (s : State) (i : Fin 12) : State :=
  State.latchSome (s.updHealth i Health.good) (healthEvent s.health[i].state s.health[i].good.state)

/-- Report a fault event of a track's sensor, unless the passage is a rehearsal (R36, R75). -/
def State.faultUnlessRehearsal (s : State) (t : TrackId) (i : Fin 12) : State :=
  if (s.channel t).passage.rehearsal then s else s.fault i

/-- Report a good event of a track's sensor, unless the passage is a rehearsal (R36, R75). -/
def State.goodUnlessRehearsal (s : State) (t : TrackId) (i : Fin 12) : State :=
  if (s.channel t).passage.rehearsal then s else s.good i

/-- An EXCLUDED wheel sensor agreed with the vote: its progress rises to at most 3, and at 3 with the auto-rejoin switch
on it rejoins (R138, R141). -/
def State.agree (s : State) (i : Fin 12) : State :=
  let progress := min 3 (s.health[i].progress + 1)
  if progress = 3 && s.autoRejoin then (s.updHealth i Health.rejoin).latch .sensorRejoined
  else s.updHealth i fun h => { h with progress := progress }

/-- The close report for one wheel sensor (R138). -/
def State.reportSensor (s : State) (t : TrackId) (agreed : Option Nat) (counts : PerSensor Nat) (w : WheelSensor) : State :=
  let i := wheelIndex t w
  if s.health[i].state = .excluded then
    match agreed with
    | some n =>
      if counts.get w = n then s.agree i
      else (s.fault i).updHealth i fun h => { h with progress := 0 }
    | none => s.updHealth i fun h => { h with progress := 0 }
  else
    match agreed with
    | some n => if counts.get w = n then s else s.fault i
    | none => s

/-- The report at the close of a NORMAL passage that is not a rehearsal: the four wheel sensors in turn (R138). -/
def State.closeReport (s : State) (t : TrackId) (agreed : Option Nat) (counts : PerSensor Nat) : State :=
  allSensors.foldl (fun s w => s.reportSensor t agreed counts w) s

/-- SET HEALTH (R140). -/
def handleSetHealth (body : List Byte) (s : State) : Answer :=
  let x := field body 0 1
  if isFlag x then accept { s with autoRejoin := x = 1 } [] else refuse s .badValue

/-- REJOIN SENSOR (R142). -/
def handleRejoinSensor (body : List Byte) (s : State) : Answer :=
  match sensorOfCode (field body 0 1) with
  | some i => accept (s.updHealth i Health.rejoin) []
  | none => refuse s .badValue

/-- A health entry in 11 bytes (R143). -/
def Health.bytes (h : Health) : List Byte :=
  [BitVec.ofNat 8 h.state.code, BitVec.ofNat 8 h.score, BitVec.ofNat 8 h.progress] ++ toBytes 4 h.faults ++ toBytes 4 h.goods

/-- READ HEALTH (R143). -/
def handleReadHealth (_body : List Byte) (s : State) : Answer :=
  accept s (boolByte s.autoRejoin :: allSensorIndices.flatMap fun i => (s.health[i]).bytes)

end Sys2Proof.Machine
end

