-- ==== Sys2Proof/Machine/Motion.lean ====
section
/-! DEFINITION. The motion model of a head: position, due times, predicted crossing, departed instant, re-anchoring
(sections 3.5 and 4.4), and the speed arithmetic of a match (sections 3.1 to 3.3). -/

namespace Sys2Proof.Machine

/-- The position of a timed head at a time, in µm, rounded down and kept within 32 bits (R51). -/
def Anchor.positionAt (a : Anchor) (t : LocalTime) : Int :=
  clampPosition (a.position + ((a.speed * span a.time t / 1000 : Nat) : Int))

/-- Re-anchor at an instant to a speed (R52). -/
def Anchor.moveTo (a : Anchor) (t : LocalTime) (speed : Nat) : Anchor :=
  { time := t, position := a.positionAt t, speed := speed }

/-- The first instant at which the anchor gives a position of at least `target` µm; none at anchor speed 0 (R53, R66). -/
def Anchor.reaches (a : Anchor) (target : Int) : Option LocalTime :=
  if a.speed = 0 then none
  else if target - a.position ≤ 0 then some a.time
  else some (later a.time (ceilDiv ((target - a.position).toNat * 1000) a.speed))

/-- The due time of an AT wait at plan position `p` mm (R53). -/
def Anchor.dueAt (a : Anchor) (p : Int) : Option LocalTime := a.reaches (p * 1000)

/-- The threshold beyond which a head has departed, in µm (R66). -/
def departureThreshold (distance margin : Nat) : Int := ((distance + margin) * 1000 + 1 : Nat)

/-- An optional instant has come: it is present, and lies at or before now (R54, R66). -/
def hasCome (instant : Option LocalTime) (now : LocalTime) : Bool :=
  match instant with
  | some t => atOrBefore t now
  | none => false

/-- Recompute the predicted crossing of a head that has not crossed, and let it cross at once if the crossing does not
lie ahead (R54). -/
def Head.predict (h : Head) (now : LocalTime) : Head :=
  if h.crossed then h
  else
    let predicted := h.anchor.bind fun a => a.dueAt 0
    { h with predicted := predicted, crossed := hasCome predicted now }

/-- Recompute the departed instant of a head that has not departed, and set its departed flag at once if the instant does
not lie ahead (R66). -/
def Head.predictDeparture (h : Head) (threshold : Int) (now : LocalTime) : Head :=
  if h.departed then h
  else
    let departure := h.anchor.bind fun a => a.reaches threshold
    { h with departure := departure, departed := hasCome departure now }

/-- Re-anchor a timed head at an instant to a speed, with its crossing and its departed instant (R52, R54, R66). -/
def Head.reanchor (h : Head) (now : LocalTime) (speed : Nat) (threshold : Int) : Head :=
  Head.predictDeparture (Head.predict { h with anchor := h.anchor.map fun a => a.moveTo now speed } now) threshold now

/-- The length of a blocked interval at a speed, in mm (R59). -/
def lengthOf (estimate duration : Nat) : Nat := estimate * duration / 1000000

/-- A match is a crawl match (R39). -/
def isCrawl (spacing dt : Nat) : Bool := spacing * 1000000 < dt * Config.crawlSpeed

/-- The axle speed of a match before saturation, in mm/s (R39). -/
def rawSpeed (spacing dt : Nat) : Nat := spacing * 1000000 / dt

/-- The axle speed of a match (R39). -/
def axleSpeed (spacing dt : Nat) : Nat := min Config.topSpeed (rawSpeed spacing dt)

/-- The absolute difference of two speeds. -/
def speedGap (a b : Nat) : Nat := (a - b) + (b - a)

/-- An axle speed is plausible: judged against the estimate only in FRESH with at least two speeds in the window (R41). -/
def isPlausible (speed : Speed) (window : List Nat) (jumpLimit v : Nat) : Bool :=
  match speed with
  | .fresh estimate => window.length < 2 || speedGap v estimate * 100 ≤ jumpLimit * estimate
  | .stale _ => true
  | .absent => true

/-- The speed window after a plausible speed enters it (R43). -/
def enterWindow (speed : Speed) (window : List Nat) (v : Nat) : List Nat :=
  match speed with
  | .stale _ => [v]
  | .fresh _ => window.drop (window.length - 3) ++ [v]
  | .absent => window.drop (window.length - 3) ++ [v]

/-- The estimate that a window gives (R43). -/
def windowEstimate (window : List Nat) : Nat := window.sum / window.length

/-- Widen the minimum and maximum estimate of a passage (R44). -/
def widen (range : Option (Nat × Nat)) (estimate : Nat) : Option (Nat × Nat) :=
  match range with
  | none => some (estimate, estimate)
  | some (low, high) => some (min low estimate, max high estimate)

end Sys2Proof.Machine
end

