-- ==== Sys2Proof/Machine/Store.lean ====
section
/-! DEFINITION. The record store: numbering, offers, and the requests FETCH RECORD, RELEASE RECORD and SET STORE
(chapter 11). -/

namespace Sys2Proof.Machine

/-- The record number after `n`: advancing past 65,535 gives 1 (R167). -/
def nextRecordNumber (n : Nat) : Nat := if n < 65535 then n + 1 else 1

/-- The first number from `n` on that no held record carries, in at most `skips` skips (R167). -/
def freeNumber (used : List Nat) : Nat → Nat → Nat
  | 0, n => n
  | skips + 1, n => if n ∈ used then freeNumber used skips (nextRecordNumber n) else n

/-- The number that the store assigns next (R167). -/
def Store.assigned (st : Store) : Nat :=
  freeNumber (st.records.map fun r => r.number) st.records.length st.nextNumber

/-- Store a record at the tail with its number and its stored time (R167). -/
def Store.append (st : Store) (t : TrackId) (now : LocalTime) (displaced : Bool) (body : RecordBody) : Store :=
  { st with
    records := st.records ++ [{ number := st.assigned, track := t, stored := now, displaced := displaced, body := body }]
    nextNumber := nextRecordNumber st.assigned }

/-- The records-lost count of the passage rises when one of its HEAD records is discarded (R169). -/
def State.countLost (s : State) (t : TrackId) (body : RecordBody) : State :=
  match body with
  | .head _ => s.updPassage t fun p => { p with lost := satSucc top8 p.lost }
  | .passage _ => s

/-- A record is offered to the store (R168, R169). -/
def State.offer (s : State) (t : TrackId) (body : RecordBody) : State :=
  if s.store.records.length < Config.storeSlots then
    let stored := { s with store := s.store.append t s.localTime false body }
    if stored.store.records.length = s.store.threshold then stored.latch .storeLevel else stored
  else
    match s.store.policy with
    | .keep => (s.countLost t body).latch .storeLoss
    | .replace =>
      let freed := { s.store with records := s.store.records.drop 1 }
      State.latch { s with store := freed.append t s.localTime true body } .storeLoss

/-- FETCH RECORD (R170). -/
def handleFetchRecord (_body : List Byte) (s : State) : Answer :=
  match s.store.records with
  | [] => refuse s .empty
  | oldest :: _ => accept s (BitVec.ofNat 8 s.store.records.length :: oldest.bytes)

/-- Remove the record with a number from wherever it stands (R171). -/
def Store.release (st : Store) (number : Nat) : Store :=
  { st with records := st.records.filter fun r => r.number != number }

/-- RELEASE RECORD (R171). -/
def handleReleaseRecord (body : List Byte) (s : State) : Answer :=
  let number := field body 0 2
  if number = 0 then refuse s .badValue
  else if s.store.records.any fun r => r.number == number then accept { s with store := s.store.release number } []
  else refuse s .notFound

/-- SET STORE (R172). -/
def handleSetStore (body : List Byte) (s : State) : Answer :=
  let policy := field body 0 1
  let threshold := field body 1 1
  if isFlag policy && inRange 1 32 threshold then
    accept { s with store := { s.store with policy := if policy = 0 then .keep else .replace, threshold := threshold } } []
  else refuse s .badValue

end Sys2Proof.Machine
end

