-- ==== Sys2Proof/Machine/Heads.lean ====
section
/-! DEFINITION. Timeline entries, the closing of heads and of passages, and the hand-over of shot results (sections 1.5,
4.6, 4.7 and 5.7, R14 to R18, R70 to R74, R90, R97, R111). -/

namespace Sys2Proof.Machine

/-! ## Timeline entries (R90) -/

/-- The entry belongs to a head. -/
def TimelineEntry.isOf (e : TimelineEntry) (t : TrackId) (index : Nat) : Bool := e.track == t && e.index == index

/-- The entry of a head, if it has one. -/
def State.findEntry (s : State) (t : TrackId) (index : Nat) : Option TimelineEntry :=
  s.timeline.find? fun e => e.isOf t index

/-- Take the entry of a head off the timeline. -/
def State.dropEntry (s : State) (t : TrackId) (index : Nat) : State :=
  { s with timeline := s.timeline.filter fun e => !e.isOf t index }

/-- Put an entry on the timeline in order of due time, after entries with an equal one (R90, log entry 29). -/
def State.placeEntry (s : State) (e : TimelineEntry) : State :=
  { s with timeline := insertSorted (fun x y => after y.due x.due) e s.timeline }

/-! ## Shots at the cameras -/

/-- The shot belongs to a head of a passage. -/
def ShotRef.isOf (r : ShotRef) (t : TrackId) (passage index : Nat) : Bool :=
  r.track == t && r.passage == passage && r.index == index

/-- The shots a camera still exposes for or holds a window open for. -/
def Camera.openShots (c : Camera) : List ShotRef :=
  (match c.state with
   | .exposing shot _ => [shot]
   | _ => [])
  ++ (match c.confirm with
      | some w => [w.shot]
      | none => [])

/-- Some camera still exposes for, or holds a window open for, a shot of the head (R70). -/
def State.headBusy (s : State) (t : TrackId) (index : Nat) : Bool :=
  allCameras.any fun i => (s.camera i).openShots.any fun r => r.isOf t (s.channel t).passage.number index

/-- An open window has run out (R110). -/
def Camera.windowDue (c : Camera) (ticks : Nat) : Bool :=
  match c.confirm with
  | some w => w.closes ≤ ticks
  | none => false

/-- Some camera still exposes for, or holds a window open for, this shot. -/
def State.shotOpen (s : State) (r : ShotRef) : Bool :=
  allCameras.any fun i => (s.camera i).openShots.contains r

/-! ## Closing a head (R71, R72, R74) -/

/-- Why a head closes (R71). -/
inductive CloseCause where
  | ordinary | cancelled | missedAtFirstTiming | passageClose
  deriving DecidableEq, Repr

/-- A shot was taken (R71). -/
def Shot.taken (x : Shot) : Bool := x.outcome = .takenLit || x.outcome = .takenUnlit

/-- The final status of a head that closes for a cause: the first row of R71 that applies. A timed head without a cursor
found no plan bound (R62). -/
def finalStatus (cause : CloseCause) (h : Head) : FinalStatus :=
  if cause = .cancelled then .cancelled
  else if cause = .missedAtFirstTiming then .missed
  else if cause = .passageClose && (h.status = .untimed || !h.crossed) then .missed
  else if h.cursor.isNone then .unbound
  else if h.shots.any Shot.taken then .captured
  else .noShot

/-- The prediction error, clamped to one second either way (R74). -/
def predictionError (predicted observed : Option LocalTime) : Option Int :=
  match predicted, observed with
  | some p, some o => some (max (-1000000) (min 1000000 (timeDiff p o)))
  | _, _ => none

/-- The HEAD record of a head at its close (R74). -/
def headRecord (p : Passage) (h : Head) (status : FinalStatus) : HeadRecord :=
  { passage := p.number, index := h.index, direction := p.direction, status := status, detected := h.blockedStart,
    duration := min top32 h.duration, length := h.length, firstSpeed := h.firstSpeed, predicted := h.predicted,
    observed := h.observed, error := predictionError h.predicted h.observed, confirmed := h.confirmed,
    speedHeld := h.speedHeld, rehearsal := p.rehearsal, overspeed := p.overspeed, shots := h.shots, marks := h.marks }

/-- Count a closed head by its final status (R72). -/
def Passage.countClosed (p : Passage) (status : FinalStatus) : Passage :=
  match status with
  | .captured => { p with captured := satSucc top8 p.captured }
  | .missed => { p with missed := satSucc top8 p.missed }
  | .noShot => p
  | .cancelled => p
  | .unbound => p

/-- Take a head out of the head list of its track. -/
def Channel.removeHead (c : Channel) (index : Nat) : Channel :=
  { c with heads := c.heads.filter fun h => h.index != index }

/-- The shots of a head as its record carries them: a cancellation settles the open ones as ABORTED (R12, R17, R72). -/
def State.settledShots (s : State) (t : TrackId) (h : Head) (cause : CloseCause) : List Shot :=
  if cause = .cancelled then
    h.shots.map fun x =>
      if s.shotOpen { track := t, passage := (s.channel t).passage.number, index := h.index, step := x.step }
      then { x with confirmation := .aborted } else x
  else h.shots

/-! ## Offers in detection order (R72)

Heads that close at one instant have their records offered in detection order, and the events that close them may be taken in
either order. Each record is offered at once (R174). Where a head closes after one that was detected later has closed at the
same instant, the records take each other's places among the offers of the instant: the one detected first has the place of
the first offer, and so on. Store and reply are then as if they had been offered in detection order at those same moments
(log entry 35). -/

/-- Records with those that take their places. -/
abbrev Moves := List (OfferedRecord × OfferedRecord)

/-- The second record is that of a head of the same track that was detected later. -/
def OfferedRecord.aheadOf (x y : OfferedRecord) : Bool := x.track == y.track && decide (x.record.index < y.record.index)

/-- A record is about to be offered after `later`, those of heads of its track that were detected later: it takes the place
of the first, and each of them that of the next. The last of them is left over, to be offered now. -/
def OfferedRecord.moves (w : OfferedRecord) (later : List OfferedRecord) : Moves := later.zip (w :: later)

/-- The record that takes the place of an offered one; one that none displaces keeps its place. -/
def inPlaceOf (moves : Moves) (o : OfferedRecord) : OfferedRecord := (moves.lookup o).getD o

/-- What stands in the place of a stored record: its header stays, and so does a PASSAGE record. -/
def Record.dealt (moves : Moves) (r : Record) : Record :=
  match r.body with
  | .head x => { r with body := .head (inPlaceOf moves { track := r.track, record := x }).record }
  | .passage _ => r

/-- The offers of an instant with their places dealt out anew, and the record that is offered now behind them. -/
def Store.deal (st : Store) (moves : Moves) (offer : OfferedRecord) : Store :=
  { st with
    records := st.records.map fun r => r.dealt moves
    offered := st.offered.map (inPlaceOf moves) ++ [offer] }

/-- The reply to a FETCH RECORD, reporting a record (R170). -/
def Transmission.report (x : Transmission) (r : Record) : Transmission :=
  { x with bytes := replyFrame x.request .ok (x.bytes.getD 5 0#8 :: r.bytes), reported := some r }

/-- The reply to a FETCH RECORD of this very instant, of which no bit is sent yet, reports what stands in the place of its
record. -/
def Transmission.dealt (moves : Moves) (ticks : Nat) (x : Transmission) : Transmission :=
  match x.reported with
  | some r => if x.started = ticks && r.dealt moves != r then x.report (r.dealt moves) else x
  | none => x

/-- The link, its reply dealt with. -/
def Link.deal (l : Link) (moves : Moves) (ticks : Nat) : Link :=
  { l with transmission := l.transmission.map fun x => x.dealt moves ticks }

/-- The record of a head is offered, in detection order among those of its track at this instant (R72). -/
def State.offerInOrder (s : State) (w : OfferedRecord) : State :=
  let later := s.store.offered.filter w.aheadOf
  let moves := w.moves later
  let offer := later.getLastD w
  State.offer { s with store := s.store.deal moves offer, link := s.link.deal moves s.ticks } w.track (.head offer.record)

/-- Close an open head (R72): its entry leaves the timeline, its status is fixed and counted, its record is assembled, it
leaves the head list, and the record is offered. -/
def State.closeHead (s : State) (t : TrackId) (index : Nat) (cause : CloseCause) : State :=
  match s.findHead t index with
  | none => s
  | some h =>
    let status := finalStatus cause h
    let record := headRecord (s.channel t).passage { h with shots := s.settledShots t h cause } status
    let left := (s.dropEntry t index).updChannel t fun c =>
      Channel.removeHead { c with passage := c.passage.countClosed status } index
    left.offerInOrder { track := t, record := record }

/-- The head meets the three conditions of R70; while its passage closes the first two count as true (R14). -/
def State.mayClose (s : State) (t : TrackId) (h : Head) : Bool :=
  ((h.status = .finished && (h.confirmed || h.departed)) || (s.channel t).closing) && !s.headBusy t h.index

/-- Why a head that meets the three conditions closes (R70, R71). -/
def Channel.closeCause (c : Channel) : CloseCause := if c.closing then .passageClose else .ordinary

/-- Test a head for close (R70). -/
def State.closeTest (s : State) (t : TrackId) (index : Nat) : State :=
  match s.findHead t index with
  | none => s
  | some h => if s.mayClose t h then s.closeHead t index (s.channel t).closeCause else s

/-- Test heads for close one after another, in the order given (R14). -/
def State.closeTests (s : State) (t : TrackId) : List Nat → State
  | [] => s
  | index :: rest => State.closeTests (s.closeTest t index) t rest

/-- Close heads one after another, in the order given. -/
def State.closeHeads (s : State) (t : TrackId) (cause : CloseCause) : List Nat → State
  | [] => s
  | index :: rest => State.closeHeads (s.closeHead t index cause) t cause rest

/-- The indices of the open heads of a track, in detection order. -/
def Channel.headIndices (c : Channel) : List Nat := c.heads.map fun h => h.index

/-- Every open head of a track closes as CANCELLED, in detection order (R12, R17). -/
def State.cancelHeads (s : State) (t : TrackId) : State := s.closeHeads t .cancelled (s.channel t).headIndices

/-! ## Closing a passage (R15, R16, R18) -/

/-- How many of the four counts equal a value. -/
def PerSensor.countOf (c : PerSensor Nat) (n : Nat) : Nat := (allSensors.filter fun w => c.get w == n).length

/-- The axle-count vote: the value shared by at least three of the four sensors, if there is one (R15). -/
def vote (c : PerSensor Nat) : Option Nat :=
  if 3 ≤ c.countOf c.wao then some c.wao
  else if 3 ≤ c.countOf c.wai then some c.wai
  else none

/-- The agreed axle count of a passage that closes: the vote runs only for a NORMAL outcome (R15). -/
def Passage.agreed (p : Passage) : Option Nat := if p.outcome = .normal then vote p.counts else none

/-- The PASSAGE record of a track's passage (R18). -/
def passageRecord (c : Channel) (agreed : Option Nat) (now : LocalTime) : PassageRecord :=
  let p := c.passage
  { number := p.number, direction := p.direction, opened := p.opened, closed := p.closed.getD now, outcome := p.outcome,
    rehearsal := p.rehearsal, overspeed := p.overspeed, counts := p.counts, agreed := agreed, accepted := p.accepted,
    rejected := p.rejected, dropped := p.dropped, captured := p.captured, missed := p.missed, estimates := p.estimates,
    approach := c.approach.state, departure := c.departure.state, lost := p.lost }

/-- The passage of a track has no head left: none of its records gives up its place any more. -/
def Store.passageOver (st : Store) (t : TrackId) : Store := { st with offered := st.offered.filter fun w => w.track != t }

/-- Offer the PASSAGE record of a track's passage (R16, R17). -/
def State.offerPassage (s : State) (t : TrackId) (agreed : Option Nat) : State :=
  State.offer { s with store := s.store.passageOver t } t (.passage (passageRecord (s.channel t) agreed s.localTime))

/-- Both axle queues are emptied (R13, R16, R17). -/
def Channel.emptyQueues (c : Channel) : Channel :=
  { c with approach := { c.approach with queue := [] }, departure := { c.departure with queue := [] } }

/-- The track leaves its passage: queues, window, speed state and the open approach interval go (R16, R43, R45). -/
def Channel.endPassage (c : Channel) : Channel :=
  { c.emptyQueues with
    window := [], speed := .absent, clearTimer := none, staleTimer := none, closingSince := none,
    passage := { c.passage with approachOpen := none } }

/-- The tick at which a dormant delay started now runs out; a delay of 0 starts no timer (R6). -/
def Channel.dormantStart (c : Channel) (ticks : Nat) : Option Nat :=
  if c.dormantDelay = 0 then none else some (ticks + c.dormantDelay * ticksPerS)

/-- The track enters IDLE, which starts the dormant-delay timer (R6). -/
def Channel.enterIdle (c : Channel) (ticks : Nat) : Channel :=
  { c with state := .idle, dormantTimer := c.dormantStart ticks }

/-- The report to Sensor Health at passage close: only for a NORMAL outcome that is not a rehearsal (R16). -/
def State.reportClose (s : State) (t : TrackId) : State :=
  let p := (s.channel t).passage
  if p.outcome = .normal && !p.rehearsal then s.closeReport t p.agreed p.counts else s

/-- The passage completes its close: vote and report, PASSAGE record, queues and speed, IDLE (R15, R16). -/
def State.completeClose (s : State) (t : TrackId) : State :=
  let agreed := (s.channel t).passage.agreed
  ((s.reportClose t).offerPassage t agreed).updChannel t fun c => c.endPassage.enterIdle s.ticks

/-- The passage closes and no head is left in its list: nothing stands between it and its last step (R15). -/
def Channel.closeOver (c : Channel) : Bool := c.closing && c.heads.isEmpty

/-- A closing passage whose head list is empty completes its close (R15). At the instant of the clear-timer expiry itself it
does not: closing lasts for that instant, and its last step is an event of its own (R16, R17, log entry 37). -/
def State.settleClose (s : State) (t : TrackId) : State :=
  if (s.channel t).closeOver && (s.channel t).closingSince != some s.ticks then s.completeClose t else s

/-! ## Results of shots (R111) -/

/-- Settle the confirmation of a head's shot. -/
def Head.settleShot (h : Head) (step : Nat) (result : Confirmation) : Head :=
  { h with shots := h.shots.map fun x => if x.step = step then { x with confirmation := result } else x }

/-- The shot's head is still in its track's head list (R111). -/
def State.shotHeadOpen (s : State) (r : ShotRef) : Bool :=
  (s.channel r.track).state = .passage && (s.channel r.track).passage.number == r.passage
    && (s.findHead r.track r.index).isSome

/-- An event of a head can have made it ready to close: the head is tested, and a closing passage may then complete its
close (R14, R15, R70). -/
def State.testHead (s : State) (t : TrackId) (index : Nat) : State := (s.closeTest t index).settleClose t

/-- The result of a shot is noted on its head, if that is still open (R111). -/
def State.settleResult (s : State) (r : ShotRef) (result : Confirmation) : State :=
  if s.shotHeadOpen r then s.updHead r.track r.index fun h => h.settleShot r.step result else s

/-- The head of a shot that has its result is tested for close, if it is still open (R70, R111). -/
def State.testShotHead (s : State) (r : ShotRef) : State := if s.shotHeadOpen r then s.testHead r.track r.index else s

/-- Hand a result to the shot it judges, if its head is still open; the head is then tested for close (R111). The camera
no longer holds the shot when this runs. -/
def State.handOver (s : State) (r : ShotRef) (result : Confirmation) : State := (s.settleResult r result).testShotHead r

/-- Hand two results of one camera over at one instant, so that a head with both shots has both results when it is tested
(R111). -/
def State.handOverBoth (s : State) (a : ShotRef) (first : Confirmation) (b : ShotRef) (second : Confirmation) : State :=
  (((s.settleResult a first).settleResult b second).testShotHead a).testShotHead b

end Sys2Proof.Machine
end

