-- ==== Sys2Proof/Machine/Cameras.lean ====
section
/-! DEFINITION. The camera unit: power, exposure, confirmation, failure, the camera events and the requests SET CAMERA,
RESET CAMERA and READ CAMERAS (chapter 6). -/

namespace Sys2Proof.Machine

/-! ## Power (R104 to R106) -/

/-- At least one recovery interval has elapsed since the start of the last exposure, if there is one (R105). -/
def Camera.recovered (c : Camera) (ticks : Nat) : Bool :=
  match c.lastExposure with
  | some start => start + c.recovery ≤ ticks
  | none => true

/-- A WARMING camera may become READY: warm-up elapsed and recovery condition met (R105). -/
def Camera.warmUpDue (c : Camera) (ticks : Nat) : Bool :=
  match c.state with
  | .warming since => since + c.warmUp * ticksPerMs ≤ ticks && c.recovered ticks
  | _ => false

/-- A WARMING camera becomes READY once both conditions hold (R105). -/
def Camera.endWarmUp (c : Camera) (ticks : Nat) : Camera :=
  if c.warmUpDue ticks then { c with state := .ready } else c

/-- Power-up: an OFF camera drives CPWR high and enters WARMING, and READY at once where both conditions of R105 hold then,
its warm-up being 0; any other state ignores it (R104, R105). That nothing of this instant is taken between the power-up and
such an end of warm-up, an exposure request that R115 would answer NOT_READY there, is a DESIGN CHOICE (log entry 40). -/
def Camera.powerUp (c : Camera) (ticks : Nat) : Camera :=
  match c.state with
  | .off => Camera.endWarmUp { c with state := .warming ticks, cpwr := true } ticks
  | _ => c

/-- The camera is powered: its state is neither OFF nor FAILED (section 6.2). -/
def Camera.powered (c : Camera) : Bool :=
  match c.state with
  | .off => false
  | .failed => false
  | _ => true

/-- The cameras assigned to a track. -/
def State.camerasOf (s : State) (t : TrackId) : List (Fin 8) :=
  allCameras.filter fun i => (s.camera i).track == some t

/-- Power up the cameras of a track (R104). -/
def State.powerUpCameras (s : State) (t : TrackId) : State :=
  (s.camerasOf t).foldl (fun s i => s.updCamera i fun c => c.powerUp s.ticks) s

/-- Close an open window of a camera without judging it; its shot is handed ABORTED (R106). -/
def State.abortWindow (s : State) (i : Fin 8) : State :=
  match (s.camera i).confirm with
  | some w => (s.updCamera i fun c => { c with confirm := none }).handOver w.shot .aborted
  | none => s

/-- Drive CPWR and CTRG low and enter OFF; a shot still exposed for is handed ABORTED (R106). -/
def State.cutCamera (s : State) (i : Fin 8) : State :=
  let cut := s.updCamera i fun c => { c with state := .off, cpwr := false, ctrg := false }
  match (s.camera i).state with
  | .exposing shot _ => cut.handOver shot .aborted
  | _ => cut

/-- Power removal: the camera enters OFF from any powered state, and its open window closes; OFF and FAILED ignore it
(R106). -/
def State.removePower (s : State) (i : Fin 8) : State :=
  if (s.camera i).powered then (s.abortWindow i).cutCamera i else s

/-- Power down the cameras of a track (R106). -/
def State.powerDownCameras (s : State) (t : TrackId) : State :=
  (s.camerasOf t).foldl (fun s i => s.removePower i) s

/-! ## Exposure (R107, R108) -/

/-- A camera's answer to an exposure request (R107). -/
inductive CameraAnswer where
  | taken (exposure : Nat) (clamped : Bool)
  | notReady
  | busy
  | failed
  deriving DecidableEq, Repr

/-- The exposure length and the CLAMPED flag for an anchor speed (R108). -/
def Camera.exposureFor (c : Camera) (speed : Nat) : Nat × Bool :=
  if speed = 0 then (c.exposureMax, true)
  else
    let quotient := c.blur * 1000 / speed
    if quotient < c.exposureMin then (c.exposureMin, true)
    else if c.exposureMax < quotient then (c.exposureMax, true)
    else (quotient, false)

/-- A camera's answer to a request at an anchor speed, by its state (R107). -/
def Camera.answer (c : Camera) (speed : Nat) : CameraAnswer :=
  match c.state with
  | .ready => .taken (c.exposureFor speed).1 (c.exposureFor speed).2
  | .off => .notReady
  | .warming _ => .notReady
  | .exposing _ _ => .busy
  | .recovering => .busy
  | .failed => .failed

/-- A camera begins an exposure for a shot (R108). -/
def Camera.expose (c : Camera) (shot : ShotRef) (exposure ticks : Nat) : Camera :=
  { c with state := .exposing shot exposure, ctrg := true, lastExposure := some ticks,
           takenTotal := satSucc top32 c.takenTotal }

/-- The effect of an exposure request on its camera: a refusal changes nothing (R107). -/
def State.requestExposure (s : State) (i : Fin 8) (shot : ShotRef) : CameraAnswer → State
  | .taken exposure _ => s.updCamera i fun c => c.expose shot exposure s.ticks
  | .notReady => s
  | .busy => s
  | .failed => s

/-! ## The camera events (R105, R109, R110) -/

/-- The exposure of an EXPOSING camera has elapsed (R109). -/
def Camera.releaseDue (c : Camera) (ticks : Nat) : Bool :=
  match c.state, c.lastExposure with
  | .exposing _ exposure, some start => start + exposure ≤ ticks
  | _, _ => false

/-- Trigger release: CTRG goes low, the camera enters RECOVERING and opens its window (R109, R110). -/
def Camera.release (c : Camera) (ticks : Nat) : Camera :=
  match c.state with
  | .exposing shot _ =>
    { c with state := .recovering, ctrg := false, confirm := some { shot := shot, closes := ticks + c.windowLength } }
  | _ => c

/-- TRIGGER_RELEASE. -/
def execTriggerRelease (i : Fin 8) (s : State) : Host.Outcome State Fault Refusal :=
  .next (if (s.camera i).releaseDue s.ticks then s.updCamera i fun c => c.release s.ticks else s)

/-- The recovery interval of a RECOVERING camera has elapsed since its exposure started (R109). -/
def Camera.recoveryDue (c : Camera) (ticks : Nat) : Bool :=
  match c.state with
  | .recovering => c.recovered ticks
  | _ => false

/-- RECOVERY_END. -/
def execRecoveryEnd (i : Fin 8) (s : State) : Host.Outcome State Fault Refusal :=
  .next (if (s.camera i).recoveryDue s.ticks then s.updCamera i fun c => { c with state := .ready } else s)

/-- WARM_UP_END (R105). -/
def execWarmUpEnd (i : Fin 8) (s : State) : Host.Outcome State Fault Refusal :=
  .next (s.updCamera i fun c => c.endWarmUp s.ticks)

/-- A return closes the open window with CONFIRMED (R110). -/
def Camera.confirmReturn (c : Camera) : Camera :=
  { c with confirm := none, noReturnRun := 0, confirmedTotal := satSucc top32 c.confirmedTotal }

/-- CDONE_EDGE: a leading edge at CDONE is a return while a window is open, and is ignored otherwise (R110). -/
def execCdoneEdge (i : Fin 8) (s : State) : Host.Outcome State Fault Refusal :=
  .next (match (s.camera i).confirm with
    | some w => (s.updCamera i Camera.confirmReturn).handOver w.shot .confirmed
    | none => s)

/-- A window that runs out closes with NO_RETURN (R110). -/
def Camera.missReturn (c : Camera) : Camera :=
  { c with confirm := none, noReturnRun := min 3 (c.noReturnRun + 1), noReturnTotal := satSucc top32 c.noReturnTotal }

/-- The camera in FAILED: CPWR and CTRG low (R110, R115). -/
def Camera.fail (c : Camera) : Camera := { c with state := .failed, cpwr := false, ctrg := false }

/-- The third consecutive NO_RETURN: the camera enters FAILED, CAMERA_FAULT is latched, and a shot that it still exposes for
is handed ABORTED at the same instant (R110, R115). -/
def State.failCamera (s : State) (i : Fin 8) (shot : ShotRef) : State :=
  let failed := s.updCamera i Camera.fail
  State.latch
    (match (s.camera i).state with
     | .exposing other _ => failed.handOverBoth shot .noReturn other .aborted
     | _ => failed.handOver shot .noReturn)
    .cameraFault

/-- The window of a camera runs out with no return (R110, R111). -/
def State.expireWindow (s : State) (i : Fin 8) (shot : ShotRef) : State :=
  let missed := s.updCamera i Camera.missReturn
  if (missed.camera i).noReturnRun = 3 then missed.failCamera i shot else missed.handOver shot .noReturn

/-- CONFIRMATION_WINDOW_EXPIRY. -/
def execConfirmationWindowExpiry (i : Fin 8) (s : State) : Host.Outcome State Fault Refusal :=
  .next (match (s.camera i).confirm with
    | some w => if (s.camera i).windowDue s.ticks then s.expireWindow i w.shot else s
    | none => s)

/-! ## Requests (R102, R112, R113) -/

/-- The settings that a SET CAMERA body carries, in a camera that is otherwise as it was (R102). -/
def Camera.configure (c : Camera) (body : List Byte) : Camera :=
  { c with track := trackOfCode (field body 1 1), blur := field body 2 2, exposureMin := field body 4 2,
           exposureMax := field body 6 2, recovery := field body 8 4, warmUp := field body 12 2,
           windowLength := field body 14 4 }

/-- The values of a SET CAMERA body lie in range (R102). -/
def cameraValuesOk (body : List Byte) : Bool :=
  field body 0 1 < 8 && field body 1 1 ≤ 2
  && inRange 100 20000 (field body 2 2) && inRange 2 1000 (field body 4 2)
  && inRange (field body 4 2) 5000 (field body 6 2) && inRange 1000 1000000 (field body 8 4)
  && field body 12 2 ≤ 10000 && inRange 10 100000 (field body 14 4)
  && field body 14 4 + field body 6 2 ≤ field body 8 4

/-- A track, or none, counts as OFFLINE (R102). -/
def State.offline (s : State) : Option TrackId → Bool
  | some t => (s.channel t).state = .offline
  | none => true

/-- SET CAMERA (R102). -/
def handleSetCamera (body : List Byte) (s : State) : Answer :=
  match cameraOfCode (field body 0 1) with
  | none => refuse s .badValue
  | some i =>
    if !cameraValuesOk body then refuse s .badValue
    else if s.offline (s.camera i).track && s.offline (trackOfCode (field body 1 1)) then
      accept (s.updCamera i fun c => c.configure body) []
    else refuse s .wrongState

/-- The assigned track of a camera is IDLE or PASSAGE (R112). -/
def State.trackAwake (s : State) : Option TrackId → Bool
  | some t => (s.channel t).awake
  | none => false

/-- RESET CAMERA of one camera (R112). -/
def Camera.resetFailure (c : Camera) (awake : Bool) (ticks : Nat) : Camera :=
  let cleared := { c with noReturnRun := 0 }
  match c.state with
  | .failed =>
    let off := { cleared with state := .off }
    if awake then off.powerUp ticks else off
  | _ => cleared

/-- RESET CAMERA (R112). -/
def handleResetCamera (body : List Byte) (s : State) : Answer :=
  match cameraOfCode (field body 0 1) with
  | none => refuse s .badValue
  | some i => accept (s.updCamera i fun c => c.resetFailure (s.trackAwake c.track) s.ticks) []

/-- The link number of an optional track: 0 is none. -/
def optTrackCode : Option TrackId → Nat
  | none => 0
  | some t => trackCode t

/-- A camera in 16 bytes (R113). -/
def Camera.bytes (c : Camera) : List Byte :=
  [BitVec.ofNat 8 c.state.code, BitVec.ofNat 8 (optTrackCode c.track), boolByte c.confirm.isSome,
    BitVec.ofNat 8 c.noReturnRun]
  ++ toBytes 4 c.takenTotal ++ toBytes 4 c.confirmedTotal ++ toBytes 4 c.noReturnTotal

/-- READ CAMERAS (R113). -/
def handleReadCameras (_body : List Byte) (s : State) : Answer :=
  accept s (allCameras.flatMap fun i => (s.camera i).bytes)

end Sys2Proof.Machine
end

