-- ==== Sys2Proof/Machine/Strobes.lean ====
section
/-! DEFINITION. The strobe unit: need times, the charge queue and the charger, power, fire requests, the inhibit, the
strobe events and the requests SET STROBE, SET INHIBIT and READ STROBES (chapter 7, R92). -/

namespace Sys2Proof.Machine

/-! ## Need times (R92) -/

/-- The steps of a run that stand ahead of the next wait or the end of the plan. -/
def runOf : List Step → List Step
  | [] => []
  | .atPos _ :: _ => []
  | .after _ :: _ => []
  | .expose c x :: rest => .expose c x :: runOf rest
  | .mark :: rest => .mark :: runOf rest

/-- A step names a strobe. -/
def Step.names (x : Fin 6) : Step → Bool
  | .expose _ (some y) => x == y
  | _ => false

/-- The plan of the head that holds an entry. -/
def State.planOf (s : State) (t : TrackId) (index : Nat) : List Step :=
  match (s.findHead t index).bind (·.cursor) with
  | some c => s.plans[c.plan]
  | none => []

/-- The run of an entry contains an EXPOSE step that names the strobe (R92). -/
def State.entryNeeds (s : State) (x : Fin 6) (e : TimelineEntry) : Bool :=
  (runOf ((s.planOf e.track e.index).drop (e.step + 1))).any fun p => p.names x

/-- The need time of a strobe: the earliest due time among the entries whose run names it (R92). The timeline is in order
of due time. -/
def State.needTime (s : State) (x : Fin 6) : Option LocalTime :=
  (s.timeline.find? fun e => s.entryNeeds x e).map (·.due)

/-! ## The charge queue and the charger (R126 to R129) -/

/-- Member `a` stands ahead of member `b`: by need time, and without one by join instant, then by number (R127). -/
def State.chargesBefore (s : State) (a b : QueueMember) : Bool :=
  match s.needTime a.strobe, s.needTime b.strobe with
  | some x, some y => after y x || (x == y && a.strobe < b.strobe)
  | some _, none => true
  | none, some _ => false
  | none, none => a.joined < b.joined || (a.joined == b.joined && a.strobe < b.strobe)

/-- The charge queue in the order of R127, front first. -/
def State.queueOrder (s : State) : List QueueMember := sortBy s.chargesBefore s.chargeQueue

/-- A strobe enters EMPTY and joins the charge queue (R126). -/
def State.joinQueue (s : State) (x : Fin 6) (lastPulse : Option Nat) : State :=
  { s.updStrobe x fun y => { y with state := .empty, sfire := false, lastPulse := lastPulse } with
    chargeQueue := s.chargeQueue ++ [{ strobe := x, joined := s.ticks }] }

/-- The charge duration: base + factor × last pulse, a full one being the maximum pulse (R128). -/
def Strobe.chargeTicks (y : Strobe) : Nat := y.base + y.factor * y.lastPulse.getD y.maxPulse

/-- The member at the front leaves the queue and starts its charge (R128); `joins` is the tick of the joins that the start
follows, none at a completion. -/
def State.beginCharge (s : State) (joins : Option Nat) (x : Fin 6) : State :=
  { s.updStrobe x fun y => { y with state := .charging } with
    chargeQueue := s.chargeQueue.filter fun m => m.strobe != x
    charger := some { strobe := x, completes := s.ticks + (s.strobe x).chargeTicks, joins := joins }
    chgEn := true
    chgSel := BitVec.ofNat 3 x.val }

/-- A charge starts whenever the charger is free and the queue is not empty (R128). -/
def State.startCharge (s : State) (joins : Option Nat) : State :=
  if s.charger.isSome then s
  else
    match s.queueOrder with
    | [] => s
    | front :: _ => s.beginCharge joins front.strobe

/-- A charge that the joins of this very instant started: a strobe which joins now is chosen among too (R128). -/
def Charge.reopens (c : Charge) (ticks : Nat) : Bool := c.joins == some ticks

/-- Where joins of this very instant started the charge, its strobe is back in the queue and the charger free, for the
start to choose again among all that join now (R128, log entry 19). -/
def State.reopenChoice (s : State) : State :=
  match s.charger with
  | some c =>
    if c.reopens s.ticks then
      { s.joinQueue c.strobe (s.strobe c.strobe).lastPulse with charger := none, chgEn := false, chgSel := 0#3 }
    else s
  | none => s

/-- The pulse of a FIRING strobe has elapsed (R121). -/
def Strobe.pulseDue (y : Strobe) (ticks : Nat) : Bool :=
  match y.state with
  | .firing _ pulse since => since + pulse ≤ ticks
  | _ => false

/-- Another strobe's pulse ends at this same instant: it joins before a charge start chooses (R128). -/
def State.joinsToCome (s : State) : Bool := allStrobes.any fun x => (s.strobe x).pulseDue s.ticks

/-- STROBE_PULSE_END: SFIRE goes low, the strobe enters EMPTY with its pulse as last pulse and joins the queue (R121); the
charge start waits for every pulse that ends at this instant (R128, log entry 19). -/
def execStrobePulseEnd (x : Fin 6) (s : State) : Host.Outcome State Fault Refusal :=
  .next (match (s.strobe x).state with
    | .firing _ pulse _ =>
      if (s.strobe x).pulseDue s.ticks then
        let joined := s.joinQueue x (some pulse)
        if joined.joinsToCome then joined else joined.startCharge (some s.ticks)
      else s
    | _ => s)

/-- The charge in progress has run its duration (R129). -/
def State.chargeDue (s : State) : Bool :=
  match s.charger with
  | some c => c.completes ≤ s.ticks
  | none => false

/-- CHARGE_COMPLETION: the strobe enters READY, and the next charge starts at the same instant or CHG_EN goes low and
CHG_SEL returns to 0 (R129). -/
def execChargeCompletion (s : State) : Host.Outcome State Fault Refusal :=
  .next (match s.charger with
    | some c =>
      if s.chargeDue then
        State.startCharge
          { s.updStrobe c.strobe fun y => { y with state := .ready } with charger := none, chgEn := false, chgSel := 0#3 }
          none
      else s
    | none => s)

/-! ## Power (R119, R120) -/

/-- Some track is IDLE or PASSAGE (R7). -/
def State.anyAwake (s : State) : Bool := s.channels.t1.awake || s.channels.t2.awake

/-- Every OFF strobe enters EMPTY with a full last pulse and joins the queue (R119). -/
def State.joinOffStrobes (s : State) : List (Fin 6) → State
  | [] => s
  | x :: rest => State.joinOffStrobes (if (s.strobe x).state = .off then s.joinQueue x none else s) rest

/-- The strobe pool is powered up (R119); all six join before the charge start chooses (R128). -/
def State.powerUpPool (s : State) : State := (s.joinOffStrobes allStrobes).startCharge (some s.ticks)

/-- The strobe pool is powered down: every strobe enters OFF, the queue empties and the charger is free (R120). -/
def State.powerDownPool (s : State) : State :=
  { s with
    strobes := s.strobes.map fun y => { y with state := .off, sfire := false }
    chargeQueue := []
    charger := none
    chgEn := false
    chgSel := 0#3 }

/-! ## Fire requests (R121) -/

/-- The head's track rehearses without light (R121). -/
def Channel.dark (c : Channel) : Bool := c.mode = some .rehearsal && !c.generator.liveStrobe

/-- Why a fire request is answered unlit; none where the strobe fires (R121). -/
def State.unlitReason (s : State) (x : Fin 6) (t : TrackId) : Option UnlitReason :=
  if s.inhibit then some .inhibited
  else if (s.channel t).dark then some .rehearsalDark
  else if (s.strobe x).state = .ready then none
  else some .strobeNotReady

/-- A READY strobe fires for a shot: the pulse is the smaller of the exposure and the maximum pulse (R121). -/
def Strobe.fire (y : Strobe) (shot : ShotRef) (exposure ticks : Nat) : Strobe :=
  { y with state := .firing shot (min exposure y.maxPulse) ticks, sfire := true }

/-! ## The inhibit (R122, R123) -/

/-- An enabled input at its active level is active (section 7.4). -/
def InhibitInput.active (i : InhibitInput) : Bool := i.enabled && (i.level == i.activeHigh)

/-- The combined inhibit of four inputs (R123). -/
def formInhibit (v : Vector InhibitInput 4) : Bool := allInhibits.any fun i => (v[i]).active

/-- Set FLASH_CUT on the shot with a step index. -/
def Head.markFlashCut (h : Head) (step : Nat) : Head :=
  { h with shots := h.shots.map fun x => if x.step = step then { x with flashCut := true } else x }

/-- Set FLASH_CUT on a shot whose head is still in its track's head list (R122). -/
def State.flashCut (s : State) (r : ShotRef) : State :=
  if s.shotHeadOpen r then s.updHead r.track r.index fun h => h.markFlashCut r.step else s

/-- Cut one strobe if it is FIRING: it enters EMPTY with the ticks it ran as last pulse and joins the queue (R122). -/
def State.cutStrobe (s : State) (x : Fin 6) : State :=
  match (s.strobe x).state with
  | .firing shot _ since => (s.joinQueue x (some (s.ticks - since))).flashCut shot
  | _ => s

/-- The strobe is FIRING (R121). -/
def Strobe.firing (y : Strobe) : Bool :=
  match y.state with
  | .firing _ _ _ => true
  | _ => false

/-- Cut every FIRING strobe, then start a charge among all that joined at this instant (R122, R128). -/
def State.cutFiring (s : State) : State :=
  if allStrobes.any fun x => (s.strobe x).firing then
    (allStrobes.foldl (fun s x => s.cutStrobe x) s.reopenChoice).startCharge (some s.ticks)
  else s

/-- Re-form the inhibit from the inputs; where it becomes active it cuts every FIRING strobe (R123). -/
def State.reformInhibit (s : State) : State :=
  let formed := { s with inhibit := formInhibit s.inhibits }
  if formed.inhibit && !s.inhibit then formed.cutFiring else formed

/-- INHIBIT_INPUT_EDGE (R123). -/
def execInhibitInputEdge (i : Fin 4) (high : Bool) (s : State) : Host.Outcome State Fault Refusal :=
  .next (State.reformInhibit { s with inhibits := updateAt s.inhibits i fun x => { x with level := high } })

/-! ## Requests (R117, R124, R130) -/

/-- The track's bindings name a plan, in either direction. -/
def State.boundPlans (s : State) (t : TrackId) : List (Fin 4) :=
  let b := s.bindings.get t
  b.ab.plan.toList ++ b.ba.plan.toList

/-- The strobe is referenced from a track in service (R117). -/
def State.strobeReferenced (s : State) (x : Fin 6) : Bool :=
  allTracks.any fun t =>
    (s.channel t).state != .offline && (s.boundPlans t).any fun p => (s.plans[p]).any fun st => st.names x

/-- SET STROBE (R117). -/
def handleSetStrobe (body : List Byte) (s : State) : Answer :=
  let base := field body 1 4
  let factor := field body 5 2
  let pulse := field body 7 2
  match strobeOfCode (field body 0 1) with
  | none => refuse s .badValue
  | some x =>
    if !(inRange 1000 1000000 base && factor ≤ 4000 && inRange 2 2000 pulse) then refuse s .badValue
    else if s.strobeReferenced x then refuse s .wrongState
    else accept (s.updStrobe x fun y => { y with base := base, factor := factor, maxPulse := pulse }) []

/-- The inhibit inputs with the enables and polarities of a SET INHIBIT body (R124). -/
def configureInhibits (body : List Byte) (v : Vector InhibitInput 4) : Vector InhibitInput 4 :=
  allInhibits.foldl
    (fun v i => updateAt v i fun x =>
      { x with enabled := field body (2 * i.val) 1 = 1, activeHigh := field body (2 * i.val + 1) 1 = 1 }) v

/-- SET INHIBIT (R124). -/
def handleSetInhibit (body : List Byte) (s : State) : Answer :=
  if body.all fun b => isFlag b.toNat then
    accept (State.reformInhibit { s with inhibits := configureInhibits body s.inhibits }) []
  else refuse s .badValue

/-- The last pulse as READ STROBES reports it (R130). -/
def Strobe.reportedPulse (y : Strobe) : Nat :=
  if y.state = .off then y.maxPulse else y.lastPulse.getD y.maxPulse

/-- A strobe entry in 10 bytes (R130). -/
def State.strobeBytes (s : State) (x : Fin 6) : List Byte :=
  BitVec.ofNat 8 (s.strobe x).state.code :: toBytes 2 (s.strobe x).reportedPulse
  ++ [boolByte (s.needTime x).isSome] ++ optTimeBytes (s.needTime x)

/-- The charger as READ STROBES reports it: busy, strobe, ticks remaining (R130). -/
def State.chargerBytes (s : State) : List Byte :=
  match s.charger with
  | some c => [1#8, BitVec.ofNat 8 c.strobe.val] ++ toBytes 4 (c.completes - s.ticks)
  | none => [0#8, 0#8] ++ toBytes 4 0

/-- READ STROBES (R130). -/
def handleReadStrobes (_body : List Byte) (s : State) : Answer :=
  accept s
    (allStrobes.flatMap s.strobeBytes
      ++ s.chargerBytes
      ++ [BitVec.ofNat 8 s.chargeQueue.length]
      ++ s.queueOrder.map (fun m => BitVec.ofNat 8 m.strobe.val)
      ++ allInhibits.flatMap (fun i =>
          [boolByte (s.inhibits[i]).enabled, boolByte (s.inhibits[i]).activeHigh, boolByte (s.inhibits[i]).active])
      ++ [boolByte s.inhibit])

end Sys2Proof.Machine
end

