-- ==== Sys2Proof/Machine/Plans.lean ====
section
/-! DEFINITION. Capture plans: the cursor and its runs, lateness, retiming, the expiry of a timeline entry, the two other
head events, and the requests LOAD PLAN, BIND PLAN and READ PLAN (chapter 5, R54, R66). -/

namespace Sys2Proof.Machine

/-! ## EXPOSE and MARK (R88, R89, R94) -/

/-- The anchor speed of a head, 0 where it has no anchor. -/
def Head.anchorSpeed (h : Head) : Nat := (h.anchor.map (·.speed)).getD 0

/-- Append a shot entry to a head. -/
def State.addShot (s : State) (t : TrackId) (index : Nat) (x : Shot) : State :=
  s.updHead t index fun h => { h with shots := h.shots ++ [x] }

/-- A shot entry that was not taken: no start, no exposure, no unlit reason, both flags clear (R94, R114). -/
def untakenShot (step : Nat) (camera : Fin 8) (strobe : Option (Fin 6)) (due : LocalTime) (outcome : ShotOutcome) : Shot :=
  { step := step, camera := camera, strobe := strobe, due := due, start := none, exposure := none, outcome := outcome,
    unlit := none, confirmation := .unsettled, clamped := false, flashCut := false }

/-- The shot entry of a taken exposure, lit where there is no unlit reason (R88, R114). -/
def takenShot (step : Nat) (camera : Fin 8) (strobe : Option (Fin 6)) (due start : LocalTime) (exposure : Nat)
    (clamped : Bool) (unlit : Option UnlitReason) : Shot :=
  { step := step, camera := camera, strobe := strobe, due := due, start := some start, exposure := some exposure,
    outcome := if unlit.isNone then .takenLit else .takenUnlit, unlit := unlit, confirmation := .unsettled,
    clamped := clamped, flashCut := false }

/-- The strobe unit's answer to a taken shot: NO_STROBE where the step names none (R88, R121). -/
def State.lightAnswer (s : State) (strobe : Option (Fin 6)) (t : TrackId) : Option UnlitReason :=
  match strobe with
  | none => some .noStrobe
  | some x => s.unlitReason x t

/-- The strobe fires where the answer is lit (R121). -/
def State.fireFor (s : State) (strobe : Option (Fin 6)) (t : TrackId) (shot : ShotRef) (exposure : Nat) : State :=
  match strobe with
  | none => s
  | some x => if (s.unlitReason x t).isNone then s.updStrobe x fun y => y.fire shot exposure s.ticks else s

/-- An EXPOSE step of an ordinary run: the camera, then the strobe, then the shot entry (R88). -/
def State.runExpose (s : State) (t : TrackId) (h : Head) (step : Nat) (camera : Fin 8) (strobe : Option (Fin 6))
    (due : LocalTime) : State :=
  let shot : ShotRef := { track := t, passage := (s.channel t).passage.number, index := h.index, step := step }
  match (s.camera camera).answer h.anchorSpeed with
  | .taken exposure clamped =>
    ((s.requestExposure camera shot (.taken exposure clamped)).fireFor strobe t shot exposure).addShot t h.index
      (takenShot step camera strobe due s.localTime exposure clamped (s.lightAnswer strobe t))
  | .notReady => s.addShot t h.index (untakenShot step camera strobe due .notReady)
  | .busy => s.addShot t h.index (untakenShot step camera strobe due .cameraBusy)
  | .failed => s.addShot t h.index (untakenShot step camera strobe due .cameraFailed)

/-- An EXPOSE step of a skipped run makes a LATE shot and asks nobody (R94). -/
def State.skipExpose (s : State) (t : TrackId) (index step : Nat) (camera : Fin 8) (strobe : Option (Fin 6))
    (due : LocalTime) : State :=
  s.addShot t index (untakenShot step camera strobe due .late)

/-- A MARK step of an ordinary run (R89). -/
def State.runMark (s : State) (t : TrackId) (index step : Nat) : State :=
  s.updHead t index fun h => { h with marks := h.marks ++ [{ step := step, instant := s.localTime }] }

/-! ## The cursor (R85 to R87, R93) -/

/-- The run in progress: the due time of the wait whose completion began it, and whether the completion was skipped
(R87). -/
structure Run where
  due : LocalTime
  skipped : Bool
  deriving DecidableEq, Repr

/-- Rest the cursor of a head at a step with a plan status. -/
def Head.rest (h : Head) (step : Nat) (status : HeadStatus) : Head :=
  { h with status := status, cursor := h.cursor.map fun c => { c with step := step } }

/-- A head becomes HELD at an AT wait, which sets SPEED_HELD (R47, R86). -/
def Head.hold (h : Head) (step : Nat) : Head := { h.rest step .held with speedHeld := true }

/-- A head rests SCHEDULED at a wait with an entry on the timeline (R86). -/
def State.schedule (s : State) (t : TrackId) (index step : Nat) (kind : WaitKind) (due : LocalTime) : State :=
  State.placeEntry (s.updHead t index fun h => h.rest step .scheduled)
    { track := t, passage := (s.channel t).passage.number, index := index, step := step, kind := kind, due := due }

/-- The head's plan has run to its end: it becomes FINISHED and is tested for close (R87). -/
def State.finishPlan (s : State) (t : TrackId) (index step : Nat) : State :=
  (s.updHead t index fun h => h.rest step .finished).closeTest t index

/-- The completion of a late wait is skipped where its lateness exceeds the tolerance of the head's cursor (R93). -/
def Head.skips (h : Head) (due now : LocalTime) : Bool := (h.cursor.map (·.tolerance)).getD 0 < span due now

/-- Run the steps of a head's plan from step `step` on, at the present instant: acting steps act, or are skipped, up to
the next wait, which is set up; a late AT wait completes at once and the run goes on (R86, R87, R93, R94). -/
def runPlan (t : TrackId) (index : Nat) : List Step → Nat → Run → State → State
  | [], step, _, s => s.finishPlan t index step
  | .expose camera strobe :: rest, step, run, s =>
    match s.findHead t index with
    | none => s
    | some h =>
      runPlan t index rest (step + 1) run
        (if run.skipped then s.skipExpose t index step camera strobe run.due
         else s.runExpose t h step camera strobe run.due)
  | .mark :: rest, step, run, s =>
    runPlan t index rest (step + 1) run (if run.skipped then s else s.runMark t index step)
  | .after delay :: _, step, _, s => s.schedule t index step .after (later s.localTime delay)
  | .atPos p :: rest, step, _, s =>
    match s.findHead t index with
    | none => s
    | some h =>
      match h.anchor.bind fun a => a.dueAt p with
      | none => s.updHead t index fun h => h.hold step
      | some due =>
        if after due s.localTime then s.schedule t index step .atPos due
        else runPlan t index rest (step + 1) { due := due, skipped := h.skips due s.localTime } s

/-- The head's cursor arrives at the wait of a step (R86). -/
def State.arrive (s : State) (t : TrackId) (index : Nat) (c : Cursor) : State :=
  runPlan t index (s.plans[c.plan].drop c.step) c.step { due := s.localTime, skipped := false } s

/-- The binding of a track and direction (R82). -/
def State.binding (s : State) (t : TrackId) (d : Direction) : Binding := (s.bindings.get t).get d

/-- A head is handed to the plan bound for its track and direction: its cursor arrives at step 0, or, with no plan bound,
the head is FINISHED at once (R62, R82, R85). -/
def State.startPlan (s : State) (t : TrackId) (index : Nat) : State :=
  let b := s.binding t (s.channel t).passage.direction
  match b.plan with
  | none => s.updHead t index fun h => { h with status := .finished }
  | some p =>
    let c : Cursor := { plan := p, tolerance := b.tolerance, step := 0 }
    (s.updHead t index fun h => { h with cursor := some c }).arrive t index c

/-- The step at which a cursor rests is an AT wait. -/
def State.restsAtPosition (s : State) (c : Cursor) : Bool :=
  match s.plans[c.plan].drop c.step with
  | .atPos _ :: _ => true
  | _ => false

/-- A re-anchored head is handed to its plan (R95, R96): an AT wait, SCHEDULED or HELD, is set up afresh from the new
anchor; an AFTER wait and a FINISHED head are unchanged. -/
def State.retime (s : State) (t : TrackId) (index : Nat) : State :=
  match s.findHead t index with
  | none => s
  | some h =>
    match h.cursor with
    | none => s
    | some c =>
      if (h.status = .scheduled || h.status = .held) && s.restsAtPosition c then (s.dropEntry t index).arrive t index c
      else s

/-! ## The events of a head (R54, R66, R91) -/

/-- An entry's due time has been reached (R91). -/
def State.entryDue (s : State) (t : TrackId) (index : Nat) : Bool :=
  match s.findEntry t index with
  | some e => atOrBefore e.due s.localTime
  | none => false

/-- An entry expires: it leaves the timeline and the run after its wait acts (R87, R91). -/
def State.expireEntry (s : State) (t : TrackId) (index : Nat) (e : TimelineEntry) : State :=
  runPlan t index ((s.planOf t index).drop (e.step + 1)) (e.step + 1) { due := e.due, skipped := false }
    (s.dropEntry t index)

/-- TIMELINE_ENTRY_EXPIRY. -/
def execTimelineEntryExpiry (t : TrackId) (index : Nat) (s : State) : Host.Outcome State Fault Refusal :=
  .next (match s.findEntry t index with
    | some e => if s.entryDue t index then s.expireEntry t index e else s
    | none => s)

/-- A head's predicted crossing has been reached and the head has not crossed (R54). -/
def Head.crossingDue (h : Head) (now : LocalTime) : Bool := !h.crossed && hasCome h.predicted now

/-- HEAD_CROSSES: the crossed flag is set, which fixes the predicted crossing (R54, R65). -/
def execHeadCrosses (t : TrackId) (index : Nat) (s : State) : Host.Outcome State Fault Refusal :=
  .next (match s.findHead t index with
    | some h => if h.crossingDue s.localTime then s.updHead t index fun h => { h with crossed := true } else s
    | none => s)

/-- A head's departed instant has been reached and the head has not departed (R66). -/
def Head.departureDue (h : Head) (now : LocalTime) : Bool := !h.departed && hasCome h.departure now

/-- HEAD_DEPARTED: the departed flag is set and the head is tested for close (R66, R70). -/
def execHeadDeparted (t : TrackId) (index : Nat) (s : State) : Host.Outcome State Fault Refusal :=
  .next (match s.findHead t index with
    | some h =>
      if h.departureDue s.localTime then
        (s.updHead t index fun h => { h with departed := true }).testHead t index
      else s
    | none => s)

/-! ## Requests (R80, R83, R84) -/

/-- The AT positions of a plan, in step order. -/
def atPositions : List Step → List Int
  | [] => []
  | .atPos p :: rest => p :: atPositions rest
  | .after _ :: rest => atPositions rest
  | .expose _ _ :: rest => atPositions rest
  | .mark :: rest => atPositions rest

/-- No element is less than one before it. -/
def neverFalls : List Int → Bool
  | [] => true
  | [_] => true
  | a :: b :: rest => a ≤ b && neverFalls (b :: rest)

/-- A step is an AT wait. -/
def Step.isAt : Step → Bool
  | .atPos _ => true
  | _ => false

/-- A step is an EXPOSE step. -/
def Step.isExpose : Step → Bool
  | .expose _ _ => true
  | _ => false

/-- A step is a MARK step. -/
def Step.isMark : Step → Bool
  | .mark => true
  | _ => false

/-- The conditions of R80 on a plan as a whole. -/
def planOk (steps : List Step) : Bool :=
  inRange 1 16 steps.length && (steps.head?.map Step.isAt).getD false && neverFalls (atPositions steps)
  && (steps.filter Step.isExpose).length ≤ 8 && (steps.filter Step.isMark).length ≤ 4

/-- A plan is named by a binding whose track is not OFFLINE (R80). -/
def State.planInService (s : State) (p : Fin 4) : Bool :=
  allTracks.any fun t => (s.channel t).state != .offline && (s.boundPlans t).contains p

/-- LOAD PLAN (R80, R81). -/
def handleLoadPlan (body : List Byte) (s : State) : Answer :=
  match planOfCode (field body 0 1), stepsOfBytes (field body 1 1) (body.drop 2) with
  | some p, some steps =>
    if !planOk steps then refuse s .badValue
    else if s.planInService p then refuse s .wrongState
    else accept { s with plans := updateAt s.plans p fun _ => steps } []
  | _, _ => refuse s .badValue

/-- The plan that a BIND PLAN body names: absent, present and in range, or out of range (R83). -/
def boundPlanOf (body : List Byte) : Option (Option (Fin 4)) :=
  match field body 2 1 with
  | 0 => some none
  | 1 => (planOfCode (field body 3 1)).map some
  | _ => none

/-- A present plan holds at least one step (R83). -/
def State.planLoaded (s : State) : Option (Fin 4) → Bool
  | some p => !(s.plans[p]).isEmpty
  | none => true

/-- BIND PLAN (R83). -/
def handleBindPlan (body : List Byte) (s : State) : Answer :=
  let tolerance := field body 4 2
  match trackOfCode (field body 0 1), directionOfCode (field body 1 1), boundPlanOf body with
  | some t, some d, some plan =>
    if !(tolerance ≤ 1000 && s.planLoaded plan) then refuse s .badValue
    else if (s.channel t).state != .offline then refuse s .wrongState
    else
      accept
        { s with bindings := s.bindings.set t ((s.bindings.get t).set d { plan := plan, tolerance := tolerance }) } []
  | _, _, _ => refuse s .badValue

/-- A binding in 4 bytes (R84). -/
def Binding.bytes (b : Binding) : List Byte :=
  [boolByte b.plan.isSome, BitVec.ofNat 8 ((b.plan.map (·.val)).getD 0)] ++ toBytes 2 b.tolerance

/-- READ PLAN (R84). -/
def handleReadPlan (body : List Byte) (s : State) : Answer :=
  match planOfCode (field body 0 1) with
  | none => refuse s .badValue
  | some p =>
    accept s
      ([BitVec.ofNat 8 p.val, BitVec.ofNat 8 (s.plans[p]).length] ++ (s.plans[p]).flatMap Step.bytes
        ++ s.bindings.t1.ab.bytes ++ s.bindings.t1.ba.bytes ++ s.bindings.t2.ab.bytes ++ s.bindings.t2.ba.bytes)

end Sys2Proof.Machine
end

