-- ==== Sys2Proof/Machine/Speed.lean ====
section
/-! DEFINITION. The speed estimator at work on a track: first timing of heads, new estimates, staleness, and the request
SET SPEED FILTER (chapter 3, R62 to R64). -/

namespace Sys2Proof.Machine

/-! ## First timing (R62 to R64) -/

/-- The first anchor of a head: its blocked start, minus the approach detector distance, the anchor speed (R50). -/
def Channel.firstAnchor (c : Channel) (h : Head) : Anchor :=
  { time := h.blockedStart, position := -((c.frame.approachDistance * 1000 : Nat) : Int), speed := c.speed.anchorSpeed }

/-- The departure threshold of a track's passage (R66). -/
def Channel.threshold (c : Channel) : Int := departureThreshold c.frame.departureDistance c.margin

/-- A head with its first anchor, its length and its speed when first timed, its predicted crossing and its departed
instant (R62). -/
def Channel.timed (c : Channel) (h : Head) (estimate : Nat) (now : LocalTime) : Head :=
  Head.predictDeparture
    (Head.predict
      { h with anchor := some (c.firstAnchor h), length := some (lengthOf estimate h.duration), firstSpeed := some estimate }
      now)
    c.threshold now

/-- The first timing of a valid head (R62): a good event for the approach detector; a head whose predicted crossing does
not lie ahead closes MISSED (R63), any other is handed to its plan. -/
def State.firstTiming (s : State) (t : TrackId) (index estimate : Nat) : State :=
  match s.findHead t index with
  | none => s
  | some h =>
    let timed := (s.channel t).timed h estimate s.localTime
    let anchored := (s.updHead t index fun _ => timed).goodUnlessRehearsal t
      (detectorIndex t (approachDetector (s.channel t).passage.direction))
    if timed.crossed then anchored.closeHead t index .missedAtFirstTiming
    else (anchored.startPlan t index).closeTest t index

/-- A length lies within the head limits (R59). -/
def Channel.lengthValid (c : Channel) (length : Nat) : Bool := inRange c.lengthMin c.lengthMax length

/-- A fault event of the approach detector of the passage, unless it is a rehearsal (R75). -/
def State.approachFault (s : State) (t : TrackId) : State :=
  s.faultUnlessRehearsal t (detectorIndex t (approachDetector (s.channel t).passage.direction))

/-- An interval is NOT_A_HEAD: it counts as rejected and is a fault event for the approach detector (R59, R64). -/
def State.rejectInterval (s : State) (t : TrackId) : State :=
  (s.updPassage t fun p => { p with rejected := satSucc top8 p.rejected }).approachFault t

/-- Count a head that passed length validation (R60, R64). -/
def Passage.countAccepted (p : Passage) : Passage := { p with accepted := satSucc top8 p.accepted }

/-- An UNTIMED head is judged at the first estimate of the passage (R64). -/
def State.judgeUntimed (s : State) (t : TrackId) (index estimate : Nat) : State :=
  match s.findHead t index with
  | none => s
  | some h =>
    if (s.channel t).lengthValid (lengthOf estimate h.duration) then
      (s.updPassage t Passage.countAccepted).firstTiming t index estimate
    else (s.updChannel t fun c => c.removeHead index).rejectInterval t

/-- Judge UNTIMED heads one at a time, in the order given (R44 step 4, R64). -/
def State.judgeAll (s : State) (t : TrackId) (estimate : Nat) : List Nat → State
  | [] => s
  | index :: rest => State.judgeAll (s.judgeUntimed t index estimate) t estimate rest

/-! ## Re-anchoring the heads of a track (R44, R47, R52) -/

/-- Re-anchor one timed head at the present instant and hand it to its plan; a head that departs by it is tested for
close (R52, R66, R95, R96). -/
def State.reanchorHead (s : State) (t : TrackId) (speed index : Nat) : State :=
  let threshold := (s.channel t).threshold
  ((s.updHead t index fun h => h.reanchor s.localTime speed threshold).retime t index).closeTest t index

/-- Re-anchor heads one after another, in the order given (R44 step 3). -/
def State.reanchorAll (s : State) (t : TrackId) (speed : Nat) : List Nat → State
  | [] => s
  | index :: rest => State.reanchorAll (s.reanchorHead t speed index) t speed rest

/-- The indices of the timed heads of a track, in detection order. -/
def Channel.timedIndices (c : Channel) : List Nat := (c.heads.filter fun h => h.anchor.isSome).map fun h => h.index

/-- The indices of the UNTIMED heads of a track, in detection order. -/
def Channel.untimedIndices (c : Channel) : List Nat := (c.heads.filter fun h => h.anchor.isNone).map fun h => h.index

/-- The channel after a plausible speed entered its window: FRESH with the new estimate, staleness timer restarted,
minimum and maximum widened (R43, R44 steps 1 and 2). -/
def Channel.takeSpeed (c : Channel) (v ticks : Nat) : Channel :=
  let window := enterWindow c.speed c.window v
  let estimate := windowEstimate window
  { c with
    window := window
    speed := .fresh estimate
    staleTimer := some (ticks + c.staleLimit * ticksPerMs)
    passage := { c.passage with estimates := widen c.passage.estimates estimate } }

/-- A plausible speed gives a new estimate (R44). -/
def State.newEstimate (s : State) (t : TrackId) (v : Nat) : State :=
  let c := s.channel t
  let taken := s.updChannel t fun c => c.takeSpeed v s.ticks
  let estimate := windowEstimate (enterWindow c.speed c.window v)
  let reanchored := taken.reanchorAll t estimate c.timedIndices
  if c.speed = .absent then reanchored.judgeAll t estimate c.untimedIndices else reanchored

/-! ## Staleness (R46, R47) -/

/-- The speed state after staleness: the estimate is kept (R47). -/
def Speed.freeze : Speed → Speed
  | .fresh v => .stale v
  | .stale v => .stale v
  | .absent => .absent

/-- STALENESS_EXPIRY: the speed state becomes STALE and each timed head is re-anchored to speed 0 (R47). -/
def execStalenessExpiry (t : TrackId) (s : State) : Host.Outcome State Fault Refusal :=
  .next (if timerDue (s.channel t).staleTimer s.ticks then
      (s.updChannel t fun c => { c with speed := c.speed.freeze, staleTimer := none }).reanchorAll t 0
        (s.channel t).timedIndices
    else s)

/-- SET SPEED FILTER (R55). -/
def handleSetSpeedFilter (body : List Byte) (s : State) : Answer :=
  let stale := field body 1 2
  let jump := field body 3 1
  match trackOfCode (field body 0 1) with
  | none => refuse s .badValue
  | some t =>
    if !(inRange 50 10000 stale && inRange 5 50 jump) then refuse s .badValue
    else if (s.channel t).state != .offline then refuse s .wrongState
    else accept (s.updChannel t fun c => { c with staleLimit := stale, jumpLimit := jump }) []

end Sys2Proof.Machine
end

