-- ==== Sys2Proof/Machine/Detectors.lean ====
section
/-! DEFINITION. The head detectors: debounce, approach intervals, the departure match, their events and the request SET
HEAD LIMITS (chapter 4). -/

namespace Sys2Proof.Machine

/-! ## Debounce (R57) -/

/-- The level that a detector's input reads: the pin in LIVE, the synthetic level in REHEARSAL (R57). -/
def Channel.detectorLevel (c : Channel) (d : Detector) : Bool :=
  if c.mode = some .rehearsal then (c.detectors.get d).synthetic else (c.detectors.get d).pin

/-- An edge at a debounced input: away from the debounce state it starts a count, back to it it drops the count (R57). -/
def DetectorInput.edge (x : DetectorInput) (high : Bool) (runsOut : Nat) : DetectorInput :=
  { x with count := if high = x.blocked then none else some runsOut }

/-- HEAD_DETECTOR_EDGE: an edge at a real pin. The pin's level always follows; a track in LIVE mode judges the edge (R1,
R57). An edge to the level the pin already has is none (log entry 21). DESIGN CHOICE (log entry 39): on the tick at
which the count runs out, whichever is taken first decides, the edge or the end of the count; R162 settles this for the
generator's edges alone. -/
def execHeadDetectorEdge (t : TrackId) (d : Detector) (high : Bool) (s : State) : Host.Outcome State Fault Refusal :=
  .next (s.updChannel t fun c =>
    let x := c.detectors.get d
    if x.pin = high then c
    else
      let seen := { x with pin := high }
      let judged := if c.mode = some .live then seen.edge high (s.ticks + c.debounce) else seen
      { c with detectors := c.detectors.set d judged })

/-- The next synthetic edge of the generator is due, and is an edge of this detector: it comes first (R162). -/
def Channel.syntheticEdgeFirst (c : Channel) (d : Detector) (ticks : Nat) : Bool :=
  c.generator.schedule.any fun e => e.input == .head d && c.generator.acceptedAt + e.offset ≤ ticks

/-- A running count of a detector has run out (R57); a real edge of this very tick may be taken first (log entry 39). -/
def State.detectorDue (s : State) (t : TrackId) (d : Detector) : Bool :=
  let c := s.channel t
  timerDue (c.detectors.get d).count s.ticks && !c.syntheticEdgeFirst d s.ticks

/-! ## The departure match (R67 to R69) -/

/-- A head qualifies for a departure blocked start: timed, not confirmed, within the margin of the departure detector
(R67). -/
def Channel.qualifies (c : Channel) (now : LocalTime) (h : Head) : Bool :=
  match h.anchor with
  | none => false
  | some a =>
    !h.confirmed
    && inRangeInt (((c.frame.departureDistance : Int) - c.margin) * 1000) (((c.frame.departureDistance : Int) + c.margin) * 1000)
        (a.positionAt now)

/-- The observed crossing of a match (R69). -/
def observedCrossing (now : LocalTime) (distance estimate : Nat) : LocalTime :=
  earlier now (distance * 1000000 / estimate)

/-- A departure blocked start is judged (R67, R68). The head that matches closes here where its plan is FINISHED and no shot
of it is open (R70), with the status of R71: that a following orphan then finds it closed, where R78 calls it CANCELLED, is
a DESIGN CHOICE (log entry 32). -/
def State.judgeDeparture (s : State) (t : TrackId) : State :=
  let c := s.channel t
  let sensor := detectorIndex t (departureDetector c.passage.direction)
  match c.speed.estimate with
  | none => s
  | some estimate =>
    match c.heads.find? fun h => c.qualifies s.localTime h with
    | none => s.faultUnlessRehearsal t sensor
    | some h =>
      let observed := observedCrossing s.localTime c.frame.departureDistance estimate
      let confirmed := s.updHead t h.index fun h => { h with confirmed := true, observed := some observed }
      (confirmed.goodUnlessRehearsal t sensor).closeTest t h.index

/-! ## Approach intervals (R58 to R61) -/

/-- A head as it enters the list: UNTIMED, with its detection data and no plan (R60, R65). -/
def newHead (index : Nat) (blockedStart : LocalTime) (duration : Nat) : Head :=
  { index := index, blockedStart := blockedStart, duration := duration, status := .untimed, length := none,
    firstSpeed := none, anchor := none, predicted := none, departure := none, observed := none, crossed := false,
    confirmed := false, departed := false, speedHeld := false, cursor := none, shots := [], marks := [] }

/-- The head list already holds 8 heads (R61). -/
def Channel.listFull (c : Channel) : Bool := Config.headListMax ≤ c.heads.length

/-- The passage has issued head index 255 (R61). -/
def Channel.indicesExhausted (c : Channel) : Bool := 255 ≤ c.passage.lastIndex

/-- An interval that would enter the list is dropped; a full list is a fault event for the approach detector (R61, log
entry 13). -/
def State.dropInterval (s : State) (t : TrackId) : State :=
  let dropped := s.updPassage t fun p => { p with dropped := satSucc top8 p.dropped }
  if (s.channel t).listFull then dropped.approachFault t else dropped

/-- An interval enters the head list with the next head index (R60). -/
def Channel.enterHead (c : Channel) (blockedStart : LocalTime) (duration : Nat) : Channel :=
  let index := c.passage.lastIndex + 1
  { c with heads := c.heads ++ [newHead index blockedStart duration], passage := { c.passage with lastIndex := index } }

/-- The blocked end of an approach interval is judged (R59 to R61). -/
def State.judgeInterval (s : State) (t : TrackId) (blockedStart : LocalTime) : State :=
  let c := s.channel t
  let duration := span blockedStart s.localTime
  let index := c.passage.lastIndex + 1
  match c.speed.estimate with
  | some estimate =>
    if !c.lengthValid (lengthOf estimate duration) then s.rejectInterval t
    else if c.listFull || c.indicesExhausted then s.dropInterval t
    else
      ((s.updChannel t fun c => c.enterHead blockedStart duration).updPassage t Passage.countAccepted).firstTiming t index
        estimate
  | none =>
    if c.listFull || c.indicesExhausted then s.dropInterval t
    else s.updChannel t fun c => c.enterHead blockedStart duration

/-! ## The events (R57, R58) -/

/-- A detector's debounce state changes at the run-out of its count. -/
def Channel.settleDetector (c : Channel) (d : Detector) (blocked : Bool) : Channel :=
  { c with detectors := c.detectors.set d { c.detectors.get d with blocked := blocked, count := none } }

/-- An accepted blocked start is disposed of by the track's condition and the detector's role (R58). -/
def State.disposeStart (s : State) (t : TrackId) (d : Detector) : State :=
  let c := s.channel t
  if !c.tracking then s
  else if d = approachDetector c.passage.direction then
    if c.passage.approachInUse then s.updPassage t fun p => { p with approachOpen := some s.localTime } else s
  else if c.passage.departureInUse then s.judgeDeparture t
  else s

/-- BLOCKED_START: the detector becomes BLOCKED (R57, R58). -/
def execBlockedStart (t : TrackId) (d : Detector) (s : State) : Host.Outcome State Fault Refusal :=
  .next (if s.detectorDue t d && !((s.channel t).detectors.get d).blocked then
      (s.updChannel t fun c => c.settleDetector d true).disposeStart t d
    else s)

/-- An accepted blocked end is disposed of: only the approach detector's end of an interval it opened in this passage is
judged (R58). -/
def State.disposeEnd (s : State) (t : TrackId) (d : Detector) : State :=
  let c := s.channel t
  if c.tracking && d = approachDetector c.passage.direction then
    match c.passage.approachOpen with
    | some start => (s.updPassage t fun p => { p with approachOpen := none }).judgeInterval t start
    | none => s
  else s

/-- BLOCKED_END: the detector becomes CLEAR (R57, R58). -/
def execBlockedEnd (t : TrackId) (d : Detector) (s : State) : Host.Outcome State Fault Refusal :=
  .next (if s.detectorDue t d && ((s.channel t).detectors.get d).blocked then
      (s.updChannel t fun c => c.settleDetector d false).disposeEnd t d
    else s)

/-- SET HEAD LIMITS (R76). -/
def handleSetHeadLimits (body : List Byte) (s : State) : Answer :=
  let low := field body 1 2
  let high := field body 3 2
  let margin := field body 5 2
  match trackOfCode (field body 0 1) with
  | none => refuse s .badValue
  | some t =>
    if !(inRange 100 2000 low && inRange low 3000 high && inRange 500 20000 margin) then refuse s .badValue
    else if (s.channel t).state != .offline then refuse s .wrongState
    else accept (s.updChannel t fun c => { c with lengthMin := low, lengthMax := high, margin := margin }) []

end Sys2Proof.Machine
end

