-- ==== Sys2Proof/Machine/Passages.lean ====
section
/-! DEFINITION. Wheel sensing and the passage: debounce of the wheel inputs, passage open, axle queues, matches, orphans,
the clear-interval and dormant-delay timers, and the requests SET TRACK GEOMETRY, SET TRACK TIMING and READ TRACK
(chapters 1 and 2). -/

namespace Sys2Proof.Machine

/-! ## Debounce of the real wheel inputs (R24, R25) -/

/-- The track observes its real inputs: it is in service in LIVE mode (R1, R24). -/
def Channel.live (c : Channel) : Bool := c.mode = some .live && c.state != .offline

/-- Replace the input of a wheel sensor. -/
def Channel.setWheel (c : Channel) (w : WheelSensor) (x : WheelInput) : Channel := { c with wheels := c.wheels.set w x }

/-- The debounce count that a leading edge starts: its recorded time and the tick at which it runs out (R24). -/
def State.startCount (s : State) (c : Channel) : Option (LocalTime × Nat) :=
  if c.live then some (s.localTime, s.ticks + c.debounce) else none

/-- WHEEL_LEADING_EDGE: the pin goes high; a track in LIVE mode starts a debounce count (R24). An edge to the level the pin
already has is none (log entry 21). -/
def execWheelLeadingEdge (t : TrackId) (w : WheelSensor) (s : State) : Host.Outcome State Fault Refusal :=
  .next (if ((s.channel t).wheels.get w).level then s
    else s.updChannel t fun c => c.setWheel w { level := true, count := s.startCount c })

/-- Chatter is a fault event while the track is in PASSAGE and not closing, outside rehearsal (R25). -/
def State.chatter (s : State) (t : TrackId) (w : WheelSensor) : State :=
  if (s.channel t).counting then s.faultUnlessRehearsal t (wheelIndex t w) else s

/-- WHEEL_TRAILING_EDGE: the pin goes low; a count that still ran makes the pulse chatter (R25). On the very tick at
which the count runs out the pulse is chatter where the edge is taken first, and accepted where the acceptance is: a
DESIGN CHOICE, since R24 and R25 settle that tie for no real input (log entry 36). -/
def execWheelTrailingEdge (t : TrackId) (w : WheelSensor) (s : State) : Host.Outcome State Fault Refusal :=
  .next (let x := (s.channel t).wheels.get w
    if !x.level then s
    else
      let low := s.updChannel t fun c => c.setWheel w { level := false, count := none }
      if x.count.isSome then low.chatter t w else low)

/-! ## Opening a passage (R9, R10) -/

/-- The passage number after `n`: the first is 1, and the number after 65,535 is 1 (R10). -/
def nextPassageNumber (n : Nat) : Nat := if n < 65535 then n + 1 else 1

/-- The state that a pair takes at passage open: OUT with an EXCLUDED sensor, otherwise NORMAL (R33). -/
def State.pairAtOpen (s : State) (t : TrackId) (d : Direction) (r : PairRole) : PairState :=
  if s.health[wheelIndex t (pairSensors d r).1].state = .excluded
      || s.health[wheelIndex t (pairSensors d r).2].state = .excluded then .out
  else .normal

/-- A detector is in use for a passage unless it is EXCLUDED at passage open (R56). -/
def State.inUseAtOpen (s : State) (t : TrackId) (d : Detector) : Bool :=
  s.health[detectorIndex t d].state != .excluded

/-- The passage that opens in a direction at a timestamp (R10). -/
def State.freshPassage (s : State) (t : TrackId) (d : Direction) (stamp : LocalTime) : Passage :=
  let c := s.channel t
  { number := nextPassageNumber c.passage.number, direction := d, opened := stamp, closed := none, outcome := .normal,
    rehearsal := c.mode = some .rehearsal, overspeed := false, counts := ⟨0, 0, 0, 0⟩, accepted := 0, rejected := 0,
    dropped := 0, captured := 0, missed := 0, lost := 0, lastIndex := 0, estimates := none,
    approachInUse := s.inUseAtOpen t (approachDetector d), departureInUse := s.inUseAtOpen t (departureDetector d),
    approachOpen := none }

/-- The channel as a passage opens (R10): the pairs decided, the window emptied, the timers switched. -/
def State.openChannel (s : State) (t : TrackId) (d : Direction) (stamp : LocalTime) (c : Channel) : Channel :=
  { c with
    state := .passage
    passage := s.freshPassage t d stamp
    approach := { state := s.pairAtOpen t d .approach, queue := [], implausible := 0 }
    departure := { state := s.pairAtOpen t d .departure, queue := [], implausible := 0 }
    window := []
    speed := .absent
    dormantTimer := none
    staleTimer := none
    clearTimer := some (s.ticks + c.clearInterval * ticksPerMs) }

/-- The strobe pool is powered up if no track was awake before (R7, R119). -/
def State.wakePool (s : State) (wasAwake : Bool) : State := if wasAwake then s else s.powerUpPool

/-- A passage opens (R10): from DORMANT the track's cameras are powered, and the strobe pool if neither track was awake. -/
def State.openPassage (s : State) (t : TrackId) (d : Direction) (stamp : LocalTime) : State :=
  let opened := s.updChannel t (s.openChannel t d stamp)
  let powered := if (s.channel t).state = .dormant then opened.powerUpCameras t else opened
  powered.wakePool s.anyAwake

/-! ## Orphans and the abnormal outcome (R12, R13) -/

/-- The outcome that an orphan on a pair sets (R12). -/
def orphanOutcome : PairRole → PassageOutcome
  | .approach => .reversed
  | .departure => .conflict

/-- The passage runs on in its reduced form: queues emptied, staleness timer stopped (R13). -/
def Channel.reduce (c : Channel) (outcome : PassageOutcome) : Channel :=
  { c.emptyQueues with
    staleTimer := none, passage := { c.passage with outcome := outcome, approachOpen := none } }

/-- An orphan pulse on a NORMAL pair (R12, R13). -/
def State.orphan (s : State) (t : TrackId) (r : PairRole) : State :=
  ((s.updChannel t fun c => c.reduce (orphanOutcome r)).cancelHeads t).latch .passageAbnormal

/-! ## Matches (R31, R39 to R42) -/

/-- A match judged plausible: the pair's count is cleared, a new estimate is made, and both sensors get a good event
(R31, R42, R44). -/
def State.plausibleMatch (s : State) (t : TrackId) (r : PairRole) (v : Nat) : State :=
  let sensors := pairSensors (s.channel t).passage.direction r
  let estimated := (s.updChannel t fun c => c.updPair r fun p => { p with implausible := 0 }).newEstimate t v
  (estimated.goodUnlessRehearsal t (wheelIndex t sensors.1)).goodUnlessRehearsal t (wheelIndex t sensors.2)

/-- The pair after an implausible match: the second in a row makes it SLIPPED (R35, R42). -/
def AxlePair.distrust (p : AxlePair) : AxlePair :=
  { p with implausible := p.implausible + 1, state := if p.implausible + 1 = 2 then .slipped else p.state }

/-- OVERSPEED is set where the speed of a match saturates (R39). -/
def Passage.noteSpeed (p : Passage) (spacing dt : Nat) : Passage :=
  { p with overspeed := p.overspeed || Config.topSpeed < rawSpeed spacing dt }

/-- A match of a NORMAL pair is judged crawl, implausible or plausible (R39 to R41). -/
def State.judgeMatch (s : State) (t : TrackId) (r : PairRole) (dt : Nat) : State :=
  let c := s.channel t
  let spacing := c.frame.spacing r
  if isCrawl spacing dt then s
  else
    let noted := s.updPassage t fun p => p.noteSpeed spacing dt
    let v := axleSpeed spacing dt
    if isPlausible c.speed c.window c.jumpLimit v then noted.plausibleMatch t r v
    else noted.updChannel t fun c => c.updPair r AxlePair.distrust

/-- The interval of a match; 0 is taken as 1 (R31). -/
def matchInterval (entry stamp : LocalTime) : Nat := max 1 (span entry stamp)

/-! ## The pulse at its pair (R27 to R32) -/

/-- A first-sensor pulse taken by a pair with a queue: it enters, or is refused by a full queue as a fault event (R29,
R30). -/
def State.firstSensorPulse (s : State) (t : TrackId) (w : WheelSensor) (r : PairRole) (stamp : LocalTime) : State :=
  if ((s.channel t).pair r).queue.length < Config.axleQueueMax then
    s.updChannel t fun c => c.updPair r fun p => { p with queue := p.queue ++ [stamp] }
  else s.faultUnlessRehearsal t (wheelIndex t w)

/-- A second-sensor pulse taken by a pair with a queue: a match, or with an empty queue an orphan of a NORMAL pair (R31,
R32). -/
def State.secondSensorPulse (s : State) (t : TrackId) (r : PairRole) (stamp : LocalTime) : State :=
  let p := (s.channel t).pair r
  match p.queue with
  | [] => if p.state = .normal then s.orphan t r else s
  | entry :: rest =>
    let removed := s.updChannel t fun c => c.updPair r fun p => { p with queue := rest }
    if p.state = .normal then removed.judgeMatch t r (matchInterval entry stamp) else removed

/-- The pulse is taken by its pair in its role (R27). -/
def State.pairPulse (s : State) (t : TrackId) (w : WheelSensor) (stamp : LocalTime) : State :=
  let c := s.channel t
  let role := sensorRole c.passage.direction w
  if (c.pair role.1).state = .out then s
  else if role.2 then s.firstSensorPulse t w role.1 stamp
  else s.secondSensorPulse t role.1 stamp

/-! ## Disposal of an accepted pulse (R9, R11, R26) -/

/-- The pulse is counted for its sensor and restarts the clear-interval timer (R11). -/
def Channel.countPulse (c : Channel) (w : WheelSensor) (ticks : Nat) : Channel :=
  { c with
    clearTimer := some (ticks + c.clearInterval * ticksPerMs)
    passage := { c.passage with counts := c.passage.counts.set w (satSucc top16 (c.passage.counts.get w)) } }

/-- A pulse of a track in PASSAGE, not closing: counted, and with outcome NORMAL taken by its pair (R26). -/
def State.takePulse (s : State) (t : TrackId) (w : WheelSensor) (stamp : LocalTime) : State :=
  let counted := s.updChannel t fun c => c.countPulse w s.ticks
  if (s.channel t).passage.outcome = .normal then counted.pairPulse t w stamp else counted

/-- An outer pulse on an IDLE or DORMANT track opens a passage and is its first pulse; an inner one is ignored (R9). -/
def State.openingPulse (s : State) (t : TrackId) (w : WheelSensor) (stamp : LocalTime) : State :=
  match openingDirection w with
  | some d => (s.openPassage t d stamp).takePulse t w stamp
  | none => s

/-- An accepted pulse with its timestamp is disposed of by the track's condition (R26). -/
def State.disposePulse (s : State) (t : TrackId) (w : WheelSensor) (stamp : LocalTime) : State :=
  match (s.channel t).state with
  | .offline => s
  | .idle => s.openingPulse t w stamp
  | .dormant => s.openingPulse t w stamp
  | .passage => if (s.channel t).counting then s.takePulse t w stamp else s

/-- The debounce count of a real wheel input has run out; the input is then high (R24). -/
def WheelInput.due (x : WheelInput) (ticks : Nat) : Bool := timerDue (x.count.map (·.2)) ticks

/-- The first synthetic pulse of a sensor whose own count has run out (R24, R163). -/
def Channel.duePulse (c : Channel) (w : WheelSensor) (ticks : Nat) : Option SyntheticPulse :=
  c.synthetic.find? fun p => p.sensor == w && p.accepts ≤ ticks

/-- Take a synthetic pulse out of the pulses in their debounce counts. -/
def Channel.dropPulse (c : Channel) (p : SyntheticPulse) : Channel := { c with synthetic := c.synthetic.erase p }

/-- The timestamp of a real pulse of a sensor that is accepted now, if there is one. -/
def Channel.acceptedStamp (c : Channel) (w : WheelSensor) (ticks : Nat) : Option LocalTime :=
  if (c.wheels.get w).due ticks then (c.wheels.get w).count.map (·.1) else none

/-- WHEEL_PULSE_ACCEPTED: a debounce count of the sensor has run out, of its real input in LIVE mode or of a synthetic
pulse in REHEARSAL mode (R24, R26). -/
def execWheelPulseAccepted (t : TrackId) (w : WheelSensor) (s : State) : Host.Outcome State Fault Refusal :=
  .next (let c := s.channel t
    if c.mode = some .rehearsal then
      match c.duePulse w s.ticks with
      | some p => (s.updChannel t fun c => c.dropPulse p).disposePulse t w p.timestamp
      | none => s
    else
      match c.acceptedStamp w s.ticks with
      | some stamp =>
        (s.updChannel t fun c => c.setWheel w { c.wheels.get w with count := none }).disposePulse t w stamp
      | none => s)

/-! ## The clear interval (R14, R73, R97) -/

/-- A head detector of the passage is stuck: in use, and BLOCKED at the expiry (R73). -/
def Channel.stuck (c : Channel) (d : Detector) : Bool :=
  (c.detectors.get d).blocked
    && (if d = approachDetector c.passage.direction then c.passage.approachInUse else c.passage.departureInUse)

/-- The stuck test of one detector (R73). -/
def State.stuckTest (s : State) (t : TrackId) (d : Detector) : State :=
  if (s.channel t).stuck d then s.faultUnlessRehearsal t (detectorIndex t d) else s

/-- A head whose plan is abandoned: SCHEDULED and HELD become FINISHED (R97). -/
def Head.abandon (h : Head) : Head :=
  match h.status with
  | .scheduled => { h with status := .finished }
  | .held => { h with status := .finished }
  | .untimed => h
  | .finished => h

/-- The channel at the clear-timer expiry: the close time is fixed, both timers stop, an open approach interval is
discarded and the plans are abandoned (R14, R73, R97). -/
def Channel.beginClose (c : Channel) (now : LocalTime) (ticks : Nat) : Channel :=
  { c with
    clearTimer := none
    staleTimer := none
    closingSince := some ticks
    heads := c.heads.map Head.abandon
    passage := { c.passage with closed := some now, approachOpen := none } }

/-- Every timeline entry of a track's heads leaves the timeline (R97). -/
def State.dropEntries (s : State) (t : TrackId) : State :=
  { s with timeline := s.timeline.filter fun e => e.track != t }

/-- The passage of a track begins to close (R14). Closing lasts for this instant even where no head waits, so a pulse taken
after the expiry arrives in the closing phase and is ignored (R16), and an OFFLINE request taken after it finds the passage
closing and aborts it (R17). R15 has the vote run at the expiry instant itself and does not say that it comes last there:
that is a DESIGN CHOICE (log entry 37). -/
def State.beginClose (s : State) (t : TrackId) : State :=
  let tested := allDetectors.foldl (fun s d => s.stuckTest t d) s
  let closing := (tested.updChannel t fun c => c.beginClose s.localTime s.ticks).dropEntries t
  closing.closeTests t (s.channel t).headIndices

/-- The clear-interval timer of an open passage has run out (R14). -/
def Channel.clearDue (c : Channel) (ticks : Nat) : Bool := c.counting && timerDue c.clearTimer ticks

/-- CLEAR_INTERVAL_EXPIRY: the passage begins to close (R14); taken again while the passage closes with no head left, it is
the last step of the close (R15, R16, log entry 37). -/
def execClearIntervalExpiry (t : TrackId) (s : State) : Host.Outcome State Fault Refusal :=
  .next (if (s.channel t).clearDue s.ticks then s.beginClose t
    else if (s.channel t).closeOver then s.completeClose t
    else s)

/-! ## The dormant delay (R6) -/

/-- The dormant-delay timer of an IDLE track has run out (R6). -/
def Channel.dormantDue (c : Channel) (ticks : Nat) : Bool := c.state = .idle && timerDue c.dormantTimer ticks

/-- The strobe pool is powered down where no track is awake (R7, R120). -/
def State.restPool (s : State) : State := if s.anyAwake then s else s.powerDownPool

/-- The power of a track that has left IDLE and PASSAGE is removed (R7, R106, R120). -/
def State.powerDownTrack (s : State) (t : TrackId) : State := (s.powerDownCameras t).restPool

/-- DORMANT_DELAY_EXPIRY: the track goes from IDLE to DORMANT (R6). -/
def execDormantDelayExpiry (t : TrackId) (s : State) : Host.Outcome State Fault Refusal :=
  .next (if (s.channel t).dormantDue s.ticks then
      (s.updChannel t fun c => { c with state := .dormant, dormantTimer := none }).powerDownTrack t
    else s)

/-! ## Requests (R8, R19, R21) -/

/-- The six positions of a SET TRACK GEOMETRY body (R21). -/
def geometryOf (body : List Byte) : Geometry :=
  { wao := fieldInt body 1 4, wai := fieldInt body 5 4, hda := fieldInt body 9 4, hdb := fieldInt body 13 4,
    wbi := fieldInt body 17 4, wbo := fieldInt body 21 4 }

/-- A position lies in range (R21). -/
def positionOk (x : Int) : Bool := inRangeInt (-200000) 200000 x

/-- The checks of R21 on the six positions. -/
def Geometry.ok (g : Geometry) : Bool :=
  positionOk g.wao && positionOk g.wai && positionOk g.hda && positionOk g.hdb && positionOk g.wbi && positionOk g.wbo
  && g.wao < g.wai && g.wai < g.hda && g.hda < 0 && 0 < g.hdb && g.hdb < g.wbi && g.wbi < g.wbo
  && inRangeInt 2000 30000 (g.wai - g.wao) && inRangeInt 2000 30000 (g.wbo - g.wbi)
  && inRangeInt 2000 40000 (-g.hda) && inRangeInt 2000 40000 g.hdb
  && 1000 ≤ g.hda - g.wai && 1000 ≤ g.wbi - g.hdb

/-- SET TRACK GEOMETRY (R21). -/
def handleSetTrackGeometry (body : List Byte) (s : State) : Answer :=
  let debounce := field body 25 2
  match trackOfCode (field body 0 1) with
  | none => refuse s .badValue
  | some t =>
    if !((geometryOf body).ok && inRange 20 5000 debounce) then refuse s .badValue
    else if (s.channel t).state != .offline then refuse s .wrongState
    else
      accept (s.updChannel t fun c => { c with geometryValid := true, geometry := geometryOf body, debounce := debounce })
        []

/-- SET TRACK TIMING (R8). -/
def handleSetTrackTiming (body : List Byte) (s : State) : Answer :=
  let interval := field body 1 4
  let delay := field body 5 2
  match trackOfCode (field body 0 1) with
  | none => refuse s .badValue
  | some t =>
    if !(inRange 1000 120000 interval && delay ≤ 3600) then refuse s .badValue
    else if (s.channel t).state != .offline then refuse s .wrongState
    else accept (s.updChannel t fun c => { c with clearInterval := interval, dormantDelay := delay }) []

/-- A head in 9 bytes (R19). -/
def Head.bytes (h : Head) : List Byte :=
  [BitVec.ofNat 8 h.index, BitVec.ofNat 8 h.status.code, boolByte h.predicted.isSome] ++ optTimeBytes h.predicted

/-- A passage has opened since the last reset (R19). -/
def Passage.hasOpened (p : Passage) : Bool := p.number != 0

/-- The snapshot of a track (R19); the flags byte is that of R186, and absent fields are zero. -/
def Channel.bytes (c : Channel) : List Byte :=
  let p := c.passage
  [BitVec.ofNat 8 c.state.code,
    packBits [c.mode.isSome, p.hasOpened, c.speed.estimate.isSome, c.closing, c.geometryValid],
    BitVec.ofNat 8 ((c.mode.map Mode.code).getD 0)]
  ++ toBytes 2 p.number
  ++ [BitVec.ofNat 8 (directionCode p.direction), BitVec.ofNat 8 p.outcome.code, BitVec.ofNat 8 c.speed.code]
  ++ toBytes 4 (c.speed.estimate.getD 0)
  ++ [BitVec.ofNat 8 c.approach.state.code, BitVec.ofNat 8 c.departure.state.code,
    BitVec.ofNat 8 c.approach.queue.length, BitVec.ofNat 8 c.departure.queue.length, BitVec.ofNat 8 c.heads.length]
  ++ c.heads.flatMap Head.bytes

/-- READ TRACK (R19). -/
def handleReadTrack (body : List Byte) (s : State) : Answer :=
  match trackOfCode (field body 0 1) with
  | none => refuse s .badValue
  | some t => accept s (s.channel t).bytes

end Sys2Proof.Machine
end

