-- ==== Sys2Proof/Machine/TrackMode.lean ====
section
/-! DEFINITION. SET TRACK MODE: entering service, waking, changing the mode, and leaving service with the abort of a
passage (chapter 1, R2 to R5, R17, R38). -/

namespace Sys2Proof.Machine

/-- A wheel input with no count running; its level stays (R38). -/
def WheelInput.atRest (x : WheelInput) : WheelInput := { x with count := none }

/-- A head-detector input at rest: CLEAR, no count, the synthetic level low; its pin's level stays (R57). -/
def DetectorInput.atRest (x : DetectorInput) : DetectorInput :=
  { x with synthetic := false, blocked := false, count := none }

/-- A generator with nothing scheduled and its live-strobe flag clear (R159, R165). -/
def Generator.cleared (g : Generator) : Generator := { g with schedule := [], liveStrobe := false }

/-- Every debounce of the track begins from rest: real counts, synthetic pulses and synthetic intervals go (R38, R57,
R165), and the generator is cleared. -/
def Channel.inputsAtRest (c : Channel) : Channel :=
  { c with
    wheels := ⟨c.wheels.wao.atRest, c.wheels.wai.atRest, c.wheels.wbi.atRest, c.wheels.wbo.atRest⟩
    detectors := ⟨c.detectors.hda.atRest, c.detectors.hdb.atRest⟩
    synthetic := []
    generator := c.generator.cleared }

/-- The track takes a mode that it does not hold: its inputs change hands (R4, R38). -/
def Channel.takeMode (c : Channel) (m : Mode) : Channel :=
  if c.mode = some m then c else { c.inputsAtRest with mode := some m }

/-- Every camera that an EXPOSE step of a plan bound to the track names is assigned to the track (R3). -/
def State.camerasAssigned (s : State) (t : TrackId) : Bool :=
  (s.boundPlans t).all fun p => (s.plans[p]).all fun step =>
    match step with
    | .expose camera _ => (s.camera camera).track == some t
    | .atPos _ => true
    | .after _ => true
    | .mark => true

/-- An OFFLINE or DORMANT track enters IDLE in a mode: its cameras are powered, and the strobe pool if neither track was
awake (R3, R4, R104, R119). -/
def State.wakeTrack (s : State) (t : TrackId) (m : Mode) : State :=
  ((s.updChannel t fun c => (c.takeMode m).enterIdle s.ticks).powerUpCameras t).wakePool s.anyAwake

/-- The channel at an abort: outcome ABORTED, the close time fixed unless closing had fixed it, timers and queues gone
(R17). -/
def Channel.beginAbort (c : Channel) (now : LocalTime) : Channel :=
  { c.emptyQueues with
    clearTimer := none
    staleTimer := none
    passage := { c.passage with outcome := .aborted, closed := some (c.passage.closed.getD now), approachOpen := none } }

/-- The passage of a track is aborted: its heads close as CANCELLED and its PASSAGE record is offered (R17). -/
def State.abortPassage (s : State) (t : TrackId) : State :=
  ((s.updChannel t fun c => c.beginAbort s.localTime).cancelHeads t).offerPassage t none

/-- The channel as it enters OFFLINE: no mode, no timer, inputs and generator at rest; the configuration stays (R5). -/
def Channel.leaveService (c : Channel) : Channel :=
  { c.endPassage.inputsAtRest with state := .offline, mode := none, dormantTimer := none }

/-- The track leaves service and its power is removed (R5, R106, R120). -/
def State.leaveService (s : State) (t : TrackId) : State :=
  (s.updChannel t Channel.leaveService).powerDownTrack t

/-- SET TRACK MODE with target OFFLINE (R5, R17). -/
def State.goOffline (s : State) (t : TrackId) : State :=
  match (s.channel t).state with
  | .offline => s
  | .idle => s.leaveService t
  | .dormant => s.leaveService t
  | .passage => (s.abortPassage t).leaveService t

/-- SET TRACK MODE with target LIVE or REHEARSAL (R3, R4). -/
def State.goInService (s : State) (t : TrackId) (m : Mode) : Answer :=
  match (s.channel t).state with
  | .offline =>
    if (s.channel t).geometryValid && s.camerasAssigned t then accept (s.wakeTrack t m) [] else refuse s .badValue
  | .idle => accept (s.updChannel t fun c => (c.takeMode m).enterIdle s.ticks) []
  | .dormant => accept (s.wakeTrack t m) []
  | .passage => if (s.channel t).mode = some m then accept s [] else refuse s .wrongState

/-- SET TRACK MODE (R2). -/
def handleSetTrackMode (body : List Byte) (s : State) : Answer :=
  match trackOfCode (field body 0 1), field body 1 1 with
  | some t, 0 => accept (s.goOffline t) []
  | some t, 1 => s.goInService t .live
  | some t, 2 => s.goInService t .rehearsal
  | _, _ => refuse s .badValue

end Sys2Proof.Machine
end

