-- ==== Sys2Proof/Machine/Rehearsal.lean ====
section
/-! DEFINITION. The rehearsal generator: the request REHEARSE, the times of the synthetic edges, and their delivery
(chapter 10). -/

namespace Sys2Proof.Machine

/-! ## The request (R160) -/

/-- A described head: its front offset and its length, in mm (section 10.2). -/
structure RehearsedHead where
  front : Int
  length : Nat
  deriving DecidableEq, Repr

/-- `n` axle offsets of 3 bytes each. -/
def axleOffsets : Nat → List Byte → List Nat
  | 0, _ => []
  | n + 1, b => field b 0 3 :: axleOffsets n (b.drop 3)

/-- `n` heads of 5 bytes each. -/
def rehearsedHeads : Nat → List Byte → List RehearsedHead
  | 0, _ => []
  | n + 1, b => { front := fieldInt b 0 3, length := field b 3 2 } :: rehearsedHeads n (b.drop 5)

/-- A synthetic train in the travel frame of its direction: speed in mm/s, start delay in ms, axle offsets and heads. -/
structure Train where
  direction : Direction
  speed : Nat
  delay : Nat
  live : Bool
  axles : List Nat
  heads : List RehearsedHead
  deriving DecidableEq, Repr

/-- The train that a REHEARSE body of a valid length describes. -/
def trainOf (body : List Byte) (direction : Direction) : Train :=
  let axles := field body 9 1
  { direction := direction, speed := field body 2 4, delay := field body 6 2, live := field body 8 1 = 1,
    axles := axleOffsets axles (body.drop 11),
    heads := rehearsedHeads (field body 10 1) (body.drop (11 + 3 * axles)) }

/-- No offset is less than the one before it, and none exceeds 1,000,000 (R160). -/
def offsetsOk : List Nat → Bool
  | [] => true
  | [a] => a ≤ 1000000
  | a :: b :: rest => a ≤ b && offsetsOk (b :: rest)

/-- A head lies in range (R160). -/
def RehearsedHead.ok (h : RehearsedHead) : Bool := inRangeInt (-5000) 1000000 h.front && inRange 100 3000 h.length

/-- The value checks of R160 on a train. -/
def Train.ok (x : Train) : Bool :=
  inRange 300 110000 x.speed && x.delay ≤ 60000 && inRange 1 64 x.axles.length && x.heads.length ≤ 8
  && x.axles.head? == some 0 && offsetsOk x.axles && x.heads.all RehearsedHead.ok

/-! ## The synthetic edges (R161, R162) -/

/-- A product over a speed, rounded up (R161). -/
def ceilDivInt (a : Int) (b : Nat) : Int := -((-a) / (b : Int))

/-- The tick offset of a point that stands `behind` mm behind the first axle, at the sensor at travel-frame position
`position`, the approach outer sensor standing at `outer` (R161). -/
def Train.offset (x : Train) (outer position behind : Int) : Int :=
  (x.delay * ticksPerMs : Nat) + ceilDivInt ((position - outer + behind) * 1000000) x.speed

/-- A synthetic edge with its computed offset, which may be negative (R162). -/
structure ComputedEdge where
  offset : Int
  input : SyntheticInput
  leading : Bool
  deriving DecidableEq, Repr

/-- The two edges of an axle's pulse at one wheel sensor: the trailing edge twice the debounce time later (R161). -/
def Train.pulse (x : Train) (outer : Int) (debounce : Nat) (sensor : WheelSensor) (position : Int) (axle : Nat) :
    List ComputedEdge :=
  let lead := x.offset outer position axle
  [{ offset := lead, input := .wheel sensor, leading := true },
    { offset := lead + (2 * debounce : Nat), input := .wheel sensor, leading := false }]

/-- A wheel sensor's travel-frame position in a direction (R23). -/
def TravelFrame.wheelPosition (f : TravelFrame) (d : Direction) (w : WheelSensor) : Int :=
  match sensorRole d w with
  | (.approach, true) => f.approachOuter
  | (.approach, false) => f.approachInner
  | (.departure, true) => f.departureInner
  | (.departure, false) => f.departureOuter

/-- A detector's travel-frame position in a direction (R23). -/
def TravelFrame.detectorPosition (f : TravelFrame) (d : Direction) (x : Detector) : Int :=
  if x = approachDetector d then f.approachHead else f.departureHead

/-- The interval of a head at a detector, from its leading to its trailing edge (R162). -/
def Train.interval (x : Train) (outer position : Int) (h : RehearsedHead) : Int × Int :=
  (x.offset outer position h.front, x.offset outer position (h.front + (h.length : Int)))

/-- Merge the intervals, in order of leading edge, that overlap or touch, the first being open (R162). -/
def mergeFrom (first : Int × Int) : List (Int × Int) → List (Int × Int)
  | [] => [first]
  | b :: rest => if b.1 ≤ first.2 then mergeFrom (first.1, max first.2 b.2) rest else first :: mergeFrom b rest

/-- Merge intervals, in order of leading edge, that overlap or touch (R162). -/
def mergeIntervals : List (Int × Int) → List (Int × Int)
  | [] => []
  | a :: rest => mergeFrom a rest

/-- The merged spans of a detector (R162). -/
def Train.spans (x : Train) (outer position : Int) : List (Int × Int) :=
  mergeIntervals (sortBy (fun a b => a.1 < b.1) (x.heads.map (x.interval outer position)))

/-- The edges of a detector (R162). -/
def Train.detectorEdges (x : Train) (outer position : Int) (d : Detector) : List ComputedEdge :=
  (x.spans outer position).flatMap fun span =>
    [{ offset := span.1, input := .head d, leading := true }, { offset := span.2, input := .head d, leading := false }]

/-- An edge as it is scheduled: a negative offset is placed at the acceptance instant (R162). -/
def ComputedEdge.place (e : ComputedEdge) : SyntheticEdge :=
  { offset := e.offset.toNat, input := e.input, leading := e.leading }

/-- The schedule of a train on a track: every edge, in order of computed offset (R160 to R162). Edges with equal offsets
stand wheel sensors first, axle by axle, then head detectors: a DESIGN CHOICE (log entry 34). -/
def Train.schedule (x : Train) (g : Geometry) (debounce : Nat) : List SyntheticEdge :=
  let f := travelFrame g x.direction
  let wheels := x.axles.flatMap fun axle => allSensors.flatMap fun w =>
    x.pulse f.approachOuter debounce w (f.wheelPosition x.direction w) axle
  let heads := allDetectors.flatMap fun d =>
    x.detectorEdges f.approachOuter (f.detectorPosition x.direction d) d
  (sortBy (fun a b => a.offset < b.offset) (wheels ++ heads)).map ComputedEdge.place

/-- The offset of the last edge of a schedule. -/
def lastOffset (schedule : List SyntheticEdge) : Nat := (schedule.getLast?.map (·.offset)).getD 0

/-- REHEARSE (R160). -/
def handleRehearse (body : List Byte) (s : State) : Answer :=
  let flag := field body 8 1
  match trackOfCode (field body 0 1), directionOfCode (field body 1 1) with
  | some t, some d =>
    let x := trainOf body d
    let c := s.channel t
    if !(isFlag flag && x.ok) then refuse s .badValue
    else if c.mode != some .rehearsal then refuse s .wrongState
    else if !(c.state = .idle || c.state = .dormant) then refuse s .wrongState
    else if !c.generator.schedule.isEmpty then refuse s .wrongState
    else
      let schedule := x.schedule c.geometry c.debounce
      accept
        (s.updChannel t fun c =>
          { c with generator := { schedule := schedule, acceptedAt := s.ticks, liveStrobe := x.live } })
        (timeBytes (later s.localTime (x.delay * ticksPerMs)) ++ timeBytes (later s.localTime (lastOffset schedule)))
  | _, _ => refuse s .badValue

/-! ## Delivery (R163, R165) -/

/-- The next edge of a generator, once its tick has come (R163). -/
def Generator.dueEdge (g : Generator) (ticks : Nat) : Option SyntheticEdge :=
  match g.schedule with
  | e :: _ => if g.acceptedAt + e.offset ≤ ticks then some e else none
  | [] => none

/-- A synthetic edge at its input (R163): a wheel pulse's leading edge starts a pulse with its own count, its trailing edge
ends it without effect, and a head detector's edge changes the synthetic level, which R57 judges. -/
def Channel.applyEdge (c : Channel) (e : SyntheticEdge) (now : LocalTime) (ticks : Nat) : Channel :=
  match e.input with
  | .wheel w =>
    if e.leading then { c with synthetic := c.synthetic ++ [{ sensor := w, timestamp := now, accepts := ticks + c.debounce }] }
    else c
  | .head d =>
    { c with
      detectors := c.detectors.set d
        (({ c.detectors.get d with synthetic := e.leading } : DetectorInput).edge e.leading (ticks + c.debounce)) }

/-- The next edge leaves the schedule and is applied. -/
def Channel.deliver (c : Channel) (e : SyntheticEdge) (now : LocalTime) (ticks : Nat) : Channel :=
  Channel.applyEdge { c with generator := { c.generator with schedule := c.generator.schedule.drop 1 } } e now ticks

/-- The scheduled edge of a track that is delivered now, if there is one (R163). -/
def State.edgeDue (s : State) (t : TrackId) : Option SyntheticEdge := (s.channel t).generator.dueEdge s.ticks

/-- Deliver an edge; the last one of the schedule latches REHEARSAL_DONE (R165). -/
def State.deliver (s : State) (t : TrackId) (e : SyntheticEdge) : State :=
  let delivered := s.updChannel t fun c => c.deliver e s.localTime s.ticks
  if (delivered.channel t).generator.schedule.isEmpty then delivered.latch .rehearsalDone else delivered

/-- REHEARSAL_EDGE_DELIVERY (R163, R165). -/
def execRehearsalEdgeDelivery (t : TrackId) (s : State) : Host.Outcome State Fault Refusal :=
  .next (match s.edgeDue t with
    | some e => s.deliver t e
    | none => s)

end Sys2Proof.Machine
end

