-- ==== Sys2Proof/Machine/Timebase.lean ====
section
/-! DEFINITION. The timebase and the reference tracker: steps, windows, corrections, the advance of local time, and the
requests SET TIME, READ TIME and SET REFERENCE (chapter 9). -/

namespace Sys2Proof.Machine

/-! ## Whole seconds (R146, R150) -/

/-- Microseconds in a second. -/
def usPerSecond : Nat := 1000000

/-- The latest whole second at or below an instant (R146). -/
def floorSecond (t : LocalTime) : LocalTime := BitVec.ofNat 48 (t.toNat / usPerSecond * usPerSecond)

/-- The whole second after a whole second: 0 follows the last one before the wrap (R146). -/
def nextSecond (t : LocalTime) : LocalTime := if t.toNat = Config.lastSecond then 0#48 else later t usPerSecond

/-- An instant is a whole second (R146). -/
def isWholeSecond (t : LocalTime) : Bool := t.toNat % usPerSecond = 0

/-- The whole second nearest to an instant, the later of two that are equally distant (R150). -/
def nearestSecond (t : LocalTime) : LocalTime :=
  let below := floorSecond t
  let above := nextSecond below
  if (above - t).toNat ≤ (t - below).toNat then above else below

/-! ## Traffic (R151, R155) -/

/-- The debounce count of a real wheel input still runs after this instant (R24). -/
def WheelInput.counts (x : WheelInput) (ticks : Nat) : Bool := (x.count.map fun n => decide (ticks < n.2)).getD false

/-- An outer wheel-sensor input of the track has a debounce count running, real or synthetic. A count that runs out at this
very instant runs no more, even before its pulse is accepted: R157 lets the edge step, and SET TIME be accepted, where they
are taken before the track enters PASSAGE (rows 1 and 5); the pulse then moves along (`State.setLocalTime`, log entry 33). -/
def Channel.outerCountRuns (c : Channel) (ticks : Nat) : Bool :=
  c.wheels.wao.counts ticks || c.wheels.wbo.counts ticks
  || c.synthetic.any fun p => (p.sensor == .wao || p.sensor == .wbo) && ticks < p.accepts

/-- The track forbids a step of local time: it is in PASSAGE, or IDLE or DORMANT with an outer count running (R151). -/
def Channel.traffic (c : Channel) (ticks : Nat) : Bool :=
  match c.state with
  | .passage => true
  | .idle => c.outerCountRuns ticks
  | .dormant => c.outerCountRuns ticks
  | .offline => false

/-- Some track forbids a step of local time (R151, R155). -/
def State.traffic (s : State) : Bool := s.channels.t1.traffic s.ticks || s.channels.t2.traffic s.ticks

/-! ## Setting local time (R150, R155) -/

/-- The timestamp of a pulse whose debounce count runs out by a tick moves along as local time is set; that of one whose
count runs on stays (R24). -/
def movedStamp (ticks : Nat) (delta stamp : LocalTime) (accepts : Nat) : LocalTime :=
  if accepts ≤ ticks then stamp + delta else stamp

/-- A wheel input as local time is set. -/
def WheelInput.moved (x : WheelInput) (ticks : Nat) (delta : LocalTime) : WheelInput :=
  { x with count := x.count.map fun n => (movedStamp ticks delta n.1 n.2, n.2) }

/-- The pulses of a track as local time is set. -/
def Channel.moved (c : Channel) (ticks : Nat) (delta : LocalTime) : Channel :=
  { c with
    wheels :=
      ⟨c.wheels.wao.moved ticks delta, c.wheels.wai.moved ticks delta, c.wheels.wbi.moved ticks delta,
        c.wheels.wbo.moved ticks delta⟩
    synthetic := c.synthetic.map fun p => { p with timestamp := movedStamp ticks delta p.timestamp p.accepts } }

/-- Local time is stepped or set (R150, R155). A pulse whose count runs out at this instant, and which is accepted after
that, moves along: the times of the passage that it opens are read after the step or on the new seconds (R147, R157;
DESIGN CHOICE, log entry 33). -/
def State.setLocalTime (s : State) (now : LocalTime) : State :=
  let delta := now - s.localTime
  { s with
    localTime := now
    channels := ⟨s.channels.t1.moved s.ticks delta, s.channels.t2.moved s.ticks delta⟩ }

/-! ## REF edges (R148, R150 to R153) -/

/-- A step to the nearest whole second: the tracker is LOCKED on it, and REF_LOCKED is latched (R150). -/
def State.stepTime (s : State) : State :=
  let n := nearestSecond s.localTime
  State.latch
    { s.setLocalTime n with
      tracker := { s.tracker with state := .locked, misses := 0, window := n, seen := true, corrections := [],
                                  phaseError := none } }
    .refLocked

/-- The correction for a phase error (R153). -/
def correctionOf (e : Int) : Int :=
  if inRangeInt (-1) 1 e then 0
  else if inRangeInt (-50) 50 e then -e
  else if e < 0 then 50
  else -50

/-- The targets of a correction for the window of a whole second, nearest first (R153). -/
def targetsOf (second : LocalTime) (c : Int) : List Correction :=
  (List.range c.natAbs).map fun k => { target := later second (20000 * (k + 1)), up := 0 < c }

/-- Targets join the correction list, which is kept in order of target (R153, log entry 18). -/
def joinTargets (corrections : List Correction) : List Correction → List Correction
  | [] => corrections
  | x :: rest => joinTargets (insertSorted (fun a b => after b.target a.target) x corrections) rest

/-- The phase error of an edge at an instant in the tracker's open, unseen window; none outside it (R152). -/
def Tracker.phaseAt (k : Tracker) (now : LocalTime) : Option Int :=
  let e := timeDiff now k.window
  if !k.seen && inRangeInt (-500) 500 e then some e else none

/-- The tracker after an edge measured with a phase error (R152, R153). -/
def Tracker.measure (k : Tracker) (e : Int) : Tracker :=
  { k with
    seen := true
    misses := 0
    phaseError := some e
    corrections := joinTargets k.corrections (targetsOf k.window (correctionOf e)) }

/-- A REF edge of the LOCKED tracker: measured in its window, ignored otherwise (R152). -/
def State.measureEdge (s : State) : State :=
  match s.tracker.phaseAt s.localTime with
  | some e => { s with tracker := s.tracker.measure e }
  | none => s

/-- A REF edge of the tracker in SEARCH or HOLDOVER: a step, or ignored during traffic (R151, R157). -/
def State.judgeEdge (s : State) : State := if s.traffic then s else s.stepTime

/-- REF_EDGE: an edge of the configured polarity is handled by the tracker state (R148). -/
def execRefEdge (rising : Bool) (s : State) : Host.Outcome State Fault Refusal :=
  .next (if rising == s.tracker.falling then s
    else
      match s.tracker.state with
      | .free => s
      | .search => s.judgeEdge
      | .locked => s.measureEdge
      | .holdover => s.judgeEdge)

/-! ## Windows (R152, R154) -/

/-- The window of the LOCKED tracker has closed: local time exceeds its second by more than 500 (R152). -/
def State.windowDue (s : State) : Bool :=
  s.tracker.state = .locked && 500 < timeDiff s.localTime s.tracker.window

/-- The tracker looks to the window of the next whole second. -/
def Tracker.turnWindow (k : Tracker) : Tracker := { k with window := nextSecond k.window, seen := false }

/-- The tracker after a miss: the second one in a row enters HOLDOVER (R154). -/
def Tracker.miss (k : Tracker) : Tracker :=
  if k.misses + 1 = 2 then { k with state := .holdover, misses := 0 } else { k with misses := k.misses + 1 }

/-- A window closes unseen (R154). -/
def State.missWindow (s : State) : State :=
  let missed := State.latch { s with tracker := s.tracker.miss.turnWindow } .refMissed
  if s.tracker.misses + 1 = 2 then missed.latch .refLost else missed

/-- The window closes, seen or unseen (R152, R154). -/
def State.closeWindow (s : State) : State :=
  if s.tracker.seen then { s with tracker := s.tracker.turnWindow } else s.missWindow

/-- WINDOW_CLOSE. -/
def execWindowClose (s : State) : Host.Outcome State Fault Refusal :=
  .next (if s.windowDue then s.closeWindow else s)

/-! ## The advance of local time (R146, R153) -/

/-- The correction whose adjusted tick is the next tick, if there is one (R153). -/
def State.nextCorrection (s : State) : Option Correction :=
  s.tracker.corrections.find? fun c => c.target == later s.localTime 1

/-- How far local time advances at an adjusted tick (R153). -/
def Correction.advance (c : Correction) : Nat := if c.up then 2 else 0

/-- One tick: local time advances by 1, or at an adjusted tick by 0 or 2, its target leaving the list (R146, R153). -/
def State.tick (s : State) : State :=
  match s.nextCorrection with
  | some c =>
    { s with
      ticks := s.ticks + 1
      localTime := later s.localTime c.advance
      tracker := { s.tracker with corrections := s.tracker.corrections.erase c } }
  | none => { s with ticks := s.ticks + 1, localTime := later s.localTime 1 }

/-- The instant is over, and with it the order among its offers (R72, log entry 35); a tick passes. -/
def State.advance (s : State) : State := State.tick { s with store := { s.store with offered := [] } }

/-! ## Requests (R149, R155, R156) -/

/-- The window of a tracker after local time moved by `delta` to `now` (R155): it moves along, and where that leaves the
whole seconds it becomes the first window that is not over (log entry 14). -/
def movedWindow (window delta now : LocalTime) : LocalTime :=
  if isWholeSecond (window + delta) then window + delta
  else if (now - floorSecond now).toNat ≤ 500 then floorSecond now
  else nextSecond (floorSecond now)

/-- The tracker after local time moved by `delta` to `now` (R155): its windows and targets move along. The edge-seen status
stays also where the window becomes another one than the moved one (DESIGN CHOICE, log entry 14). -/
def Tracker.move (k : Tracker) (delta now : LocalTime) : Tracker :=
  { k with
    window := movedWindow k.window delta now
    corrections := k.corrections.map fun c => { c with target := c.target + delta } }

/-- The local time of some whole seconds and the sub-second phase of an instant (R155). -/
def withSeconds (seconds : Nat) (t : LocalTime) : LocalTime :=
  BitVec.ofNat 48 (seconds * usPerSecond + t.toNat % usPerSecond)

/-- SET TIME (R155). -/
def handleSetTime (body : List Byte) (s : State) : Answer :=
  let seconds := field body 0 4
  if 281474975 < seconds then refuse s .badValue
  else if s.traffic then refuse s .wrongState
  else
    let now := withSeconds seconds s.localTime
    accept { s.setLocalTime now with tracker := s.tracker.move (now - s.localTime) now } []

/-- READ TIME (R156). -/
def handleReadTime (_body : List Byte) (s : State) : Answer :=
  let k := s.tracker
  accept s
    (timeBytes s.localTime
      ++ [BitVec.ofNat 8 k.state.code, boolByte k.enabled, boolByte k.falling, boolByte k.phaseError.isSome]
      ++ toBytesInt 2 (k.phaseError.getD 0)
      ++ [BitVec.ofNat 8 k.misses, BitVec.ofNat 8 k.corrections.length])

/-- The tracker with an empty correction list and a miss count of 0, in a state (R149). -/
def Tracker.restart (k : Tracker) (state : TrackerState) : Tracker :=
  { k with state := state, misses := 0, corrections := [] }

/-- The tracker after SET REFERENCE (R149). -/
def Tracker.configure (k : Tracker) (enable falling : Bool) : Tracker :=
  if !enable then { k.restart .free with enabled := false, falling := falling }
  else if k.state = .free || falling != k.falling then { k.restart .search with enabled := true, falling := falling }
  else k

/-- SET REFERENCE (R149). -/
def handleSetReference (body : List Byte) (s : State) : Answer :=
  let enable := field body 0 1
  let falling := field body 1 1
  if isFlag enable && isFlag falling then
    accept { s with tracker := s.tracker.configure (enable = 1) (falling = 1) } []
  else refuse s .badValue

end Sys2Proof.Machine
end

