-- ==== Sys2Proof/Machine/Resets.lean ====
section
/-! DEFINITION. The two resets: the pin reset and the RESTART (R20, R22, R55, R77, R98, R103, R116, R118, R125, R132, R144,
R158, R159, R173, R180, R185). The levels at the input pins belong to the world and stay as they are. -/

namespace Sys2Proof.Machine

/-- A wheel input after a reset: no count, the level at its pin as it stands. -/
def WheelInput.afterReset (x : WheelInput) : WheelInput := { level := x.level, count := none }

/-- A detector input after a reset: CLEAR, no count, the level at its pin as it stands (R77). -/
def DetectorInput.afterReset (x : DetectorInput) : DetectorInput :=
  { pin := x.pin, synthetic := false, blocked := false, count := none }

/-- A channel after a pin reset or a RESTART (R20). -/
def Channel.afterReset (c : Channel) : Channel :=
  { Channel.reset with
    wheels := ⟨c.wheels.wao.afterReset, c.wheels.wai.afterReset, c.wheels.wbi.afterReset, c.wheels.wbo.afterReset⟩
    detectors := ⟨c.detectors.hda.afterReset, c.detectors.hdb.afterReset⟩ }

/-- An inhibit input after a reset: enabled, active-low, the level at its pin as it stands (R125). -/
def InhibitInput.afterReset (x : InhibitInput) : InhibitInput := { InhibitInput.reset with level := x.level }

/-- A camera after a RESTART: as after a pin reset, but its last exposure start is remembered (R116). -/
def Camera.afterRestart (c : Camera) : Camera := { Camera.reset with lastExposure := c.lastExposure }

/-- What a pin reset and a RESTART have in common: every block but the cameras' last exposures, the timebase, the tracker
and the sampled straps. The commands that wait stay (log entry 26). -/
def State.common (s : State) (baud : BitVec 2) : State :=
  let inhibits := updateAt (updateAt (updateAt (updateAt s.inhibits 0 InhibitInput.afterReset) 1 InhibitInput.afterReset)
    2 InhibitInput.afterReset) 3 InhibitInput.afterReset
  { State.reset with
    channels := ⟨s.channels.t1.afterReset, s.channels.t2.afterReset⟩
    inhibits := inhibits
    inhibit := formInhibit inhibits
    link := Link.reset baud
    pending := s.pending
    choices := s.choices }

/-- A pin reset that samples the straps at its release (R185): everything at its reset value, local time 0. -/
def State.pinReset (s : State) (straps : BitVec 2) : State := s.common straps

/-- The receiver after a restart at a tick: a frame in assembly is abandoned, and the receiver hunts (R180). -/
def Receiver.afterRestart (r : Receiver) (ticks : Nat) : Receiver :=
  match r with
  | .hunting => .hunting
  | .inFrame taken lastByte => .abandoned taken lastByte ticks
  | .abandoned _ _ _ => .hunting

/-- The link after a restart: as after a pin reset, at the baud rate it had, a frame in assembly abandoned (R180). -/
def Link.afterRestart (x : Link) (ticks : Nat) : Link :=
  { Link.reset x.baud with receiver := x.receiver.afterRestart ticks }

/-- The RESTART (R180): as a pin reset, but the baud rate, the timebase and the tracker go on, and each camera's last
exposure is remembered (R116, R158). -/
def State.restart (s : State) : State :=
  { s.common s.link.baud with
    ticks := s.ticks
    localTime := s.localTime
    tracker := s.tracker
    link := s.link.afterRestart s.ticks
    cameras := s.cameras.map Camera.afterRestart }

/-- PIN_RESET: the release of RSTn with levels at the straps, BAUD1 in bit 1 (R185). -/
def execPinReset (straps : BitVec 2) (s : State) : Host.Outcome State Fault Refusal := .next (s.pinReset straps)

end Sys2Proof.Machine
end

