-- ==== Sys2Proof/Machine/Requests.lean ====
section
/-! DEFINITION. Request processing: the link unit's own requests, the judging of a request, the reply, the receive queue
and the taking of the next request (chapter 12, R177 to R183). -/

namespace Sys2Proof.Machine

/-! ## The link unit's own requests (R179, R180, R182, R183) -/

/-- IDENTIFY (R179). -/
def handleIdentify (_body : List Byte) (s : State) : Answer :=
  accept s
    (toBytes 2 Config.vendorCode ++ toBytes 2 Config.partCode ++ toBytes 1 Config.revision
      ++ [BitVec.ofNat 8 allTracks.length, BitVec.ofNat 8 allCameras.length, BitVec.ofNat 8 allStrobes.length,
        BitVec.ofNat 8 s.plans.size, BitVec.ofNat 8 Config.storeSlots])

/-- RESTART is answered OK and acts when its reply has been sent (R180). -/
def handleRestart (_body : List Byte) (s : State) : Answer := accept s []

/-- The code of an ATTN mode (R182). -/
def AttnMode.code : AttnMode → Nat
  | .level => 0
  | .edge => 1

/-- READ EVENTS reports the latched set and clears it (R182). -/
def handleReadEvents (_body : List Byte) (s : State) : Answer :=
  let a := s.attention
  accept { s with attention := a.clear }
    (toBytes 2 a.latched.toNat ++ toBytes 2 a.mask.toNat ++ [BitVec.ofNat 8 a.mode.code])

/-- SET ATTENTION (R183). -/
def handleSetAttention (body : List Byte) (s : State) : Answer :=
  let mask := field body 0 2
  let mode := field body 2 1
  if mask < 4096 && isFlag mode then
    accept
      { s with attention := s.attention.configure (BitVec.ofNat 12 mask) (if mode = 0 then .level else .edge) s.ticks } []
  else refuse s .badValue

/-! ## Judging a request (R178) -/

/-- A request of a known kind and a right length is handled by the rule that owns it. -/
def handle (kind : RequestKind) (body : List Byte) (s : State) : Answer :=
  match kind with
  | .identify => handleIdentify body s
  | .restart => handleRestart body s
  | .readEvents => handleReadEvents body s
  | .setAttention => handleSetAttention body s
  | .setTrackGeometry => handleSetTrackGeometry body s
  | .setTrackTiming => handleSetTrackTiming body s
  | .setTrackMode => handleSetTrackMode body s
  | .readTrack => handleReadTrack body s
  | .setSpeedFilter => handleSetSpeedFilter body s
  | .setHeadLimits => handleSetHeadLimits body s
  | .setCamera => handleSetCamera body s
  | .resetCamera => handleResetCamera body s
  | .readCameras => handleReadCameras body s
  | .setStrobe => handleSetStrobe body s
  | .setInhibit => handleSetInhibit body s
  | .readStrobes => handleReadStrobes body s
  | .loadPlan => handleLoadPlan body s
  | .bindPlan => handleBindPlan body s
  | .readPlan => handleReadPlan body s
  | .fetchRecord => handleFetchRecord body s
  | .releaseRecord => handleReleaseRecord body s
  | .setStore => handleSetStore body s
  | .readHealth => handleReadHealth body s
  | .rejoinSensor => handleRejoinSensor body s
  | .setHealth => handleSetHealth body s
  | .setTime => handleSetTime body s
  | .readTime => handleReadTime body s
  | .setReference => handleSetReference body s
  | .rehearse => handleRehearse body s

/-- The answer to a request: its kind is judged first, then the length of its body, then values and state (R178). -/
def answer (q : Request) (s : State) : Answer :=
  match kindOfByte q.kind with
  | none => refuse s .unknownKind
  | some kind => if bodyLengthOk kind q.body then handle kind q.body s else refuse s .badLength

/-- The reply starts a restart when it has been sent: an accepted RESTART (R180). -/
def restartsAfter (q : Request) (status : Status) : Bool := q.kind = RequestKind.restart.code && status = .ok

/-- The record that a reply reports: that of an accepted FETCH RECORD is the oldest one (R170). -/
def State.reportedBy (s : State) (q : Request) (status : Status) : Option Record :=
  if q.kind = RequestKind.fetchRecord.code && status = .ok then s.store.records.head? else none

/-- A request is taken and processed at this instant: its effects, and its reply in transmission (R178). -/
def State.process (s : State) (q : Request) : State :=
  let a := answer q s
  { a.state with
    link := { a.state.link with
      transmission := some
        { request := q, bytes := replyFrame q a.status a.fields, started := s.ticks,
          restarts := restartsAfter q a.status, reported := a.state.reportedBy q a.status } } }

/-! ## The receive queue (R177, R178) -/

/-- A complete request frame is handed to the link unit: taken at once by an idle transmitter with nothing queued,
otherwise queued, or discarded with LINK_OVERRUN where 4 requests wait (R177, R178). -/
def State.receive (s : State) (q : Request) : State :=
  if s.link.transmission.isNone && s.link.queue.isEmpty then s.process q
  else if s.link.queue.length < Config.rxQueueMax then
    { s with link := { s.link with queue := s.link.queue ++ [q] } }
  else s.latch .linkOverrun

/-- A request command: a complete frame of the kind with this tag and body (log entry 4). A body of more than 248 bytes
fits in no frame: the frame is abandoned at its LEN byte and leaves no trace (R176, log entry 22). -/
def State.submit (s : State) (kind : RequestKind) (tag : Byte) (body : List Byte) : State :=
  if bodyFits body then s.receive { kind := kind.code, tag := tag, body := body } else s

/-- The next request is taken from the head of the receive queue by an idle transmitter (R178). -/
def State.takeNext (s : State) : State :=
  match s.link.queue with
  | [] => s
  | q :: rest => State.process { s with link := { s.link with queue := rest } } q

end Sys2Proof.Machine
end

