-- ==== Sys2Proof/Machine/Link.lean ====
section
/-! DEFINITION. The link's own events: a byte at RXD, the frame gap, the end of a reply, the restart that follows a RESTART
reply, and the end of an ATTN pulse (chapter 12, R176 to R180, R184). -/

namespace Sys2Proof.Machine

/-! ## The receiver (R176) -/

/-- Ticks since the last byte of the frame in assembly was complete, if there is one. -/
def State.gap (s : State) : Option Nat :=
  match s.link.receiver with
  | .hunting => none
  | .inFrame _ lastByte => some (s.ticks - lastByte)
  | .abandoned _ _ _ => none

/-- The gap has lasted at least as many ticks as given. -/
def State.gapIs (s : State) (ticks : Nat) : Bool := (s.gap.map fun g => decide (ticks ≤ g)).getD false

/-- The receiver's gap count has run out (R176). -/
def State.gapRunOut (s : State) : Bool := s.gapIs Config.frameGap

/-- The gap has lasted so long that a byte complete now started too late: the frame is abandoned already (R176, log
entry 8). -/
def State.gapOver (s : State) : Bool := s.gapIs (Config.frameGap + sendTicks s.link.baud 1)

/-- The receiver takes a state. -/
def State.setReceiver (s : State) (r : Receiver) : State := { s with link := { s.link with receiver := r } }

/-- A byte received while hunting: only a SYNC with a high stop bit counts (R176). -/
def State.hunt (s : State) (value : Byte) (stopHigh : Bool) : State :=
  s.setReceiver (if stopHigh && value == Config.sync then .inFrame [] s.ticks else .hunting)

/-- How many bytes follow SYNC in a frame whose LEN byte is given (R175). -/
def frameLength (len : Byte) : Nat := len.toNat + 5

/-- The bytes of a frame after SYNC carry the CRC of R175. -/
def frameGood (taken : List Byte) : Bool :=
  let covered := taken.take (taken.length - 2)
  field taken (taken.length - 2) 2 = (crc covered).toNat

/-- The request of the bytes of a complete frame after SYNC: LEN, KIND, TAG, body, CRC (R175). -/
def requestOf (taken : List Byte) : Request :=
  { kind := BitVec.ofNat 8 (field taken 1 1), tag := BitVec.ofNat 8 (field taken 2 1),
    body := (taken.drop 3).take (taken.length - 5) }

/-- The second CRC byte has arrived: the frame is handed on or discarded, and the receiver hunts again (R176). -/
def State.completeFrame (s : State) (taken : List Byte) : State :=
  let hunting := s.setReceiver .hunting
  if frameGood taken then hunting.receive (requestOf taken) else hunting

/-- A byte of the frame in assembly, with its stop bit high: `taken` holds the bytes after SYNC, this one last (R176). -/
def State.takeByte (s : State) (taken : List Byte) : State :=
  match taken with
  | [] => s
  | len :: _ =>
    if Config.maxBody < len.toNat then s.setReceiver .hunting
    else if taken.length = frameLength len then s.completeFrame taken
    else s.setReceiver (.inFrame taken s.ticks)

/-- The bytes after SYNC are a complete frame with the right CRC (R175). -/
def frameComplete (taken : List Byte) : Bool :=
  match taken with
  | [] => false
  | len :: _ => len.toNat ≤ Config.maxBody && taken.length = frameLength len && frameGood taken

/-- The byte that is complete now completes the frame that a restart of this very instant abandoned (R180). -/
def State.completesAbandoned (s : State) (taken : List Byte) (lastByte restart : Nat) (value : Byte) (stopHigh : Bool) :
    Bool :=
  restart = s.ticks && stopHigh && !(s.setReceiver (.inFrame taken lastByte)).gapOver && frameComplete (taken ++ [value])

/-- RX_BYTE (R176). A byte that completes a frame at the instant of a restart, taken after it, completes it still: the frame
joins the emptied queue and is taken (R180, log entry 38). -/
def execRxByte (value : Byte) (stopHigh : Bool) (s : State) : Host.Outcome State Fault Refusal :=
  .next (match s.link.receiver with
    | .hunting => s.hunt value stopHigh
    | .inFrame taken _ =>
      if s.gapOver then s.hunt value stopHigh
      else if stopHigh then s.takeByte (taken ++ [value])
      else s.setReceiver .hunting
    | .abandoned taken lastByte restart =>
      if s.completesAbandoned taken lastByte restart value stopHigh then s.completeFrame (taken ++ [value])
      else s.hunt value stopHigh)

/-- FRAME_GAP_TIMEOUT: the frame in assembly is abandoned (R176). -/
def execFrameGapTimeout (s : State) : Host.Outcome State Fault Refusal :=
  .next (if s.gapRunOut then s.setReceiver .hunting else s)

/-! ## The transmitter (R178, R180) -/

/-- The bit times that have passed since a transmission started. -/
def Transmission.bitsSent (x : Transmission) (baud : BitVec 2) (ticks : Nat) : Nat :=
  (ticks - x.started) * baudRate baud / 1000000

/-- The level at TXD: high while the transmitter is idle, and during a reply the level of the bit on the line (R175, R178,
R185). -/
def State.txd (s : State) : Bool :=
  match s.link.transmission with
  | some x => (x.bytes.flatMap uartBits).getD (x.bitsSent s.link.baud s.ticks) true
  | none => true

/-- The last byte of the reply in transmission has been sent (R178, log entry 9). -/
def State.replyDue (s : State) : Bool :=
  match s.link.transmission with
  | some x => x.started + sendTicks s.link.baud x.bytes.length ≤ s.ticks
  | none => false

/-- The reply in transmission is that of an accepted RESTART (R180). -/
def State.restarts (s : State) : Bool :=
  match s.link.transmission with
  | some x => x.restarts
  | none => false

/-- The transmitter becomes idle and the next request is taken (R178). -/
def State.endReply (s : State) : State :=
  State.takeNext { s with link := { s.link with transmission := none } }

/-- REPLY_SENT: the last byte of a reply has been sent (R178); after that of a RESTART the part restarts (R180, log
entry 11). -/
def execReplySent (s : State) : Host.Outcome State Fault Refusal :=
  .next (if s.replyDue then if s.restarts then s.restart else s.endReply else s)

/-- RESTART_TAKES_EFFECT: the last byte of a RESTART's reply has been sent (R180). -/
def execRestartTakesEffect (s : State) : Host.Outcome State Fault Refusal :=
  .next (if s.replyDue && s.restarts then s.restart else s)

/-! ## ATTN (R184) -/

/-- ATTN_PULSE_END. -/
def execAttnPulseEnd (s : State) : Host.Outcome State Fault Refusal :=
  .next (if s.attention.pulseDue s.ticks then { s with attention := s.attention.endPulse } else s)

end Sys2Proof.Machine
end

