-- ==== Sys2Proof/Machine/RequestRows.lean ====
section
/-! DEFINITION. The request rows of the table: each hands a complete request frame of its kind to the link unit (R175,
R177, R178, log entry 4). The rule named is the one that owns the request, in its `handle…` definition. -/

namespace Sys2Proof.Machine

/-- IDENTIFY (R179). -/
def execIdentify (tag : Byte) (body : List Byte) (s : State) : Host.Outcome State Fault Refusal :=
  .next (s.submit .identify tag body)

/-- RESTART (R180). -/
def execRestart (tag : Byte) (body : List Byte) (s : State) : Host.Outcome State Fault Refusal :=
  .next (s.submit .restart tag body)

/-- READ EVENTS (R182). -/
def execReadEvents (tag : Byte) (body : List Byte) (s : State) : Host.Outcome State Fault Refusal :=
  .next (s.submit .readEvents tag body)

/-- SET ATTENTION (R183). -/
def execSetAttention (tag : Byte) (body : List Byte) (s : State) : Host.Outcome State Fault Refusal :=
  .next (s.submit .setAttention tag body)

/-- SET TRACK GEOMETRY (R21). -/
def execSetTrackGeometry (tag : Byte) (body : List Byte) (s : State) : Host.Outcome State Fault Refusal :=
  .next (s.submit .setTrackGeometry tag body)

/-- SET TRACK TIMING (R8). -/
def execSetTrackTiming (tag : Byte) (body : List Byte) (s : State) : Host.Outcome State Fault Refusal :=
  .next (s.submit .setTrackTiming tag body)

/-- SET TRACK MODE (R2). -/
def execSetTrackMode (tag : Byte) (body : List Byte) (s : State) : Host.Outcome State Fault Refusal :=
  .next (s.submit .setTrackMode tag body)

/-- READ TRACK (R19). -/
def execReadTrack (tag : Byte) (body : List Byte) (s : State) : Host.Outcome State Fault Refusal :=
  .next (s.submit .readTrack tag body)

/-- SET SPEED FILTER (R55). -/
def execSetSpeedFilter (tag : Byte) (body : List Byte) (s : State) : Host.Outcome State Fault Refusal :=
  .next (s.submit .setSpeedFilter tag body)

/-- SET HEAD LIMITS (R76). -/
def execSetHeadLimits (tag : Byte) (body : List Byte) (s : State) : Host.Outcome State Fault Refusal :=
  .next (s.submit .setHeadLimits tag body)

/-- SET CAMERA (R102). -/
def execSetCamera (tag : Byte) (body : List Byte) (s : State) : Host.Outcome State Fault Refusal :=
  .next (s.submit .setCamera tag body)

/-- RESET CAMERA (R112). -/
def execResetCamera (tag : Byte) (body : List Byte) (s : State) : Host.Outcome State Fault Refusal :=
  .next (s.submit .resetCamera tag body)

/-- READ CAMERAS (R113). -/
def execReadCameras (tag : Byte) (body : List Byte) (s : State) : Host.Outcome State Fault Refusal :=
  .next (s.submit .readCameras tag body)

/-- SET STROBE (R117). -/
def execSetStrobe (tag : Byte) (body : List Byte) (s : State) : Host.Outcome State Fault Refusal :=
  .next (s.submit .setStrobe tag body)

/-- SET INHIBIT (R124). -/
def execSetInhibit (tag : Byte) (body : List Byte) (s : State) : Host.Outcome State Fault Refusal :=
  .next (s.submit .setInhibit tag body)

/-- READ STROBES (R130). -/
def execReadStrobes (tag : Byte) (body : List Byte) (s : State) : Host.Outcome State Fault Refusal :=
  .next (s.submit .readStrobes tag body)

/-- LOAD PLAN (R80). -/
def execLoadPlan (tag : Byte) (body : List Byte) (s : State) : Host.Outcome State Fault Refusal :=
  .next (s.submit .loadPlan tag body)

/-- BIND PLAN (R83). -/
def execBindPlan (tag : Byte) (body : List Byte) (s : State) : Host.Outcome State Fault Refusal :=
  .next (s.submit .bindPlan tag body)

/-- READ PLAN (R84). -/
def execReadPlan (tag : Byte) (body : List Byte) (s : State) : Host.Outcome State Fault Refusal :=
  .next (s.submit .readPlan tag body)

/-- FETCH RECORD (R170). -/
def execFetchRecord (tag : Byte) (body : List Byte) (s : State) : Host.Outcome State Fault Refusal :=
  .next (s.submit .fetchRecord tag body)

/-- RELEASE RECORD (R171). -/
def execReleaseRecord (tag : Byte) (body : List Byte) (s : State) : Host.Outcome State Fault Refusal :=
  .next (s.submit .releaseRecord tag body)

/-- SET STORE (R172). -/
def execSetStore (tag : Byte) (body : List Byte) (s : State) : Host.Outcome State Fault Refusal :=
  .next (s.submit .setStore tag body)

/-- READ HEALTH (R143). -/
def execReadHealth (tag : Byte) (body : List Byte) (s : State) : Host.Outcome State Fault Refusal :=
  .next (s.submit .readHealth tag body)

/-- REJOIN SENSOR (R142). -/
def execRejoinSensor (tag : Byte) (body : List Byte) (s : State) : Host.Outcome State Fault Refusal :=
  .next (s.submit .rejoinSensor tag body)

/-- SET HEALTH (R140). -/
def execSetHealth (tag : Byte) (body : List Byte) (s : State) : Host.Outcome State Fault Refusal :=
  .next (s.submit .setHealth tag body)

/-- SET TIME (R155). -/
def execSetTime (tag : Byte) (body : List Byte) (s : State) : Host.Outcome State Fault Refusal :=
  .next (s.submit .setTime tag body)

/-- READ TIME (R156). -/
def execReadTime (tag : Byte) (body : List Byte) (s : State) : Host.Outcome State Fault Refusal :=
  .next (s.submit .readTime tag body)

/-- SET REFERENCE (R149). -/
def execSetReference (tag : Byte) (body : List Byte) (s : State) : Host.Outcome State Fault Refusal :=
  .next (s.submit .setReference tag body)

/-- REHEARSE (R160). -/
def execRehearse (tag : Byte) (body : List Byte) (s : State) : Host.Outcome State Fault Refusal :=
  .next (s.submit .rehearse tag body)

end Sys2Proof.Machine
end

