-- ==== Sys2Proof/Machine/Due.lean ====
section
/-! DEFINITION. The passing of time: which events of the part are due at the present instant, and the tick (R146). -/

namespace Sys2Proof.Machine

/-- An event with its condition: listed where the condition holds. -/
def whenDue (condition : Bool) (event : Instr) : List Instr := if condition then [event] else []

/-- A wheel pulse of the sensor is to be accepted now (R24, R163). -/
def Channel.pulseDue (c : Channel) (w : WheelSensor) (ticks : Nat) : Bool :=
  if c.mode = some .rehearsal then (c.duePulse w ticks).isSome else (c.acceptedStamp w ticks).isSome

/-- The events of a track's sensors that are due (R24, R57, R163). -/
def State.dueSensorEvents (s : State) (t : TrackId) : List Instr :=
  allSensors.flatMap (fun w => whenDue ((s.channel t).pulseDue w s.ticks) (.wheelPulseAccepted t w))
  ++ allDetectors.flatMap (fun d =>
      whenDue (s.detectorDue t d) (if ((s.channel t).detectors.get d).blocked then .blockedEnd t d else .blockedStart t d))
  ++ whenDue (s.edgeDue t).isSome (.rehearsalEdgeDelivery t)

/-- The timers of a track that have run out (R6, R14, R47), with the last step of a close (R15). -/
def State.dueTimers (s : State) (t : TrackId) : List Instr :=
  whenDue ((s.channel t).clearDue s.ticks || (s.channel t).closeOver) (.clearIntervalExpiry t)
  ++ whenDue ((s.channel t).dormantDue s.ticks) (.dormantDelayExpiry t)
  ++ whenDue (timerDue (s.channel t).staleTimer s.ticks) (.stalenessExpiry t)

/-- The events of a track's heads that are due (R54, R66, R91). -/
def State.dueHeadEvents (s : State) (t : TrackId) : List Instr :=
  (s.channel t).heads.flatMap fun h =>
    whenDue (h.crossingDue s.localTime) (.headCrosses t h.index)
    ++ whenDue (h.departureDue s.localTime) (.headDeparted t h.index)
    ++ whenDue (s.entryDue t h.index) (.timelineEntryExpiry t h.index)

/-- The events of a camera that are due (R105, R109, R110). -/
def State.dueCameraEvents (s : State) (i : Fin 8) : List Instr :=
  whenDue ((s.camera i).releaseDue s.ticks) (.triggerRelease i)
  ++ whenDue ((s.camera i).windowDue s.ticks) (.confirmationWindowExpiry i)
  ++ whenDue ((s.camera i).recoveryDue s.ticks) (.recoveryEnd i)
  ++ whenDue ((s.camera i).warmUpDue s.ticks) (.warmUpEnd i)

/-- The events of the strobe unit that are due (R121, R129). -/
def State.dueStrobeEvents (s : State) : List Instr :=
  allStrobes.flatMap (fun x => whenDue ((s.strobe x).pulseDue s.ticks) (.strobePulseEnd x))
  ++ whenDue s.chargeDue .chargeCompletion

/-- The events of the link unit and of the tracker that are due (R152, R176, R178, R180, R184). -/
def State.dueLinkEvents (s : State) : List Instr :=
  whenDue s.replyDue (if s.restarts then .restartTakesEffect else .replySent)
  ++ whenDue s.gapOver .frameGapTimeout
  ++ whenDue (s.attention.pulseDue s.ticks) .attnPulseEnd
  ++ whenDue s.windowDue .windowClose

/-- Every event that is due at the present instant. -/
def State.dueEvents (s : State) : List Instr :=
  allTracks.flatMap (fun t => s.dueSensorEvents t ++ s.dueTimers t ++ s.dueHeadEvents t)
  ++ allCameras.flatMap s.dueCameraEvents
  ++ s.dueStrobeEvents
  ++ s.dueLinkEvents

/-- ADJUSTED_TICK: the tick that would carry local time to a target of the correction list, taken once nothing is due at
the present instant (R153); at any other instant it is not this event (log entry 3). -/
def execAdjustedTick (s : State) : Host.Outcome State Fault Refusal :=
  .next (if s.nextCorrection.isSome && s.dueEvents.isEmpty then s.advance else s)

end Sys2Proof.Machine
end

