-- ==== Sys2Proof/Machine/Dispatch.lean ====
section
/-! DEFINITION. What each command does: one arm per constructor, each one call of that command's meaning. -/

namespace Sys2Proof.Machine

def exec (i : Instr) (s : State) : Host.Outcome State Fault Refusal :=
  match i with
  | .identify tag body => Sys2Proof.Machine.execIdentify tag body s
  | .restart tag body => Sys2Proof.Machine.execRestart tag body s
  | .restartTakesEffect => Sys2Proof.Machine.execRestartTakesEffect s
  | .readEvents tag body => Sys2Proof.Machine.execReadEvents tag body s
  | .setAttention tag body => Sys2Proof.Machine.execSetAttention tag body s
  | .setTrackGeometry tag body => Sys2Proof.Machine.execSetTrackGeometry tag body s
  | .setTrackTiming tag body => Sys2Proof.Machine.execSetTrackTiming tag body s
  | .setTrackMode tag body => Sys2Proof.Machine.execSetTrackMode tag body s
  | .readTrack tag body => Sys2Proof.Machine.execReadTrack tag body s
  | .setSpeedFilter tag body => Sys2Proof.Machine.execSetSpeedFilter tag body s
  | .setHeadLimits tag body => Sys2Proof.Machine.execSetHeadLimits tag body s
  | .setCamera tag body => Sys2Proof.Machine.execSetCamera tag body s
  | .resetCamera tag body => Sys2Proof.Machine.execResetCamera tag body s
  | .readCameras tag body => Sys2Proof.Machine.execReadCameras tag body s
  | .setStrobe tag body => Sys2Proof.Machine.execSetStrobe tag body s
  | .setInhibit tag body => Sys2Proof.Machine.execSetInhibit tag body s
  | .readStrobes tag body => Sys2Proof.Machine.execReadStrobes tag body s
  | .loadPlan tag body => Sys2Proof.Machine.execLoadPlan tag body s
  | .bindPlan tag body => Sys2Proof.Machine.execBindPlan tag body s
  | .readPlan tag body => Sys2Proof.Machine.execReadPlan tag body s
  | .fetchRecord tag body => Sys2Proof.Machine.execFetchRecord tag body s
  | .releaseRecord tag body => Sys2Proof.Machine.execReleaseRecord tag body s
  | .setStore tag body => Sys2Proof.Machine.execSetStore tag body s
  | .readHealth tag body => Sys2Proof.Machine.execReadHealth tag body s
  | .rejoinSensor tag body => Sys2Proof.Machine.execRejoinSensor tag body s
  | .setHealth tag body => Sys2Proof.Machine.execSetHealth tag body s
  | .setTime tag body => Sys2Proof.Machine.execSetTime tag body s
  | .readTime tag body => Sys2Proof.Machine.execReadTime tag body s
  | .setReference tag body => Sys2Proof.Machine.execSetReference tag body s
  | .rehearse tag body => Sys2Proof.Machine.execRehearse tag body s
  | .pinReset straps => Sys2Proof.Machine.execPinReset straps s
  | .rxByte value stopHigh => Sys2Proof.Machine.execRxByte value stopHigh s
  | .frameGapTimeout => Sys2Proof.Machine.execFrameGapTimeout s
  | .replySent => Sys2Proof.Machine.execReplySent s
  | .attnPulseEnd => Sys2Proof.Machine.execAttnPulseEnd s
  | .wheelLeadingEdge track sensor => Sys2Proof.Machine.execWheelLeadingEdge track sensor s
  | .wheelTrailingEdge track sensor => Sys2Proof.Machine.execWheelTrailingEdge track sensor s
  | .wheelPulseAccepted track sensor => Sys2Proof.Machine.execWheelPulseAccepted track sensor s
  | .headDetectorEdge track detector high => Sys2Proof.Machine.execHeadDetectorEdge track detector high s
  | .blockedStart track detector => Sys2Proof.Machine.execBlockedStart track detector s
  | .blockedEnd track detector => Sys2Proof.Machine.execBlockedEnd track detector s
  | .headCrosses track index => Sys2Proof.Machine.execHeadCrosses track index s
  | .headDeparted track index => Sys2Proof.Machine.execHeadDeparted track index s
  | .timelineEntryExpiry track index => Sys2Proof.Machine.execTimelineEntryExpiry track index s
  | .triggerRelease camera => Sys2Proof.Machine.execTriggerRelease camera s
  | .cdoneEdge camera => Sys2Proof.Machine.execCdoneEdge camera s
  | .confirmationWindowExpiry camera => Sys2Proof.Machine.execConfirmationWindowExpiry camera s
  | .recoveryEnd camera => Sys2Proof.Machine.execRecoveryEnd camera s
  | .warmUpEnd camera => Sys2Proof.Machine.execWarmUpEnd camera s
  | .strobePulseEnd strobe => Sys2Proof.Machine.execStrobePulseEnd strobe s
  | .inhibitInputEdge input high => Sys2Proof.Machine.execInhibitInputEdge input high s
  | .chargeCompletion => Sys2Proof.Machine.execChargeCompletion s
  | .clearIntervalExpiry track => Sys2Proof.Machine.execClearIntervalExpiry track s
  | .dormantDelayExpiry track => Sys2Proof.Machine.execDormantDelayExpiry track s
  | .stalenessExpiry track => Sys2Proof.Machine.execStalenessExpiry track s
  | .refEdge rising => Sys2Proof.Machine.execRefEdge rising s
  | .windowClose => Sys2Proof.Machine.execWindowClose s
  | .adjustedTick => Sys2Proof.Machine.execAdjustedTick s
  | .rehearsalEdgeDelivery track => Sys2Proof.Machine.execRehearsalEdgeDelivery track s

end Sys2Proof.Machine
end

