-- ==== Sys2Proof/Machine/Idle.lean ====
section
/-! DEFINITION. What the part does when no command waits: which event of those that are due is taken, and the next tick
where none is (R16, R17, R72, R146, log entries 1, 2 and 37). -/

namespace Sys2Proof.Machine

/-- The state after an event that is taken now. -/
def State.afterEvent (s : State) (event : Instr) : State :=
  match exec event s with
  | .next u => u
  | .fault _ => s
  | .refused _ => s

/-- The last step of a close waits for the due events that R16 and R17 have meet the closing phase: a wheel pulse of the
track, and an event that takes the track OFFLINE (log entry 37). -/
def State.closeWaits (s : State) (t : TrackId) : Bool :=
  s.dueEvents.any fun other =>
    (allSensors.any fun w => other == .wheelPulseAccepted t w)
    || ((s.afterEvent other).channel t).state = .offline

/-- The event is the last step of the close of a track, and is to wait. -/
def State.lastStepWaits (s : State) (t : TrackId) (event : Instr) : Bool :=
  event == .clearIntervalExpiry t && (s.channel t).closeOver && s.closeWaits t

/-- The due events that may be taken next: all but a last step that is to wait, or all where that leaves none. -/
def State.choicesNow (s : State) : List Instr :=
  match s.dueEvents.filter fun event => !allTracks.any fun t => s.lastStepWaits t event with
  | [] => s.dueEvents
  | free => free

/-- The part with no command waiting (log entry 2): an event that is due joins the queue, one of several by a free choice
(log entry 1); with nothing due the instant is over and the next tick comes (R72, R146). -/
def State.idle (s : State) : State :=
  match s.choicesNow with
  | [] => s.advance
  | [event] => { s with pending := [event] }
  | first :: rest =>
    { s with
      pending := [(first :: rest).getD (Config.freeChoice s.choices % (rest.length + 1)) first]
      choices := s.choices + 1 }

end Sys2Proof.Machine
end

