-- ==== Sys2Proof/Safety.lean ====
section
/-! DEFINITION. What counts as a good state: the properties that the spec gives every state of the part, block by block, in
the terms that the claims use. Each names the rule it comes from. -/

namespace Sys2Proof.Machine

/-- A command completes: `exec` answers a next state, and this is it. -/
def Completes (c : Instr) (s t : State) : Prop := exec c s = .next t

/-! ## Tracks -/

/-- A pair and its queue (R28, R33): at most 32 entries, none outside PASSAGE and none in an OUT pair. -/
def AxlePair.Good (p : AxlePair) (inPassage : Prop) : Prop :=
  p.queue.length ≤ Config.axleQueueMax ∧ (¬inPassage → p.queue = []) ∧ (p.state = .out → p.queue = [])

/-- Both pairs of a track are good (R28). -/
def Channel.QueuesGood (c : Channel) : Prop :=
  c.approach.Good (c.state = .passage) ∧ c.departure.Good (c.state = .passage)

/-- The head list of a track (R60, R62, R65): at most 8 heads in detection order, with rising head indices that the passage
has issued, none outside PASSAGE; a head is UNTIMED exactly while it has no anchor. -/
def Channel.HeadsGood (c : Channel) : Prop :=
  c.heads.length ≤ Config.headListMax ∧ (c.heads.map fun h => h.index).Pairwise (· < ·)
  ∧ (∀ h ∈ c.heads, 1 ≤ h.index ∧ h.index ≤ c.passage.lastIndex) ∧ c.passage.lastIndex ≤ 255
  ∧ (∀ h ∈ c.heads, h.status = .untimed ↔ h.anchor = none)
  ∧ (c.state ≠ .passage → c.heads = [])

/-- Mode and timers of a track (R1, R6, R11, R14, R46): a mode exactly in service, the clear-interval timer exactly while
a passage is open and not closing, the dormant-delay timer only in IDLE, the staleness timer only in FRESH in a NORMAL
passage that is not closing; the tick of the clear-timer expiry exactly while the passage closes (log entry 37). -/
def Channel.TimersGood (c : Channel) : Prop :=
  (c.mode = none ↔ c.state = .offline)
  ∧ (c.clearTimer.isSome ↔ c.state = .passage ∧ c.passage.closed = none)
  ∧ (c.closingSince.isSome ↔ c.state = .passage ∧ c.passage.closed ≠ none)
  ∧ (c.dormantTimer.isSome → c.state = .idle)
  ∧ (c.staleTimer.isSome →
      c.state = .passage ∧ c.passage.closed = none ∧ c.passage.outcome = .normal ∧ c.speed.code = 1)
  ∧ (c.state ≠ .passage → c.speed = .absent)

/-- A speed in mm/s lies in the range of R39. -/
def SpeedInRange (v : Nat) : Prop := Config.crawlSpeed ≤ v ∧ v ≤ Config.topSpeed

/-- Speeds of a track (R43): at most four in the window, every one and every estimate from 300 to 110,000 mm/s. -/
def Channel.SpeedsGood (c : Channel) : Prop :=
  c.window.length ≤ 4 ∧ (∀ v ∈ c.window, SpeedInRange v)
  ∧ (∀ v ∈ c.speed.estimate, SpeedInRange v)
  ∧ (∀ e ∈ c.passage.estimates, SpeedInRange e.1 ∧ SpeedInRange e.2 ∧ e.1 ≤ e.2)

/-- A debounce count of a real wheel input runs only in LIVE mode (R1, R24, R38). -/
def Channel.InputsGood (c : Channel) : Prop :=
  (∀ w ∈ allSensors, (c.wheels.get w).count.isSome → c.mode = some .live)
  ∧ ((c.synthetic ≠ [] ∨ c.generator.schedule ≠ [] ∨ c.generator.liveStrobe = true) → c.mode = some .rehearsal)
  ∧ (c.mode = none → ∀ d ∈ allDetectors, (c.detectors.get d).blocked = false ∧ (c.detectors.get d).count = none)

/-- A property holds of both tracks. -/
def State.BothTracks (s : State) (good : Channel → Prop) : Prop := good s.channels.t1 ∧ good s.channels.t2

/-! ## Records offered at one instant -/

/-- The HEAD records of a track that have been offered at this instant, in the order of their places. -/
def State.offeredOf (s : State) (t : TrackId) : List HeadRecord :=
  (s.store.offered.filter fun w => w.track = t).map fun w => w.record

/-- The heads of a track and the records offered at this instant stand in detection order, and no open head has been offered
(R60, R72), as every run keeps it (`Channel.HeadsGood`, `State.OfferedGood`). -/
def State.InOrder (s : State) (t : TrackId) : Prop :=
  ((s.channel t).heads.map fun h => h.index).Pairwise (· < ·) ∧ ((s.offeredOf t).map fun x => x.index).Pairwise (· < ·)
  ∧ ∀ x ∈ s.offeredOf t, ∀ h ∈ (s.channel t).heads, h.index ≠ x.index

/-- The records of a track that have been offered at this instant (R72, log entry 35): in detection order, each of a head of
this passage that is closed, and none outside PASSAGE. -/
def State.OfferedGood (s : State) (t : TrackId) : Prop :=
  ((s.offeredOf t).map fun x => x.index).Pairwise (· < ·)
  ∧ (∀ x ∈ s.offeredOf t, x.passage = (s.channel t).passage.number ∧ x.index ≤ (s.channel t).passage.lastIndex
    ∧ ∀ h ∈ (s.channel t).heads, h.index ≠ x.index)
  ∧ ((s.channel t).state ≠ .passage → s.offeredOf t = [])

/-! ## The action timeline -/

/-- The entry belongs to an open, SCHEDULED head of its track's passage (R90). -/
def State.EntryOwned (s : State) (e : TimelineEntry) : Prop :=
  ∃ h ∈ (s.channel e.track).heads,
    h.index = e.index ∧ h.status = .scheduled ∧ (s.channel e.track).passage.number = e.passage

/-- A SCHEDULED head of a track has an entry (R86, R90). -/
def State.HeadsEntered (s : State) (t : TrackId) : Prop :=
  ∀ h ∈ (s.channel t).heads, h.status = .scheduled → ∃ e ∈ s.timeline, e.track = t ∧ e.index = h.index

/-- The action timeline (R90): its entries are those of the SCHEDULED heads, at most one for each. -/
def State.TimelineGood (s : State) : Prop :=
  (s.timeline.map fun e => (e.track, e.index)).Nodup ∧ (∀ e ∈ s.timeline, s.EntryOwned e)
  ∧ s.HeadsEntered .t1 ∧ s.HeadsEntered .t2

/-! ## Cameras -/

/-- The settings of a camera lie in the ranges of R102. -/
def Camera.SettingsGood (c : Camera) : Prop :=
  100 ≤ c.blur ∧ c.blur ≤ 20000 ∧ 2 ≤ c.exposureMin ∧ c.exposureMin ≤ c.exposureMax ∧ c.exposureMax ≤ 5000
  ∧ 1000 ≤ c.recovery ∧ c.recovery ≤ 1000000 ∧ c.warmUp ≤ 10000 ∧ c.windowLength + c.exposureMax ≤ c.recovery

/-- The pins, the exposure and the failure run of a camera follow its state (section 6.2, R108, R110): CPWR high exactly in
the powered states, CTRG high exactly in EXPOSING, exposures within the limits, FAILED exactly at a run of 3. -/
def Camera.Good (c : Camera) : Prop :=
  c.SettingsGood ∧ (c.cpwr = c.powered) ∧ (c.ctrg = (c.state.code == 3)) ∧ c.noReturnRun ≤ 3
  ∧ (c.noReturnRun = 3 ↔ c.state = .failed) ∧ (c.powered = false → c.confirm = none)
  ∧ (∀ shot e, c.state = .exposing shot e → c.exposureMin ≤ e ∧ e ≤ c.exposureMax ∧ c.lastExposure.isSome)

/-- A camera that has not failed is powered exactly while its assigned track is IDLE or PASSAGE (R7, R103). -/
def State.CameraFollowsTrack (s : State) (c : Camera) : Prop :=
  c.state ≠ .failed → c.powered = s.trackAwake c.track

/-- Every camera is good (chapter 6). -/
def State.CamerasGood (s : State) : Prop :=
  ∀ i : Fin 8, (s.camera i).Good ∧ s.CameraFollowsTrack (s.camera i)

/-! ## Strobes, charger and inhibit -/

/-- A strobe follows the charge queue and the charger (R126, R128): in the queue exactly while EMPTY, on the charger
exactly while CHARGING; SFIRE high exactly while FIRING. -/
def State.StrobeGood (s : State) (x : Fin 6) : Prop :=
  ((s.strobe x).state = .empty ↔ x ∈ s.chargeQueue.map fun m => m.strobe)
  ∧ ((s.strobe x).state = .charging ↔ s.charger.map (fun c => c.strobe) = some x)
  ∧ ((s.strobe x).sfire = ((s.strobe x).state.code == 4))

/-- The charger's pins (R128, R129): CHG_EN high exactly while a charge runs, CHG_SEL its strobe's number or 0. -/
def State.ChargerPinsGood (s : State) : Prop :=
  s.chgEn = s.charger.isSome ∧ s.chgSel = BitVec.ofNat 3 ((s.charger.map fun c => c.strobe.val).getD 0)

/-- The strobe unit is good (chapter 7): the queue holds each strobe at most once, the pool is OFF exactly while no track
is awake (R7, R119, R120), the inhibit is formed from the inputs (R123), and while it is active no strobe fires (R122). -/
def State.StrobesGood (s : State) : Prop :=
  (s.chargeQueue.map fun m => m.strobe).Nodup ∧ (∀ x : Fin 6, s.StrobeGood x) ∧ s.ChargerPinsGood
  ∧ (∀ x : Fin 6, (s.strobe x).state = .off ↔ s.anyAwake = false)
  ∧ s.inhibit = formInhibit s.inhibits ∧ (s.inhibit = true → ∀ x : Fin 6, (s.strobe x).sfire = false)

/-! ## Health, tracker, store, link, attention -/

/-- A health entry (R133 to R138): score to 255 with the state of its range, progress to 3, totals of 32 bits. -/
def Health.Good (h : Health) : Prop :=
  h.score ≤ 255 ∧ h.state = healthOfScore h.score ∧ h.progress ≤ 3 ∧ h.faults ≤ top32 ∧ h.goods ≤ top32

/-- Every health entry is good (chapter 8). -/
def State.HealthGood (s : State) : Prop := ∀ i : Fin 12, s.health[i].Good

/-- The tracker (section 9.2): FREE exactly while disabled, a miss count of at most 1 that is 0 outside LOCKED, no
corrections in FREE or SEARCH. -/
def Tracker.Good (k : Tracker) : Prop :=
  (k.enabled = false ↔ k.state = .free) ∧ k.misses ≤ 1 ∧ (k.state ≠ .locked → k.misses = 0)
  ∧ (k.state = .free ∨ k.state = .search → k.corrections = [])

/-- A record number (R167). -/
def RecordNumber (n : Nat) : Prop := 1 ≤ n ∧ n ≤ 65535

/-- The record store (R166, R167): at most 32 records with different numbers from 1 to 65,535. -/
def Store.Good (st : Store) : Prop :=
  st.records.length ≤ Config.storeSlots ∧ (st.records.map fun r => r.number).Nodup
  ∧ (∀ r ∈ st.records, RecordNumber r.number) ∧ RecordNumber st.nextNumber ∧ 1 ≤ st.threshold ∧ st.threshold ≤ 32

/-- The link unit (R177, R178): at most 4 requests wait, and none while the transmitter is idle. -/
def Link.Good (l : Link) : Prop := l.queue.length ≤ Config.rxQueueMax ∧ (l.transmission = none → l.queue = [])

/-- The ATTN pin follows the latched set, the mask and the mode (R184). -/
def Attention.Good (a : Attention) : Prop :=
  (a.mode = .level → a.attn = (a.unmasked != 0#12) ∧ a.pulseEnds = none) ∧ (a.mode = .edge → a.attn = a.pulseEnds.isSome)

/-! ## Invariants of steps -/

/-- Every step from a state with the property that answers a next state answers one with the property. -/
def Kept (good : State → Prop) : Prop := ∀ s t : State, good s → step s = .next t → good t

/-! ## Requests, as the statements speak of them (R178) -/

/-- The command that carries a request of a kind. -/
def RequestKind.command (kind : RequestKind) (tag : Byte) (body : List Byte) : Instr :=
  match kind with
  | .identify => .identify tag body
  | .restart => .restart tag body
  | .readEvents => .readEvents tag body
  | .setAttention => .setAttention tag body
  | .setTrackGeometry => .setTrackGeometry tag body
  | .setTrackTiming => .setTrackTiming tag body
  | .setTrackMode => .setTrackMode tag body
  | .readTrack => .readTrack tag body
  | .setSpeedFilter => .setSpeedFilter tag body
  | .setHeadLimits => .setHeadLimits tag body
  | .setCamera => .setCamera tag body
  | .resetCamera => .resetCamera tag body
  | .readCameras => .readCameras tag body
  | .setStrobe => .setStrobe tag body
  | .setInhibit => .setInhibit tag body
  | .readStrobes => .readStrobes tag body
  | .loadPlan => .loadPlan tag body
  | .bindPlan => .bindPlan tag body
  | .readPlan => .readPlan tag body
  | .fetchRecord => .fetchRecord tag body
  | .releaseRecord => .releaseRecord tag body
  | .setStore => .setStore tag body
  | .readHealth => .readHealth tag body
  | .rejoinSensor => .rejoinSensor tag body
  | .setHealth => .setHealth tag body
  | .setTime => .setTime tag body
  | .readTime => .readTime tag body
  | .setReference => .setReference tag body
  | .rehearse => .rehearse tag body

/-- The length that a body of a kind must have; LOAD PLAN and REHEARSE carry counts of what follows (R80, R160). -/
def RequestKind.requiredLength (kind : RequestKind) (body : List Byte) : Nat :=
  match kind with
  | .identify | .restart | .readEvents | .readCameras | .readStrobes | .fetchRecord | .readHealth | .readTime => 0
  | .readTrack | .resetCamera | .readPlan | .rejoinSensor | .setHealth => 1
  | .setTrackMode | .releaseRecord | .setStore | .setReference => 2
  | .setAttention => 3
  | .setSpeedFilter | .setTime => 4
  | .bindPlan => 6
  | .setTrackTiming | .setHeadLimits => 7
  | .setInhibit => 8
  | .setStrobe => 9
  | .setCamera => 18
  | .setTrackGeometry => 27
  | .loadPlan => 2 + 6 * field body 1 1
  | .rehearse => 11 + 3 * field body 9 1 + 5 * field body 10 1

/-- No reply is in transmission and no request waits: a request that completes now is taken now (R178). -/
def State.LinkIdle (s : State) : Prop := s.link.transmission = none ∧ s.link.queue = []

/-- The state with the reply to a request in transmission since this instant (R178); with that of an accepted FETCH RECORD
goes a note of the oldest record, which it reports (R170, log entry 35). -/
def State.replying (s : State) (q : Request) (status : Status) (fields : List Byte) : State :=
  { s with
    link := { s.link with
      transmission := some
        { request := q, bytes := replyFrame q status fields, started := s.ticks, restarts := false
          reported := if q.kind = 0x40#8 ∧ status = .ok then s.store.records.head? else none } } }

/-- The request, taken in `s`, is answered with a status and reply fields, and leaves the part as `u`, but for the reply
in transmission. -/
def Answers (kind : RequestKind) (body : List Byte) (s u : State) (status : Status) (fields : List Byte) : Prop :=
  ∀ tag : Byte, Completes (kind.command tag body) s
    (u.replying { kind := kind.code, tag := tag, body := body } status fields)

/-- A request is judged by its values, then by the state, and accepted where both allow it (R178). -/
def Judged (kind : RequestKind) (body : List Byte) (s : State) (values state : Prop) (u : State) (fields : List Byte) :
    Prop :=
  (¬values → Answers kind body s s .badValue [])
  ∧ (values → ¬state → Answers kind body s s .wrongState [])
  ∧ (values → state → Answers kind body s u .ok fields)

/-- Run commands one after another at one instant. -/
def runAll : List Instr → State → Host.Outcome State Fault Refusal
  | [], s => .next s
  | c :: rest, s =>
    match exec c s with
    | .next t => runAll rest t
    | .fault f => .fault f
    | .refused r => .refused r

/-! ## Pulses and intervals, as the statements speak of them -/

/-- A wheel pulse of a sensor with a timestamp is to be accepted in `s`, and `p` is `s` with the pulse taken out of its
debounce count: a real pulse in LIVE mode, a synthetic one in REHEARSAL mode (R24, R163). -/
def State.Accepts (s : State) (t : TrackId) (w : WheelSensor) (stamp : LocalTime) (p : State) : Prop :=
  ((s.channel t).mode = some .live
    ∧ (∃ d, ((s.channel t).wheels.get w).count = some (stamp, d) ∧ d ≤ s.ticks)
    ∧ p = s.updChannel t fun c => { c with wheels := c.wheels.set w { c.wheels.get w with count := none } })
  ∨ ((s.channel t).mode = some .rehearsal
    ∧ ∃ x ahead behind, (s.channel t).synthetic = ahead ++ x :: behind
      ∧ x.sensor = w ∧ x.timestamp = stamp ∧ x.accepts ≤ s.ticks
      ∧ (∀ y ∈ ahead, ¬(y.sensor = w ∧ y.accepts ≤ s.ticks))
      ∧ p = s.updChannel t fun c => { c with synthetic := ahead ++ behind })

/-- A detector's debounce count runs out in `s` at a debounce state, and no scheduled edge of the detector comes first
(R57, R162). -/
def State.DetectorRunsOut (s : State) (t : TrackId) (d : Detector) (blocked : Bool) : Prop :=
  ((s.channel t).detectors.get d).blocked = blocked
  ∧ (∃ n, ((s.channel t).detectors.get d).count = some n ∧ n ≤ s.ticks)
  ∧ ∀ e ∈ (s.channel t).generator.schedule,
      e.input = .head d → s.ticks < (s.channel t).generator.acceptedAt + e.offset

/-- The final status of a head that closes by R70 (R71, rows 4 to 6). -/
def Head.ordinaryStatus (h : Head) : FinalStatus :=
  if h.cursor = none then .unbound
  else if ∃ x ∈ h.shots, x.outcome = .takenLit ∨ x.outcome = .takenUnlit then .captured
  else .noShot

/-- The final status of a head that a passage close closes (R71, rows 3 to 6). -/
def Head.passageCloseStatus (h : Head) : FinalStatus :=
  if h.status = .untimed ∨ h.crossed = false then .missed else h.ordinaryStatus

/-- A HEAD record is that of a head of a passage with a status: every field holds the value at the close (R74). -/
def HeadRecord.IsOf (x : HeadRecord) (p : Passage) (h : Head) (status : FinalStatus) : Prop :=
  x = { passage := p.number, index := h.index, direction := p.direction, status := status, detected := h.blockedStart,
        duration := min 4294967295 h.duration, length := h.length, firstSpeed := h.firstSpeed, predicted := h.predicted,
        observed := h.observed, error := x.error, confirmed := h.confirmed, speedHeld := h.speedHeld,
        rehearsal := p.rehearsal, overspeed := p.overspeed, shots := h.shots, marks := h.marks }
  ∧ (∀ a b, h.predicted = some a → h.observed = some b → x.error = some (max (-1000000) (min 1000000 (timeDiff a b))))
  ∧ (h.predicted = none ∨ h.observed = none → x.error = none)

/-- Records of the store are HEAD records of a track, stored now and after no displaced one (R167, R168). -/
def StoredHeads (new : List Record) (t : TrackId) (now : LocalTime) (records : List HeadRecord) : Prop :=
  new.map (fun r => (r.track, r.stored, r.displaced, r.body))
    = records.map fun x => (t, now, false, RecordBody.head x)

/-- Stored records after the HEAD records of a track took each other's places: where one of `places` stood, that of `all`
with the same position stands; headers and all other records stay (R72, log entry 35). -/
def DealtTo (before now : List Record) (t : TrackId) (places all : List HeadRecord) : Prop :=
  (now.map fun r => (r.number, r.track, r.stored, r.displaced))
    = before.map (fun r => (r.number, r.track, r.stored, r.displaced))
  ∧ ∀ (i : Nat) (r y : Record), before[i]? = some r → now[i]? = some y →
    (∀ (j : Nat) (x z : HeadRecord), r.track = t → r.body = .head x → places[j]? = some x → all[j]? = some z → y.body = .head z)
    ∧ ((r.track = t → ∀ x ∈ places, r.body ≠ .head x) → y = r)

/-- The store holds, or the reply in transmission reports, the record of a head of a track already. -/
def State.Holds (s : State) (t : TrackId) (p : Passage) (h : Head) (status : FinalStatus) : Prop :=
  ∃ r, (r ∈ s.store.records ∨ ∃ x, s.link.transmission = some x ∧ x.reported = some r)
    ∧ ∃ x, r.track = t ∧ r.body = .head x ∧ x.IsOf p h status

/-- The reply in transmission, reporting a record instead of the one that it reported (R170, R175): the status and the number
of records held stay. -/
def Transmission.Reporting (x y : Transmission) (r : Record) : Prop :=
  y = { x with bytes := replyFrame x.request .ok (x.bytes.getD 5 0#8 :: r.bytes), reported := some r }

/-- The link is as it was, but that a FETCH RECORD reply of this instant can report another HEAD record under the same
header (log entry 35). -/
def State.LinkFollows (s u : State) : Prop :=
  u.link = s.link
  ∨ ∃ x y r z, s.link.transmission = some x ∧ x.started = s.ticks ∧ x.reported = some r
    ∧ x.Reporting y { r with body := .head z } ∧ u.link = { s.link with transmission := some y }

/-- The records that heads of a track give as they close in `s` are offered in detection order (R72). Together with the
records of the track that were offered at this instant they are `all`, in detection order: those at the front have the
places of the earlier offers (log entry 35), the others are stored now, behind the records held and ahead of `rest`. A FETCH
RECORD reply of this instant reports what stands in the place of its record; any other is left alone. -/
def State.InTurn (s u : State) (t : TrackId) (given all : List HeadRecord) (rest : List Record) : Prop :=
  all.Perm (s.offeredOf t ++ given) ∧ (all.map fun x => x.index).Pairwise (· ≤ ·)
  ∧ u.offeredOf (otherTrack t) = s.offeredOf (otherTrack t)
  ∧ ∃ held new, u.store.records = held ++ new ++ rest ∧ DealtTo s.store.records held t (s.offeredOf t) all
    ∧ StoredHeads new t s.localTime (all.drop (s.offeredOf t).length)
    ∧ ((∀ x, s.link.transmission = some x → x.started ≠ s.ticks ∨ x.reported = none) → u.link = s.link)
    ∧ ∀ x r, s.link.transmission = some x → x.started = s.ticks → x.reported = some r →
      ∃ y z, DealtTo [r] [z] t (s.offeredOf t) all ∧ u.link = { s.link with transmission := some y }
        ∧ (z = r → y = x) ∧ (z ≠ r → x.Reporting y z)

/-! ## Runs of a plan, as the statements speak of them (R88, R89, R107, R108, R121) -/

/-- The shot entry of an exposure request that is not taken (R88, R114). -/
def untaken (step : Nat) (camera : Fin 8) (strobe : Option (Fin 6)) (due : LocalTime) (outcome : ShotOutcome) : Shot :=
  { step := step, camera := camera, strobe := strobe, due := due, start := none, exposure := none, outcome := outcome,
    unlit := none, confirmation := .unsettled, clamped := false, flashCut := false }

/-- Why a shot of a track that names a strobe, or none, stays dark (R88, R121). -/
def State.darkness (s : State) (t : TrackId) : Option (Fin 6) → Option UnlitReason
  | none => some .noStrobe
  | some x =>
    if s.inhibit then some .inhibited
    else if (s.channel t).mode = some .rehearsal ∧ (s.channel t).generator.liveStrobe = false then some .rehearsalDark
    else if (s.strobe x).state = .ready then none else some .strobeNotReady

/-- An EXPOSE step acts for a head at an anchor speed: the camera answers by its state; a READY one exposes for blur ×
1,000 / speed within its limits, the longest at speed 0, and the strobe fires for the exposure or its maximum pulse
unless there is a reason for the dark; the shot entry says what happened (R88, R107, R108, R114, R121). -/
def State.exposes (s : State) (t : TrackId) (index speed step : Nat) (camera : Fin 8) (strobe : Option (Fin 6))
    (due : LocalTime) : State :=
  let c := s.camera camera
  let shot : ShotRef := { track := t, passage := (s.channel t).passage.number, index := index, step := step }
  let wanted := c.blur * 1000 / speed
  let exposure := if speed = 0 then c.exposureMax else max c.exposureMin (min c.exposureMax wanted)
  let unlit := s.darkness t strobe
  let noted := fun (u : State) (x : Shot) => u.updHead t index fun h => { h with shots := h.shots ++ [x] }
  match c.state with
  | .ready =>
    let shooting := s.updCamera camera fun c =>
      { c with state := .exposing shot exposure, ctrg := true, lastExposure := some s.ticks,
               takenTotal := satSucc 4294967295 c.takenTotal }
    let lit := match unlit, strobe with
      | none, some x => shooting.updStrobe x fun y =>
          { y with state := .firing shot (min exposure y.maxPulse) s.ticks, sfire := true }
      | _, _ => shooting
    noted lit
      { untaken step camera strobe due (if unlit = none then .takenLit else .takenUnlit) with
        start := some s.localTime, exposure := some exposure, unlit := unlit
        clamped := decide (speed = 0 ∨ wanted < c.exposureMin ∨ c.exposureMax < wanted) }
  | .off | .warming _ => noted s (untaken step camera strobe due .notReady)
  | .exposing _ _ | .recovering => noted s (untaken step camera strobe due .cameraBusy)
  | .failed => noted s (untaken step camera strobe due .cameraFailed)

/-- The acting steps of a run act one after another, from step `step` on (R87, R88, R89). -/
def State.acts (s : State) (t : TrackId) (index speed : Nat) (due : LocalTime) : List Step → Nat → State
  | [], _ => s
  | .expose camera strobe :: rest, step =>
    (s.exposes t index speed step camera strobe due).acts t index speed due rest (step + 1)
  | .mark :: rest, step =>
    (s.updHead t index fun h => { h with marks := h.marks ++ [{ step := step, instant := s.localTime }] }).acts t index speed
      due rest (step + 1)
  | .after _ :: _, _ => s
  | .atPos _ :: _, _ => s

/-- A step is a wait (R79). -/
def Step.IsWait (x : Step) : Prop := (∃ p, x = .atPos p) ∨ ∃ d, x = .after d

/-- An entry has been placed on a timeline in order of due time, after the entries with an equal one (R90, log entry 29). -/
def Placed (e : TimelineEntry) (old new : List TimelineEntry) : Prop :=
  ∃ ahead behind, old = ahead ++ behind ∧ new = ahead ++ e :: behind
    ∧ (∀ x ∈ ahead, after x.due e.due = false) ∧ ∀ x ∈ behind.head?, after x.due e.due = true

/-- `s` with a detector at a debounce state and no count running. -/
def State.settled (s : State) (t : TrackId) (d : Detector) (blocked : Bool) : State :=
  s.updChannel t fun c =>
    { c with detectors := c.detectors.set d { c.detectors.get d with blocked := blocked, count := none } }

/-- A track in PASSAGE, not closing (R11). -/
def Channel.Counting (c : Channel) : Prop := c.state = .passage ∧ c.passage.closed = none

/-- A track in PASSAGE with outcome NORMAL, not closing (R26, R58). -/
def Channel.Tracking (c : Channel) : Prop := c.Counting ∧ c.passage.outcome = .normal

/-- A pulse is counted: its sensor's count rises to at most 65,535 and the clear-interval timer restarts (R11). -/
def State.counted (s : State) (t : TrackId) (w : WheelSensor) : State :=
  s.updChannel t fun c =>
    { c with
      clearTimer := some (s.ticks + c.clearInterval * 1000)
      passage := { c.passage with counts := c.passage.counts.set w (min 65535 (c.passage.counts.get w + 1)) } }

/-- A fault event for a sensor, unless the passage of the track is a rehearsal (R36, R75). -/
def State.reports (s : State) (t : TrackId) (i : Fin 12) : State :=
  if (s.channel t).passage.rehearsal then s else s.fault i

/-- A good event for a sensor, unless the passage of the track is a rehearsal (R36, R75). -/
def State.praises (s : State) (t : TrackId) (i : Fin 12) : State :=
  if (s.channel t).passage.rehearsal then s else s.good i

/-! ## Resets, as the statements speak of them -/

/-- What a pin reset and a RESTART leave alike (R20, R22, R55, R77, R98, R118, R125, R132, R144, R159, R173, R185): every
track OFFLINE at its defaults, no plan, no binding, an empty timeline, strobes OFF with the charger free, inhibit inputs at
their defaults and the inhibit formed from them, health, store and attention at their defaults, the link idle with TXD high.
The levels at the pins are the world's and stay, and so do the commands that wait (log entry 26). -/
def AfterReset (s t : State) : Prop :=
  (∀ k, t.channel k =
    { Channel.reset with
      wheels :=
        { wao := { level := (s.channel k).wheels.wao.level, count := none }
          wai := { level := (s.channel k).wheels.wai.level, count := none }
          wbi := { level := (s.channel k).wheels.wbi.level, count := none }
          wbo := { level := (s.channel k).wheels.wbo.level, count := none } }
      detectors :=
        { hda := { pin := (s.channel k).detectors.hda.pin, synthetic := false, blocked := false, count := none }
          hdb := { pin := (s.channel k).detectors.hdb.pin, synthetic := false, blocked := false, count := none } } })
  ∧ t.plans = Vector.replicate 4 [] ∧ (∀ k d, (t.bindings.get k).get d = { plan := none, tolerance := 100 })
  ∧ t.timeline = [] ∧ t.strobes = Vector.replicate 6 Strobe.reset ∧ t.chargeQueue = [] ∧ t.charger = none
  ∧ t.chgEn = false ∧ t.chgSel = 0#3
  ∧ (∀ i : Fin 4, t.inhibits[i] = { level := s.inhibits[i].level, enabled := true, activeHigh := false })
  ∧ (t.inhibit = true ↔ ∃ i : Fin 4, s.inhibits[i].level = false)
  ∧ t.health = Vector.replicate 12 Health.reset ∧ t.autoRejoin = true ∧ t.store = Store.reset
  ∧ t.LinkIdle ∧ t.txd = true ∧ t.attention = Attention.reset
  ∧ t.pending = s.pending ∧ t.choices = s.choices

/-- Every invariant of this file. -/
def State.Good (s : State) : Prop :=
  s.BothTracks Channel.QueuesGood ∧ s.BothTracks Channel.HeadsGood ∧ s.BothTracks Channel.TimersGood
  ∧ s.BothTracks Channel.SpeedsGood ∧ s.BothTracks Channel.InputsGood ∧ s.TimelineGood
  ∧ s.OfferedGood .t1 ∧ s.OfferedGood .t2 ∧ s.CamerasGood ∧ s.StrobesGood
  ∧ s.HealthGood ∧ s.tracker.Good ∧ s.store.Good ∧ s.link.Good ∧ s.attention.Good

/-- Some track is in PASSAGE (R147). -/
def State.SomePassage (s : State) : Prop := ∃ t, (s.channel t).state = .passage

/-- The pulses of a track as local time is set further on by a span: those whose count has run out by this instant have moved
along, and everything else is as it was (R147, R157, log entry 33). -/
def Channel.PulsesMoved (c d : Channel) (ticks : Nat) (delta : LocalTime) : Prop :=
  d = { c with wheels := d.wheels, synthetic := d.synthetic }
  ∧ (∀ w, d.wheels.get w =
      { level := (c.wheels.get w).level
        count := (c.wheels.get w).count.map fun n => (if n.2 ≤ ticks then n.1 + delta else n.1, n.2) })
  ∧ d.synthetic = c.synthetic.map fun p => { p with
      timestamp := if p.accepts ≤ ticks then p.timestamp + delta else p.timestamp }

/-- The passage that an outer pulse opens at this instant in `u`, whose local time was set since `s`, is read on the new run
of local time, and in `s` it makes traffic: either order of R157 (rows 1 and 5). -/
def State.OpensOnTheNewRun (s u : State) : Prop :=
  ∀ t w stamp p, s.Accepts t w stamp p → (w = .wao ∨ w = .wbo) →
    ((s.channel t).state = .idle ∨ (s.channel t).state = .dormant) →
    (∃ v, Completes (.wheelPulseAccepted t w) s v ∧ v.SomePassage)
    ∧ ∃ v, Completes (.wheelPulseAccepted t w) u v ∧ (v.channel t).state = .passage
      ∧ v.localTime - (v.channel t).passage.opened = s.localTime - stamp

/-- An outer wheel-sensor input of the track has a debounce count that runs on after this instant, real or synthetic (R151,
R157, log entry 33). -/
def Channel.OuterCounts (c : Channel) (ticks : Nat) : Prop :=
  (∃ w n, (w = .wao ∨ w = .wbo) ∧ (c.wheels.get w).count = some n ∧ ticks < n.2)
  ∨ ∃ p ∈ c.synthetic, (p.sensor = .wao ∨ p.sensor = .wbo) ∧ ticks < p.accepts

/-- There is traffic: a track is in PASSAGE, or IDLE or DORMANT while an outer input counts (R151, R155). -/
def State.SomeTraffic (s : State) : Prop :=
  ∃ t, (s.channel t).state = .passage
    ∨ (((s.channel t).state = .idle ∨ (s.channel t).state = .dormant) ∧ (s.channel t).OuterCounts s.ticks)

/-! ## Byte layouts, as the statements speak of them (R186) -/

/-- Bytes hold a layout from a base on: each row gives an offset, a size and the number that stands there, least significant
byte first, cut to the size. -/
def Spells (bytes : List Byte) (base : Nat) (layout : List (Nat × Nat × Nat)) : Prop :=
  ∀ row ∈ layout, field bytes (base + row.1) row.2.1 = row.2.2 % 256 ^ row.2.1

/-- A flag at a bit of a flags byte. -/
def flagAt (flag : Bool) (bit : Nat) : Nat := if flag then 2 ^ bit else 0

/-- A record's bytes hold the record header (R186). -/
def SpellsHeader (bytes : List Byte) (r : Record) (kind : Nat) : Prop :=
  Spells bytes 0
    [(0, 2, r.number), (2, 1, kind), (3, 1, trackCode r.track), (4, 6, r.stored.toNat), (10, 1, flagAt r.displaced 0)]

/-- Bytes hold a shot entry from a base on (R186). -/
def SpellsShot (bytes : List Byte) (base : Nat) (x : Shot) : Prop :=
  Spells bytes base
    [(0, 1, x.step), (1, 1, x.camera.val), (2, 1, (x.strobe.map (·.val)).getD 0),
     (3, 1, flagAt x.strobe.isSome 0 + flagAt x.start.isSome 1 + flagAt x.exposure.isSome 2 + flagAt x.unlit.isSome 3),
     (4, 1, x.outcome.code), (5, 1, (x.unlit.map UnlitReason.code).getD 0), (6, 1, x.confirmation.code),
     (7, 1, flagAt x.clamped 0 + flagAt x.flashCut 1), (8, 6, x.due.toNat), (14, 2, (x.start.map (span x.due)).getD 0),
     (16, 2, x.exposure.getD 0)]

/-- Bytes hold the body of a HEAD record after its header (R74, R186). -/
def SpellsHead (bytes : List Byte) (h : HeadRecord) (displaced : Bool) : Prop :=
  Spells bytes 11
    [(0, 2, h.passage), (2, 1, h.index), (3, 1, directionCode h.direction), (4, 1, h.status.code),
     (5, 1, flagAt h.length.isSome 0 + flagAt h.firstSpeed.isSome 1 + flagAt h.predicted.isSome 2
        + flagAt h.observed.isSome 3 + flagAt h.error.isSome 4),
     (6, 1, flagAt h.speedHeld 0 + flagAt h.rehearsal 1 + flagAt h.overspeed 2 + flagAt displaced 3),
     (7, 1, flagAt h.confirmed 0), (8, 6, h.detected.toNat), (14, 4, h.duration), (18, 2, h.length.getD 0),
     (20, 4, h.firstSpeed.getD 0), (24, 6, (h.predicted.getD 0#48).toNat), (30, 6, (h.observed.getD 0#48).toNat),
     (36, 4, (h.error.getD 0 % 4294967296).toNat), (40, 1, h.shots.length), (41, 1, h.marks.length)]
  ∧ (∀ i (inside : i < h.shots.length), SpellsShot bytes (53 + 18 * i) h.shots[i])
  ∧ ∀ i (inside : i < h.marks.length), Spells bytes (53 + 18 * h.shots.length + 7 * i)
      [(0, 1, h.marks[i].step), (1, 6, h.marks[i].instant.toNat)]

/-- Bytes hold the body of a PASSAGE record after its header (R18, R186). -/
def SpellsPassage (bytes : List Byte) (p : PassageRecord) : Prop :=
  Spells bytes 11
    [(0, 2, p.number), (2, 1, directionCode p.direction), (3, 1, p.outcome.code),
     (4, 1, flagAt p.rehearsal 0 + flagAt p.overspeed 1), (5, 1, flagAt p.agreed.isSome 0 + flagAt p.estimates.isSome 1),
     (6, 6, p.opened.toNat), (12, 6, p.closed.toNat),
     (18, 2, p.counts.wao), (20, 2, p.counts.wai), (22, 2, p.counts.wbi), (24, 2, p.counts.wbo),
     (26, 2, p.agreed.getD 0), (28, 1, p.accepted), (29, 1, p.rejected), (30, 1, p.dropped), (31, 1, p.captured),
     (32, 1, p.missed), (33, 4, (p.estimates.map (·.1)).getD 0), (37, 4, (p.estimates.map (·.2)).getD 0),
     (41, 1, p.approach.code), (42, 1, p.departure.code), (43, 1, p.lost)]

/-- The bytes of the `i`th step of a LOAD PLAN body spell a plan step; bytes that its kind does not use may hold anything
(R80, R186). -/
def SpellsStep (body : List Byte) (i : Nat) (x : Step) : Prop :=
  let base := 2 + 6 * i
  match x with
  | .atPos p => field body base 1 = 1 ∧ fieldInt body (base + 1) 4 = p
  | .after d => field body base 1 = 2 ∧ field body (base + 1) 4 = d
  | .expose c none => field body base 1 = 3 ∧ field body (base + 1) 1 = c.val ∧ field body (base + 2) 1 = 0
  | .expose c (some y) =>
    field body base 1 = 3 ∧ field body (base + 1) 1 = c.val ∧ field body (base + 2) 1 = 1 ∧ field body (base + 3) 1 = y.val
  | .mark => field body base 1 = 4

/-! ## Power, as the statements speak of it (R7) -/

/-- From `s` to `u` the cameras of a track are powered up: those that were OFF are WARMING, or READY at once where their
warm-up is 0 and a recovery interval has passed since their last exposure; every other camera is unchanged (R104, R105). -/
def CamerasWoken (s u : State) (t : TrackId) : Prop :=
  ∀ i, u.camera i =
    if (s.camera i).track = some t ∧ (s.camera i).state = .off then
      { s.camera i with
        state :=
          if (s.camera i).warmUp = 0 ∧ ∀ e ∈ (s.camera i).lastExposure, e + (s.camera i).recovery ≤ s.ticks then .ready
          else .warming s.ticks
        cpwr := true }
    else s.camera i

/-- From `s` to `u` the strobe pool is powered up where no track was awake: from rest, S0 charges first and the other five
are EMPTY in the charge queue; where a track was awake the pool is unchanged (R119, R127, R128). -/
def PoolWoken (s u : State) : Prop :=
  (s.anyAwake = true →
    u.strobes = s.strobes ∧ u.chargeQueue = s.chargeQueue ∧ u.charger = s.charger ∧ u.chgEn = s.chgEn ∧ u.chgSel = s.chgSel)
  ∧ (s.anyAwake = false → s.timeline = [] → (∀ x, (s.strobe x).state = .off) → s.chargeQueue = [] → s.charger = none →
    (∀ x, u.strobe x =
      { s.strobe x with state := if x = 0 then .charging else .empty, sfire := false, lastPulse := none })
    ∧ u.chargeQueue = ([1, 2, 3, 4, 5] : List (Fin 6)).map (fun x => { strobe := x, joined := s.ticks })
    ∧ u.charger =
      some { strobe := 0, completes := s.ticks + ((s.strobe 0).base + (s.strobe 0).factor * (s.strobe 0).maxPulse),
             joins := some s.ticks }
    ∧ u.chgEn = true ∧ u.chgSel = 0#3)

/-- From `s` to `u` the cameras of a track lose their power: every powered one is OFF with both pins low and no window
open; every other camera is unchanged (R106). -/
def CamerasRested (s u : State) (t : TrackId) : Prop :=
  ∀ i, u.camera i =
    if (s.camera i).track = some t ∧ (s.camera i).state ≠ .off ∧ (s.camera i).state ≠ .failed then
      { s.camera i with state := .off, cpwr := false, ctrg := false, confirm := none }
    else s.camera i

/-- From `s` to `u`, as a track falls asleep, the strobe pool loses its power where the other track is not awake: every
strobe is OFF, the queue is empty and the charger free; otherwise the pool is unchanged (R120). -/
def PoolRested (s u : State) (t : TrackId) : Prop :=
  if (s.channel (otherTrack t)).awake then
    u.strobes = s.strobes ∧ u.chargeQueue = s.chargeQueue ∧ u.charger = s.charger ∧ u.chgEn = s.chgEn ∧ u.chgSel = s.chgSel
  else
    (∀ x, u.strobe x = { s.strobe x with state := .off, sfire := false })
    ∧ u.chargeQueue = [] ∧ u.charger = none ∧ u.chgEn = false ∧ u.chgSel = 0#3

end Sys2Proof.Machine
end

