-- ==== Sys2Proof/Certificates/Slice0/Obligations.lean ====
section
/-! DEFINITION. The statements about the model, for the provers. A statement about a request quantifies over every body of
its length, over every TAG and over every state whose link is idle; `Judged` gives the three ways it can be answered, in the
order of R178. Where a statement gives the next state as an update of `s`, every field that the update does not name is
unchanged. -/

open Sys2Proof Sys2Proof.Machine

/-! ## The queue of commands, and time -/

/-- The command at the front of the queue runs on the rest of the queue. -/
def Obligations.StepRunsTheFrontCommand : Prop :=
  ∀ (c : Instr) (rest : List Instr) (s : State), s.pending = c :: rest → step s = exec c { s with pending := rest }

/-- With no command waiting, an event that is due is taken, one of several by the free choice (log entries 1 and 2); with
nothing due the next tick comes, and local time advances by 1 unless the tick is an adjusted one (R146). An adjusted tick
advances it by 0 or 2 and its target leaves the list (R153). With the tick the order among the offers of the instant is
settled, and the model's own list of them is emptied (R72, log entry 35). -/
def Obligations.TimePassesOnlyWhenNothingIsDue : Prop :=
  (∀ s : State, s.pending = [] → s.dueEvents ≠ [] →
    ∃ e ∈ s.dueEvents, ∃ n, step s = .next { s with pending := [e], choices := n })
  ∧ (∀ s : State, s.pending = [] → s.dueEvents = [] → (∀ c ∈ s.tracker.corrections, c.target ≠ s.localTime + 1#48) →
    step s = .next { s with
      ticks := s.ticks + 1, localTime := s.localTime + 1#48, store := { s.store with offered := [] } })
  ∧ ∀ (s : State) (c : Correction) (ahead behind : List Correction),
    s.dueEvents = [] → s.tracker.corrections = ahead ++ c :: behind → c.target = s.localTime + 1#48 →
    (∀ d ∈ ahead, d.target ≠ c.target) →
    Completes .adjustedTick s
      { s with
        ticks := s.ticks + 1
        localTime := s.localTime + (if c.up then 2#48 else 0#48)
        tracker := { s.tracker with corrections := ahead ++ behind }
        store := { s.store with offered := [] } }

/-- Every command answers a next state, in every state, and leaves the commands that wait and the free choices as they
were. The queue of commands and the count of choices are the model's own: that PIN_RESET and a RESTART leave them too is a
choice of the model (log entries 17 and 26). -/
def Obligations.EveryCommandAnswersAState : Prop :=
  ∀ (c : Instr) (s : State), ∃ t, exec c s = .next t ∧ t.pending = s.pending ∧ t.choices = s.choices

/-! ## The host link (chapter 12) -/

/-- While a reply is in transmission or requests wait, a complete request frame joins the tail of the receive queue, or is
discarded with LINK_OVERRUN where 4 wait (R177). That a request command stands for a whole frame is log entry 4. -/
def Obligations.RequestsWaitBehindAReply : Prop :=
  ∀ (kind : RequestKind) (tag : Byte) (body : List Byte) (s : State), body.length ≤ 248 → ¬s.LinkIdle →
    (s.link.queue.length < 4 →
      Completes (kind.command tag body) s
        { s with link := { s.link with queue := s.link.queue ++ [{ kind := kind.code, tag := tag, body := body }] } })
    ∧ (4 ≤ s.link.queue.length → Completes (kind.command tag body) s (s.latch .linkOverrun))

/-- A request of any kind whose body has the wrong length is answered BAD_LENGTH and changes nothing (R178); a body of more
than 248 bytes fits in no frame and leaves no trace (R176, log entry 22). -/
def Obligations.WrongLengthIsBadLength : Prop :=
  ∀ (kind : RequestKind) (body : List Byte) (s : State),
    (s.LinkIdle → body.length ≤ 248 → body.length ≠ kind.requiredLength body → Answers kind body s s .badLength [])
    ∧ (248 < body.length → ∀ tag, Completes (kind.command tag body) s s)

/-- The bytes of a request frame (R175), received one after another by a receiver that hunts, do what the request does:
SYNC, LEN, KIND, TAG, body, and the CRC with its low byte first. -/
def Obligations.FrameBytesMakeTheRequest : Prop :=
  ∀ (kind : RequestKind) (tag : Byte) (body : List Byte) (s : State),
    body.length ≤ 248 → s.link.receiver = .hunting →
    let covered := BitVec.ofNat 8 body.length :: kind.code :: tag :: body
    let sum := crc covered
    runAll ((0xA7#8 :: covered ++ [sum.setWidth 8, (sum >>> 8).setWidth 8]).map fun b => Instr.rxByte b true) s
      = exec (kind.command tag body) s

/-- The receiver ignores every byte but SYNC while it hunts. Inside a frame it takes the bytes one by one; it abandons the
frame at a LEN above 248, at a low stop bit, at a wrong CRC, and where 2,000 ticks pass before the next byte starts, and an
abandoned frame leaves no trace; a complete frame with a right CRC is handed on (R175, R176, R177). A byte that is complete
more than a byte time after those ticks is judged as a hunting receiver judges it (log entry 8). A receiver whose frame a
restart abandoned hunts, but for a byte that completes that frame at the very instant of the restart: the frame is handed on
(R180, log entry 38). FRAME_GAP_TIMEOUT given before the 2,000 ticks are over, or while hunting, does nothing (log entry
3). -/
def Obligations.ReceiverHuntsAndAbandons : Prop :=
  ∀ (value : Byte) (stop : Bool) (s : State),
    let takes := fun (r : Receiver) => { s with link := { s.link with receiver := r } }
    let hunted := if value = 0xA7#8 ∧ stop = true then takes (.inFrame [] s.ticks) else takes .hunting
    (s.link.receiver = .hunting →
      (¬(value = 0xA7#8 ∧ stop = true) → Completes (.rxByte value stop) s s)
      ∧ (value = 0xA7#8 → stop = true → Completes (.rxByte value stop) s (takes (.inFrame [] s.ticks)))
      ∧ Completes .frameGapTimeout s s)
    ∧ (∀ (taken : List Byte) (last restart : Nat), s.link.receiver = .abandoned taken last restart →
      let completes := fun (kind tag low high : Byte) (body : List Byte) =>
        restart = s.ticks ∧ stop = true ∧ s.ticks - last < 2000 + sendTicks s.link.baud 1 ∧ body.length ≤ 248
        ∧ taken ++ [value] = BitVec.ofNat 8 body.length :: kind :: tag :: body ++ [low, high]
        ∧ crc (BitVec.ofNat 8 body.length :: kind :: tag :: body) = (high ++ low : BitVec 16)
      Completes .frameGapTimeout s s
      ∧ ((∀ kind tag low high body, ¬completes kind tag low high body) → Completes (.rxByte value stop) s hunted)
      ∧ ∀ kind tag low high body, completes kind tag low high body →
        Completes (.rxByte value stop) s ((takes .hunting).receive { kind := kind, tag := tag, body := body }))
    ∧ ∀ (taken : List Byte) (last : Nat), s.link.receiver = .inFrame taken last →
      (2000 + sendTicks s.link.baud 1 ≤ s.ticks - last → Completes (.rxByte value stop) s hunted)
      ∧ (s.ticks - last < 2000 + sendTicks s.link.baud 1 →
        (stop = false → Completes (.rxByte value stop) s (takes .hunting))
        ∧ ∀ (len : Byte) (rest : List Byte), stop = true → taken ++ [value] = len :: rest →
          (248 < len.toNat → Completes (.rxByte value stop) s (takes .hunting))
          ∧ (len.toNat ≤ 248 → rest.length ≠ len.toNat + 4 →
            Completes (.rxByte value stop) s (takes (.inFrame (taken ++ [value]) s.ticks)))
          ∧ ∀ (kind tag low high : Byte) (body : List Byte), len.toNat ≤ 248 → body.length = len.toNat →
            rest = kind :: tag :: body ++ [low, high] →
            (crc (len :: kind :: tag :: body) ≠ (high ++ low : BitVec 16) → Completes (.rxByte value stop) s (takes .hunting))
            ∧ (crc (len :: kind :: tag :: body) = (high ++ low : BitVec 16) →
              let request : Request := { kind := kind, tag := tag, body := body }
              Completes (.rxByte value stop) s ((takes .hunting).receive request)
              ∧ (s.LinkIdle → (∀ k : RequestKind, k.code ≠ kind) →
                Completes (.rxByte value stop) s ((takes .hunting).replying request .unknownKind []))))
      ∧ (2000 ≤ s.ticks - last → Completes .frameGapTimeout s (takes .hunting))
      ∧ (s.ticks - last < 2000 → Completes .frameGapTimeout s s)

/-- A reply is sent when its bytes have taken 10 bit times each (R178, to the whole tick by log entry 9). The transmitter is
then idle, or takes the request at the head of the receive queue, which is answered UNKNOWN_KIND where no kind has its code;
before that instant REPLY_SENT does nothing (log entry 3). TXD is high while the transmitter is idle; during a reply it
carries the bytes back to back, each with a low start bit, its eight bits with the least significant first, and a high stop
bit (R175, R178, R185). -/
def Obligations.ReplySentTakesTheNextRequest : Prop :=
  (∀ s : State, s.link.transmission = none → s.txd = true)
  ∧ (∀ (s : State) (x : Transmission) (i j : Nat) (inside : i < x.bytes.length), s.link.transmission = some x → j < 10 →
    let sent := (s.ticks - x.started) * baudRate s.link.baud
    (10 * i + j) * 1000000 ≤ sent → sent < (10 * i + j + 1) * 1000000 →
    s.txd = if j = 0 then false else if j = 9 then true else x.bytes[i].getLsbD (j - 1))
  ∧ ∀ (s : State) (x : Transmission), s.link.transmission = some x → x.restarts = false →
    ((s.ticks < x.started ∨ (s.ticks - x.started) * baudRate s.link.baud < x.bytes.length * 10 * 1000000) →
      Completes .replySent s s)
    ∧ (x.started ≤ s.ticks → x.bytes.length * 10 * 1000000 ≤ (s.ticks - x.started) * baudRate s.link.baud →
      (s.link.queue = [] → Completes .replySent s { s with link := { s.link with transmission := none } })
      ∧ ∀ (q : Request) (rest : List Request), s.link.queue = q :: rest →
        let taken := { s with link := { s.link with transmission := none, queue := rest } }
        Completes .replySent s (taken.process q)
        ∧ ((∀ kind : RequestKind, kind.code ≠ q.kind) → Completes .replySent s (taken.replying q .unknownKind [])))

/-- A pin reset sets every block to its reset value, local time to 0, and takes the baud rate from the straps (R20, R22,
R103, R158, R173, R185). Choices of the model are in it too: the tick count at 0 and the free choices kept (log entry 17),
the tracker's window and its seen flag (log entry 25), the commands and the pin levels that stay (log entry 26), and the
fields of a passage and a generator that the spec gives no reset value (log entry 30). -/
def Obligations.PinResetSetsEveryBlock : Prop :=
  ∀ (straps : BitVec 2) (s : State), ∃ t, Completes (.pinReset straps) s t ∧ AfterReset s t
    ∧ t.ticks = 0 ∧ t.localTime = 0#48 ∧ t.link.baud = straps ∧ t.link.receiver = .hunting
    ∧ t.tracker = { enabled := false, falling := false, state := .free, misses := 0, window := 0#48, seen := false,
                    corrections := [], phaseError := none }
    ∧ ∀ i, t.camera i = Camera.reset

/-- RESTART is answered OK, and acts when the last byte of that reply has been sent: every block as after a pin reset,
but the baud rate, the timebase, the tracker and the start of each camera's last exposure are kept (R116, R158, R180).
Both rows that mark the end of that reply, RESTART_TAKES_EFFECT and REPLY_SENT, do this (log entry 11); without a
RESTART's reply in transmission RESTART_TAKES_EFFECT does nothing (log entry 3). The receiver hunts; it keeps an
abandoned frame for this instant alone, at which the frame may still complete (R180, log entry 38). What else
`AfterReset` holds beyond the spec is the model's choice (log entries 17, 26 and 30). -/
def Obligations.RestartActsWhenItsReplyIsSent : Prop :=
  (∀ (s : State) (tag : Byte), s.LinkIdle →
    Completes (.restart tag []) s
      { s with
        link := { s.link with
          transmission := some
            { request := { kind := 0x02#8, tag := tag, body := [] }
              bytes := replyFrame { kind := 0x02#8, tag := tag, body := [] } .ok []
              started := s.ticks
              restarts := true } } })
  ∧ (∀ (s : State) (x : Transmission), s.link.transmission = some x → x.restarts = true → x.started ≤ s.ticks →
    x.bytes.length * 10 * 1000000 ≤ (s.ticks - x.started) * baudRate s.link.baud →
    ∃ t, Completes .restartTakesEffect s t ∧ Completes .replySent s t ∧ AfterReset s t
      ∧ t.ticks = s.ticks ∧ t.localTime = s.localTime ∧ t.tracker = s.tracker ∧ t.link.baud = s.link.baud
      ∧ (∀ taken last, s.link.receiver = .inFrame taken last → t.link.receiver = .abandoned taken last s.ticks)
      ∧ ((∀ taken last, s.link.receiver ≠ .inFrame taken last) → t.link.receiver = .hunting)
      ∧ ∀ i, t.camera i = { Camera.reset with lastExposure := (s.camera i).lastExposure })
  ∧ ∀ s : State, (∀ x, s.link.transmission = some x → x.restarts = false) → Completes .restartTakesEffect s s

/-- IDENTIFY reports the vendor code 0x0C7A, the part code 0x0030, revision 1 and the five numbers, and changes no state; a
body that is not empty is answered BAD_LENGTH (R179). -/
def Obligations.IdentifyReportsThePart : Prop :=
  ∀ s : State, s.LinkIdle →
    Answers .identify [] s s .ok [0x7A#8, 0x0C#8, 0x30#8, 0x00#8, 0x01#8, 2#8, 8#8, 6#8, 4#8, 32#8]
    ∧ ∀ body, body ≠ [] → body.length ≤ 248 → Answers .identify body s s .badLength []

/-- READ EVENTS reports the latched set, the mask and the mode, and clears the set it reports; in LEVEL mode ATTN falls, in
EDGE mode a pulse in progress goes on (R182, R184). SET ATTENTION replaces the mask and the mode and leaves the latched set
(R183). To LEVEL, ATTN is asserted exactly where a latched event is unmasked. To EDGE, a pulse of 8 ticks starts where a
latched event that was masked is unmasked; without one, a change from LEVEL deasserts ATTN and a pulse in progress goes on
(R184). -/
def Obligations.AttentionIsReadAndSet : Prop :=
  (∀ s : State, s.LinkIdle →
    (s.attention.mode = .level →
      Answers .readEvents [] s
        { s with attention := { s.attention with latched := 0#12, attn := false, pulseEnds := none } } .ok
        (toBytes 2 s.attention.latched.toNat ++ toBytes 2 s.attention.mask.toNat ++ [0#8]))
    ∧ (s.attention.mode = .edge →
      Answers .readEvents [] s { s with attention := { s.attention with latched := 0#12 } } .ok
        (toBytes 2 s.attention.latched.toNat ++ toBytes 2 s.attention.mask.toNat ++ [1#8])))
  ∧ ∀ (s : State) (body : List Byte), s.LinkIdle → body.length = 3 →
    let a := s.attention
    let mask := BitVec.ofNat 12 (field body 0 2)
    let values := field body 0 2 < 4096 ∧ field body 2 1 ≤ 1
    let level : Attention :=
      { latched := a.latched, mask := mask, mode := .level, attn := decide (a.latched &&& ~~~mask ≠ 0#12), pulseEnds := none }
    let edge : Attention :=
      if a.latched &&& ~~~mask &&& a.mask ≠ 0#12 then
        { latched := a.latched, mask := mask, mode := .edge, attn := true, pulseEnds := some (s.ticks + 8) }
      else if a.mode = .level then
        { latched := a.latched, mask := mask, mode := .edge, attn := false, pulseEnds := none }
      else { latched := a.latched, mask := mask, mode := .edge, attn := a.attn, pulseEnds := a.pulseEnds }
    Judged .setAttention body s values True { s with attention := if field body 2 1 = 0 then level else edge } []

/-- An event that is latched already has no effect; any other joins the set whatever the mask. ATTN follows: in LEVEL mode
the unmasked set, in EDGE mode a pulse of 8 ticks for an unmasked event (R181, R184), which ATTN_PULSE_END ends; given before
that it does nothing (log entry 3). -/
def Obligations.LatchedEventMovesAttn : Prop :=
  (∀ (e : Event) (s : State),
    let a := s.attention
    let latched := a.latched ||| (1#12 <<< e.bit)
    (a.latched.getLsbD e.bit = true → s.latch e = s)
    ∧ (a.latched.getLsbD e.bit = false → a.mode = .level →
      s.latch e = { s with
        attention := { a with latched := latched, attn := decide (latched &&& ~~~a.mask ≠ 0#12), pulseEnds := none } })
    ∧ (a.latched.getLsbD e.bit = false → a.mode = .edge → a.mask.getLsbD e.bit = false →
      s.latch e = { s with attention := { a with latched := latched, attn := true, pulseEnds := some (s.ticks + 8) } })
    ∧ (a.latched.getLsbD e.bit = false → a.mode = .edge → a.mask.getLsbD e.bit = true →
      s.latch e = { s with attention := { a with latched := latched } }))
  ∧ ∀ s : State,
    (∀ d, s.attention.pulseEnds = some d → d ≤ s.ticks →
      Completes .attnPulseEnd s { s with attention := { s.attention with attn := false, pulseEnds := none } })
    ∧ ((∀ d, s.attention.pulseEnds = some d → s.ticks < d) → Completes .attnPulseEnd s s)

/-! ## Track settings and modes (chapters 1 to 4) -/

/-- SET TRACK GEOMETRY stores the six positions and the debounce time of an OFFLINE track that pass the checks of R21; SET
TRACK TIMING (R8), SET SPEED FILTER (R55) and SET HEAD LIMITS (R76) store values in range for an OFFLINE track. -/
def Obligations.TrackSettingsAreStored : Prop :=
  (∀ (s : State) (t : TrackId) (body : List Byte), s.LinkIdle → body.length = 27 →
    let g : Geometry :=
      { wao := fieldInt body 1 4, wai := fieldInt body 5 4, hda := fieldInt body 9 4, hdb := fieldInt body 13 4,
        wbi := fieldInt body 17 4, wbo := fieldInt body 21 4 }
    let debounce := field body 25 2
    let values :=
      -200000 ≤ g.wao ∧ g.wao < g.wai ∧ g.wai < g.hda ∧ g.hda < 0 ∧ 0 < g.hdb ∧ g.hdb < g.wbi ∧ g.wbi < g.wbo
      ∧ g.wbo ≤ 200000 ∧ 2000 ≤ g.wai - g.wao ∧ g.wai - g.wao ≤ 30000 ∧ 2000 ≤ g.wbo - g.wbi ∧ g.wbo - g.wbi ≤ 30000
      ∧ -40000 ≤ g.hda ∧ g.hda ≤ -2000 ∧ 2000 ≤ g.hdb ∧ g.hdb ≤ 40000 ∧ 1000 ≤ g.hda - g.wai ∧ 1000 ≤ g.wbi - g.hdb
      ∧ 20 ≤ debounce ∧ debounce ≤ 5000
    (field body 0 1 = trackCode t →
      Judged .setTrackGeometry body s values ((s.channel t).state = .offline)
        (s.updChannel t fun c => { c with geometryValid := true, geometry := g, debounce := debounce }) [])
    ∧ (¬(field body 0 1 = 1 ∨ field body 0 1 = 2) → Answers .setTrackGeometry body s s .badValue []))
  ∧ ∀ (s : State) (t : TrackId) (body : List Byte), s.LinkIdle →
    (body.length = 7 → field body 0 1 = trackCode t →
      Judged .setTrackTiming body s (1000 ≤ field body 1 4 ∧ field body 1 4 ≤ 120000 ∧ field body 5 2 ≤ 3600)
        ((s.channel t).state = .offline)
        (s.updChannel t fun c => { c with clearInterval := field body 1 4, dormantDelay := field body 5 2 }) [])
    ∧ (body.length = 4 → field body 0 1 = trackCode t →
      Judged .setSpeedFilter body s
        (50 ≤ field body 1 2 ∧ field body 1 2 ≤ 10000 ∧ 5 ≤ field body 3 1 ∧ field body 3 1 ≤ 50)
        ((s.channel t).state = .offline)
        (s.updChannel t fun c => { c with staleLimit := field body 1 2, jumpLimit := field body 3 1 }) [])
    ∧ (body.length = 7 → field body 0 1 = trackCode t →
      Judged .setHeadLimits body s
        (100 ≤ field body 1 2 ∧ field body 1 2 ≤ 2000 ∧ field body 1 2 ≤ field body 3 2 ∧ field body 3 2 ≤ 3000
          ∧ 500 ≤ field body 5 2 ∧ field body 5 2 ≤ 20000)
        ((s.channel t).state = .offline)
        (s.updChannel t fun c =>
          { c with lengthMin := field body 1 2, lengthMax := field body 3 2, margin := field body 5 2 }) [])
    ∧ (¬(field body 0 1 = 1 ∨ field body 0 1 = 2) →
      (body.length = 7 → Answers .setTrackTiming body s s .badValue [])
      ∧ (body.length = 4 → Answers .setSpeedFilter body s s .badValue [])
      ∧ (body.length = 7 → Answers .setHeadLimits body s s .badValue []))

/-- SET TRACK MODE takes an OFFLINE track into service in IDLE where its geometry is valid and every camera of its bound
plans is assigned to it, and is answered BAD_VALUE otherwise, or where the track or the target is none (R2, R3). Every
debounce begins from rest (R38, R57), the dormant-delay timer starts (R6), and power follows (R7, R104, R119). -/
def Obligations.SetTrackModeEntersService : Prop :=
  ∀ (s : State) (t : TrackId) (m : Mode) (body : List Byte), s.LinkIdle → body.length = 2 →
    let c := s.channel t
    let ready := c.geometryValid = true
      ∧ ∀ d p camera strobe, (s.binding t d).plan = some p → Step.expose camera strobe ∈ s.plans[p] →
        (s.camera camera).track = some t
    (¬(field body 0 1 = 1 ∨ field body 0 1 = 2) ∨ 2 < field body 1 1 → Answers .setTrackMode body s s .badValue [])
    ∧ (field body 0 1 = trackCode t → field body 1 1 = m.code → c.state = .offline → c.mode = none →
      (¬ready → Answers .setTrackMode body s s .badValue [])
      ∧ (ready → ∃ u, Answers .setTrackMode body s u .ok []
        ∧ u = { s with
            channels := u.channels, cameras := u.cameras, strobes := u.strobes, chargeQueue := u.chargeQueue,
            charger := u.charger, chgEn := u.chgEn, chgSel := u.chgSel }
        ∧ u.channel t =
          { c.inputsAtRest with
            state := .idle
            mode := some m
            dormantTimer := if c.dormantDelay = 0 then none else some (s.ticks + c.dormantDelay * 1000000) }
        ∧ u.channel (otherTrack t) = s.channel (otherTrack t) ∧ CamerasWoken s u t ∧ PoolWoken s u))

/-- SET TRACK MODE on a track in service, with target LIVE or REHEARSAL: IDLE restarts the dormant-delay timer and may
change the mode, DORMANT wakes, PASSAGE accepts only the mode it has (R4). A change of mode puts the inputs and the
generator at rest. -/
def Obligations.SetTrackModeInService : Prop :=
  ∀ (s : State) (t : TrackId) (m : Mode) (body : List Byte), s.LinkIdle → body.length = 2 →
    field body 0 1 = trackCode t → field body 1 1 = m.code →
    let c := s.channel t
    let timer := if c.dormantDelay = 0 then none else some (s.ticks + c.dormantDelay * 1000000)
    let taken := if c.mode = some m then c else { c.inputsAtRest with mode := some m }
    (c.state = .idle →
      Answers .setTrackMode body s (s.updChannel t fun _ => { taken with dormantTimer := timer }) .ok [])
    ∧ (c.state = .dormant → ∃ u, Answers .setTrackMode body s u .ok []
      ∧ u = { s with
          channels := u.channels, cameras := u.cameras, strobes := u.strobes, chargeQueue := u.chargeQueue,
          charger := u.charger, chgEn := u.chgEn, chgSel := u.chgSel }
      ∧ u.channel t = { taken with state := .idle, dormantTimer := timer }
      ∧ u.channel (otherTrack t) = s.channel (otherTrack t) ∧ CamerasWoken s u t ∧ PoolWoken s u)
    ∧ (c.state = .passage → c.mode = some m → Answers .setTrackMode body s s .ok [])
    ∧ (c.state = .passage → c.mode ≠ some m → Answers .setTrackMode body s s .wrongState [])

/-- A track leaves IDLE or DORMANT for OFFLINE by SET TRACK MODE (R5), and IDLE for DORMANT when its dormant delay runs out
(R6). Its cameras go to OFF, whatever they do, an open window closing with them, and the strobe pool loses its power where no
other track is awake (R7, R106, R120); the configuration stays. The premise says that a camera still at work for a shot works
for a head that has closed, as every camera of a quiet track does. A track that is OFFLINE already is unchanged, and so, by
the model's choice, is one whose timer has not run out where DORMANT_DELAY_EXPIRY is given (log entry 3). -/
def Obligations.QuietTrackLosesItsPower : Prop :=
  ∀ (s : State) (t : TrackId),
    let c := s.channel t
    let rested := fun (u : State) =>
      u = { s with
          channels := u.channels, cameras := u.cameras, strobes := u.strobes, chargeQueue := u.chargeQueue,
          charger := u.charger, chgEn := u.chgEn, chgSel := u.chgSel }
      ∧ u.channel (otherTrack t) = s.channel (otherTrack t) ∧ CamerasRested s u t ∧ PoolRested s u t
    (c.state = .offline → s.LinkIdle → ∀ body, body.length = 2 → field body 0 1 = trackCode t → field body 1 1 = 0 →
      Answers .setTrackMode body s s .ok [])
    ∧ ((∀ i, (s.camera i).track = some t → ∀ r ∈ (s.camera i).openShots, s.shotHeadOpen r = false) →
      ((c.state = .idle ∨ c.state = .dormant) → s.LinkIdle → ∀ body, body.length = 2 →
        field body 0 1 = trackCode t → field body 1 1 = 0 →
        ∃ u, Answers .setTrackMode body s u .ok [] ∧ rested u
          ∧ (u.channel t).state = .offline ∧ (u.channel t).mode = none ∧ (u.channel t).dormantTimer = none
          ∧ (u.channel t).generator.schedule = [] ∧ (u.channel t).synthetic = []
          ∧ (u.channel t).geometryValid = c.geometryValid ∧ (u.channel t).geometry = c.geometry
          ∧ (u.channel t).debounce = c.debounce ∧ (u.channel t).clearInterval = c.clearInterval
          ∧ (u.channel t).dormantDelay = c.dormantDelay ∧ (u.channel t).staleLimit = c.staleLimit
          ∧ (u.channel t).jumpLimit = c.jumpLimit ∧ (u.channel t).lengthMin = c.lengthMin
          ∧ (u.channel t).lengthMax = c.lengthMax ∧ (u.channel t).margin = c.margin)
      ∧ (c.state = .idle → ∀ d, c.dormantTimer = some d → d ≤ s.ticks →
        ∃ u, Completes (.dormantDelayExpiry t) s u ∧ rested u
          ∧ u.channel t = { c with state := .dormant, dormantTimer := none }))
    ∧ ((c.state ≠ .idle ∨ ∀ d, c.dormantTimer = some d → s.ticks < d) → Completes (.dormantDelayExpiry t) s s)

/-- SET TRACK MODE with target OFFLINE aborts a passage (R17): with room in the store, every open head's record is
stored as CANCELLED, a shot that a camera still works for as ABORTED (R72, R106), in detection order with the records
that were offered at this instant (log entry 35), and after them the PASSAGE record with outcome ABORTED and no agreed
count. The heads' entries leave the timeline (R97); the track is OFFLINE with no head, no timer and empty queues, its
cameras are OFF, and the strobe pool with them where the other track is not awake (R106, R120). The premise on the
cameras says that a track's cameras expose for that track alone, as every run keeps it. -/
def Obligations.OfflineAbortsThePassage : Prop :=
  ∀ (s : State) (t : TrackId) (body : List Byte), s.LinkIdle → body.length = 2 → field body 0 1 = trackCode t →
    field body 1 1 = 0 →
    let c := s.channel t
    let works := fun (h : Head) (x : Shot) => ∃ k : Fin 8,
      ({ track := t, passage := c.passage.number, index := h.index, step := x.step } : ShotRef) ∈ (s.camera k).openShots
    c.state = .passage → s.InOrder t → s.store.records.length + c.heads.length + 1 ≤ 32 →
    (∀ i, (s.camera i).track = some t → ∀ r ∈ (s.camera i).openShots, r.track = t) →
    ∃ (u : State) (given all : List HeadRecord) (last : Record) (p : PassageRecord),
      Answers .setTrackMode body s u .ok []
      ∧ u = { s with
          channels := u.channels, timeline := u.timeline, store := u.store, attention := u.attention, cameras := u.cameras,
          strobes := u.strobes, chargeQueue := u.chargeQueue, charger := u.charger, chgEn := u.chgEn, chgSel := u.chgSel }
      ∧ s.InTurn u t given all [last] ∧ u.offeredOf t = []
      ∧ given.length = c.heads.length
      ∧ (∀ i (h : i < given.length) (k : i < c.heads.length), ∃ shots,
          given[i].IsOf c.passage { c.heads[i] with shots := shots } .cancelled
          ∧ shots.length = c.heads[i].shots.length
          ∧ ∀ j (h : j < shots.length) (k : j < c.heads[i].shots.length),
            (works c.heads[i] c.heads[i].shots[j] → shots[j] = { c.heads[i].shots[j] with confirmation := .aborted })
            ∧ (¬works c.heads[i] c.heads[i].shots[j] → shots[j] = c.heads[i].shots[j]))
      ∧ last.body = .passage p ∧ last.track = t ∧ p.outcome = .aborted ∧ p.agreed = none
      ∧ p.number = c.passage.number ∧ p.counts = c.passage.counts
      ∧ p.closed = c.passage.closed.getD s.localTime
      ∧ (∀ e, e ∈ u.timeline ↔ e ∈ s.timeline ∧ ¬(e.track = t ∧ ∃ h ∈ c.heads, h.index = e.index))
      ∧ CamerasRested s u t ∧ PoolRested s u t
      ∧ (u.channel t).state = .offline ∧ (u.channel t).mode = none ∧ (u.channel t).heads = []
      ∧ (u.channel t).approach.queue = [] ∧ (u.channel t).departure.queue = []
      ∧ (u.channel t).clearTimer = none ∧ (u.channel t).staleTimer = none
      ∧ u.channel (otherTrack t) = s.channel (otherTrack t)

/-! ## Reading (R19, R84, R113, R130, R143, R156) -/

/-- READ TRACK reports a snapshot (R19, R186): 17 bytes and 9 for each open head, and changes nothing. -/
def Obligations.ReadTrackReportsASnapshot : Prop :=
  ∀ (s : State) (t : TrackId) (body : List Byte), s.LinkIdle → body.length = 1 →
    let c := s.channel t
    (¬(field body 0 1 = 1 ∨ field body 0 1 = 2) → Answers .readTrack body s s .badValue [])
    ∧ (field body 0 1 = trackCode t → ∃ r, Answers .readTrack body s s .ok r
      ∧ r.length = 17 + 9 * c.heads.length
      ∧ field r 0 1 = c.state.code
      ∧ ((fromBytes [r.getD 1 0#8]).testBit 0 = c.mode.isSome ∧ (fromBytes [r.getD 1 0#8]).testBit 1 = (c.passage.number != 0)
        ∧ (fromBytes [r.getD 1 0#8]).testBit 2 = c.speed.estimate.isSome
        ∧ (fromBytes [r.getD 1 0#8]).testBit 3 = c.closing ∧ (fromBytes [r.getD 1 0#8]).testBit 4 = c.geometryValid)
      ∧ field r 2 1 = (c.mode.map Mode.code).getD 0
      ∧ field r 3 2 = c.passage.number % 65536
      ∧ field r 5 1 = directionCode c.passage.direction ∧ field r 6 1 = c.passage.outcome.code
      ∧ field r 7 1 = c.speed.code ∧ field r 8 4 = c.speed.estimate.getD 0 % 4294967296
      ∧ field r 12 1 = c.approach.state.code ∧ field r 13 1 = c.departure.state.code
      ∧ field r 14 1 = c.approach.queue.length % 256 ∧ field r 15 1 = c.departure.queue.length % 256
      ∧ field r 16 1 = c.heads.length % 256
      ∧ ∀ i (h : i < c.heads.length),
        field r (17 + 9 * i) 1 = c.heads[i].index % 256 ∧ field r (18 + 9 * i) 1 = c.heads[i].status.code
        ∧ field r (19 + 9 * i) 1 = c.heads[i].predicted.isSome.toNat
        ∧ field r (20 + 9 * i) 6 = (c.heads[i].predicted.getD 0#48).toNat)

/-- READ CAMERAS reports each camera in 16 bytes (R113) and READ HEALTH the switch and each sensor in 11 bytes (R143); both
change nothing. -/
def Obligations.ReadCamerasAndHealthReport : Prop :=
  ∀ s : State, s.LinkIdle →
    (∃ r, Answers .readCameras [] s s .ok r ∧ r.length = 128
      ∧ ∀ i : Fin 8, field r (16 * i.val) 1 = (s.camera i).state.code
        ∧ field r (16 * i.val + 1) 1 = optTrackCode (s.camera i).track
        ∧ field r (16 * i.val + 2) 1 = (s.camera i).confirm.isSome.toNat
        ∧ field r (16 * i.val + 3) 1 = (s.camera i).noReturnRun % 256
        ∧ field r (16 * i.val + 4) 4 = (s.camera i).takenTotal % 4294967296
        ∧ field r (16 * i.val + 8) 4 = (s.camera i).confirmedTotal % 4294967296
        ∧ field r (16 * i.val + 12) 4 = (s.camera i).noReturnTotal % 4294967296)
    ∧ (∃ r, Answers .readHealth [] s s .ok r ∧ r.length = 133 ∧ field r 0 1 = s.autoRejoin.toNat
      ∧ ∀ i : Fin 12, field r (1 + 11 * i.val) 1 = s.health[i].state.code
        ∧ field r (2 + 11 * i.val) 1 = s.health[i].score % 256 ∧ field r (3 + 11 * i.val) 1 = s.health[i].progress % 256
        ∧ field r (4 + 11 * i.val) 4 = s.health[i].faults % 4294967296
        ∧ field r (8 + 11 * i.val) 4 = s.health[i].goods % 4294967296)

/-- READ STROBES reports the strobes, the charger, the members of the charge queue, and the inhibit (R130); it changes
nothing. The members stand in the order of R127: those with a need time first, by need time, the others after them, by the
instant at which they joined, and equal ones by number. The need time of a strobe is the earliest due time of the timeline
entries whose run, up to the next wait, names it (R92). The premises say that the due times lie within half the range of
local time, so that earlier and later have a sense, and that the timeline is in order of due time (R90). -/
def Obligations.ReadStrobesReports : Prop :=
  ∀ s : State, s.LinkIdle → ∃ r, Answers .readStrobes [] s s .ok r
    ∧ r.length = 80 + s.chargeQueue.length
    ∧ (∀ x : Fin 6, field r (10 * x.val) 1 = (s.strobe x).state.code
      ∧ field r (10 * x.val + 1) 2 = (s.strobe x).reportedPulse % 65536
      ∧ field r (10 * x.val + 3) 1 = (s.needTime x).isSome.toNat
      ∧ field r (10 * x.val + 4) 6 = ((s.needTime x).getD 0#48).toNat)
    ∧ field r 60 1 = s.charger.isSome.toNat ∧ field r 61 1 = ((s.charger.map fun c => c.strobe.val).getD 0)
    ∧ field r 62 4 = ((s.charger.map fun c => c.completes - s.ticks).getD 0) % 4294967296
    ∧ field r 66 1 = s.chargeQueue.length % 256
    ∧ (∃ order : List QueueMember, order.Perm s.chargeQueue
      ∧ (r.drop 67).take s.chargeQueue.length = order.map (fun m => BitVec.ofNat 8 m.strobe.val)
      ∧ ∀ base : LocalTime, (∀ e ∈ s.timeline, (e.due - base).toNat < 2 ^ 47) →
        order.Pairwise fun a b =>
          match s.needTime a.strobe, s.needTime b.strobe with
          | some x, some y => after x y = false ∧ (x = y → a.strobe ≤ b.strobe)
          | some _, none => True
          | none, some _ => False
          | none, none => a.joined ≤ b.joined ∧ (a.joined = b.joined → a.strobe ≤ b.strobe))
    ∧ (∀ i : Fin 4, field r (67 + s.chargeQueue.length + 3 * i.val) 1 = s.inhibits[i].enabled.toNat
      ∧ field r (68 + s.chargeQueue.length + 3 * i.val) 1 = s.inhibits[i].activeHigh.toNat
      ∧ field r (69 + s.chargeQueue.length + 3 * i.val) 1
        = (s.inhibits[i].enabled && (s.inhibits[i].level == s.inhibits[i].activeHigh)).toNat)
    ∧ field r (79 + s.chargeQueue.length) 1 = s.inhibit.toNat
    ∧ ∀ x : Fin 6,
      let needs := fun (e : TimelineEntry) => ∃ h k run rest camera,
        s.findHead e.track e.index = some h ∧ h.cursor = some k ∧ s.plans[k.plan].drop (e.step + 1) = run ++ rest
        ∧ (∀ y ∈ run, (∀ p, y ≠ .atPos p) ∧ ∀ d, y ≠ .after d) ∧ Step.expose camera (some x) ∈ run
      (s.needTime x = none ↔ ∀ e ∈ s.timeline, ¬needs e)
      ∧ ∀ due, s.needTime x = some due →
        (∃ e ∈ s.timeline, needs e ∧ e.due = due)
        ∧ ((s.timeline.Pairwise fun a b => after a.due b.due = false) → ∀ e ∈ s.timeline, needs e → after due e.due = false)

/-- READ PLAN reports a plan, step by step in 6 bytes, and the four bindings in 4 bytes each: plan present, plan, which is 0
where none is bound, and late tolerance (R84, R186); READ TIME reports local time and the
tracker (R156). Both change nothing. -/
def Obligations.ReadPlanAndTimeReport : Prop :=
  ∀ s : State, s.LinkIdle →
    (∀ body : List Byte, body.length = 1 →
      (4 ≤ field body 0 1 → Answers .readPlan body s s .badValue [])
      ∧ ∀ p : Fin 4, field body 0 1 = p.val → ∃ r, Answers .readPlan body s s .ok r
        ∧ r.length = 18 + 6 * (s.plans[p]).length
        ∧ field r 0 1 = p.val ∧ field r 1 1 = (s.plans[p]).length % 256
        ∧ (∀ i (h : i < (s.plans[p]).length), (r.drop (2 + 6 * i)).take 6 = (s.plans[p])[i].bytes)
        ∧ r.drop (2 + 6 * (s.plans[p]).length)
          = s.bindings.t1.ab.bytes ++ s.bindings.t1.ba.bytes ++ s.bindings.t2.ab.bytes ++ s.bindings.t2.ba.bytes
        ∧ ∀ (t : TrackId) (d : Direction),
          let b := s.binding t d
          let base := 2 + 6 * (s.plans[p]).length
            + 4 * (match t, d with | .t1, .ab => 0 | .t1, .ba => 1 | .t2, .ab => 2 | .t2, .ba => 3)
          field r base 1 = (if b.plan = none then 0 else 1) ∧ (b.plan = none → field r (base + 1) 1 = 0)
          ∧ (∀ n, b.plan = some n → field r (base + 1) 1 = n.val) ∧ field r (base + 2) 2 = b.tolerance % 65536)
    ∧ ∃ r, Answers .readTime [] s s .ok r ∧ r.length = 14
      ∧ field r 0 6 = s.localTime.toNat ∧ field r 6 1 = s.tracker.state.code ∧ field r 7 1 = s.tracker.enabled.toNat
      ∧ field r 8 1 = s.tracker.falling.toNat ∧ field r 9 1 = s.tracker.phaseError.isSome.toNat
      ∧ (∀ e, s.tracker.phaseError = some e → -500 ≤ e → e ≤ 500 → fieldInt r 10 2 = e)
      ∧ (s.tracker.phaseError = none → field r 10 2 = 0)
      ∧ field r 12 1 = s.tracker.misses % 256 ∧ field r 13 1 = s.tracker.corrections.length % 256

/-! ## Wheel sensing and the passage (chapters 1 to 3) -/

/-- A leading edge at a wheel sensor records local time and starts a debounce count on a track in LIVE mode (R24); a trailing
edge ends the pulse, and one that comes before the pulse of its count is accepted is chatter: a fault event for its sensor
while the track counts pulses, outside rehearsal, and nothing else (R25); that this holds on the very tick at which the count
runs out too is the model's choice (log entry 36). An edge at a head-detector pin moves the pin's level; in LIVE mode an edge
away from the debounce state starts a count, and an edge back to it drops the count (R1, R57), which on the tick at which
that count runs out is the model's choice (log entry 39). An edge to the level the pin already has is none (log entry 21). -/
def Obligations.InputEdgesRunTheDebounce : Prop :=
  (∀ (s : State) (t : TrackId) (w : WheelSensor),
    let x := (s.channel t).wheels.get w
    let low := s.updChannel t fun c => { c with wheels := c.wheels.set w { level := false, count := none } }
    (x.level = true → Completes (.wheelLeadingEdge t w) s s)
    ∧ (x.level = false → (s.channel t).mode = some .live → (s.channel t).state ≠ .offline →
      Completes (.wheelLeadingEdge t w) s
        (s.updChannel t fun c =>
          { c with wheels := c.wheels.set w { level := true, count := some (s.localTime, s.ticks + c.debounce) } }))
    ∧ (x.level = false → ((s.channel t).mode ≠ some .live ∨ (s.channel t).state = .offline) →
      Completes (.wheelLeadingEdge t w) s
        (s.updChannel t fun c => { c with wheels := c.wheels.set w { level := true, count := none } }))
    ∧ (x.level = false → Completes (.wheelTrailingEdge t w) s s)
    ∧ (x.level = true → (x.count = none ∨ ¬(s.channel t).Counting) → Completes (.wheelTrailingEdge t w) s low)
    ∧ (x.level = true → x.count ≠ none → (s.channel t).Counting →
      Completes (.wheelTrailingEdge t w) s (low.reports t (wheelIndex t w))))
  ∧ ∀ (s : State) (t : TrackId) (d : Detector) (high : Bool),
    let x := (s.channel t).detectors.get d
    (x.pin = high → Completes (.headDetectorEdge t d high) s s)
    ∧ (x.pin ≠ high → (s.channel t).mode ≠ some .live →
      Completes (.headDetectorEdge t d high) s
        (s.updChannel t fun c => { c with detectors := c.detectors.set d { x with pin := high } }))
    ∧ (x.pin ≠ high → (s.channel t).mode = some .live →
      Completes (.headDetectorEdge t d high) s
        (s.updChannel t fun c =>
          { c with
            detectors := c.detectors.set d
              { x with pin := high, count := if high = x.blocked then none else some (s.ticks + c.debounce) } }))

/-- Pulses that are ignored or only counted (R9, R13, R26, R32, R34): an inner pulse of a quiet track and any pulse of a
closing passage are ignored; a pulse of an abnormal passage, of an OUT pair, and a second-sensor pulse that finds the empty
queue of a SLIPPED pair are counted and nothing else. WHEEL_PULSE_ACCEPTED given before a count runs out does nothing (log
entry 3). With no command waiting, the last step of a close is not taken while a pulse of the track is due, so that one of
the instant of the clear-timer expiry finds the passage closing (R16, log entry 37). -/
def Obligations.PulsesIgnoredOrOnlyCounted : Prop :=
  (∀ (s p : State) (t : TrackId) (w : WheelSensor) (stamp : LocalTime), s.Accepts t w stamp p →
    let c := s.channel t
    let role := sensorRole c.passage.direction w
    (((c.state = .idle ∨ c.state = .dormant) ∧ (w = .wai ∨ w = .wbi)) ∨ (c.state = .passage ∧ c.passage.closed ≠ none) →
      Completes (.wheelPulseAccepted t w) s p)
    ∧ (c.Counting → (c.passage.outcome ≠ .normal ∨ (c.pair role.1).state = .out
        ∨ (role.2 = false ∧ (c.pair role.1).state = .slipped ∧ (c.pair role.1).queue = [])) →
      Completes (.wheelPulseAccepted t w) s (p.counted t w)))
  ∧ (∀ (s : State) (t : TrackId) (w : WheelSensor),
    (∀ stamp d, ((s.channel t).wheels.get w).count = some (stamp, d) → s.ticks < d) →
    (∀ x ∈ (s.channel t).synthetic, x.sensor = w → s.ticks < x.accepts) → Completes (.wheelPulseAccepted t w) s s)
  ∧ ∀ (s p u : State) (t : TrackId) (w : WheelSensor) (stamp : LocalTime), s.Accepts t w stamp p →
    (s.channel t).state = .passage → (s.channel t).passage.closed ≠ none → (s.channel t).heads = [] → s.pending = [] →
    step s = .next u → u.pending ≠ [.clearIntervalExpiry t]

/-- An outer pulse on a quiet track opens a passage and is its first pulse (R9, R10, R11, R33, R56): the next passage
number, the direction of the sensor, the open time of the pulse, counts and speeds from nothing, pairs and detectors by
sensor health, the clear-interval timer, and power where the track was DORMANT or no track was awake (R7). -/
def Obligations.OuterPulseOpensAPassage : Prop :=
  ∀ (s p : State) (t : TrackId) (w : WheelSensor) (stamp : LocalTime) (d : Direction), s.Accepts t w stamp p →
    let c := s.channel t
    (c.state = .idle ∨ c.state = .dormant) → ((w = .wao ∧ d = .ab) ∨ (w = .wbo ∧ d = .ba)) →
    let out := fun r => s.health[wheelIndex t (pairSensors d r).1].state = .excluded
      ∨ s.health[wheelIndex t (pairSensors d r).2].state = .excluded
    ∃ u, Completes (.wheelPulseAccepted t w) s u
      ∧ u = { s with
          channels := u.channels, cameras := u.cameras, strobes := u.strobes, chargeQueue := u.chargeQueue,
          charger := u.charger, chgEn := u.chgEn, chgSel := u.chgSel }
      ∧ u.channel t =
        { p.channel t with
          state := .passage
          passage :=
            { number := if c.passage.number < 65535 then c.passage.number + 1 else 1, direction := d, opened := stamp,
              closed := none, outcome := .normal, rehearsal := decide (c.mode = some .rehearsal), overspeed := false,
              counts := (⟨0, 0, 0, 0⟩ : PerSensor Nat).set w 1, accepted := 0, rejected := 0, dropped := 0, captured := 0,
              missed := 0, lost := 0, lastIndex := 0, estimates := none,
              approachInUse := decide (s.health[detectorIndex t (approachDetector d)].state ≠ .excluded),
              departureInUse := decide (s.health[detectorIndex t (departureDetector d)].state ≠ .excluded),
              approachOpen := none }
          approach :=
            { state := if out .approach then .out else .normal, queue := if out .approach then [] else [stamp],
              implausible := 0 }
          departure := { state := if out .departure then .out else .normal, queue := [], implausible := 0 }
          window := []
          speed := .absent
          dormantTimer := none
          staleTimer := none
          clearTimer := some (s.ticks + c.clearInterval * 1000) }
      ∧ u.channel (otherTrack t) = s.channel (otherTrack t)
      ∧ (c.state = .dormant → CamerasWoken s u t) ∧ (c.state = .idle → u.cameras = s.cameras) ∧ PoolWoken s u

/-- A first-sensor pulse taken by a NORMAL or SLIPPED pair enters the queue at its tail while the queue holds fewer than 32
entries (R29); a full queue refuses it, which is a fault event for the sensor outside rehearsal (R30). It is counted either
way (R11). -/
def Obligations.FirstSensorPulseEntersTheQueue : Prop :=
  ∀ (s p : State) (t : TrackId) (w : WheelSensor) (stamp : LocalTime) (r : PairRole), s.Accepts t w stamp p →
    let c := s.channel t
    c.Tracking → sensorRole c.passage.direction w = (r, true) → (c.pair r).state ≠ .out →
    ((c.pair r).queue.length < 32 →
      Completes (.wheelPulseAccepted t w) s
        ((p.counted t w).updChannel t fun c => c.updPair r fun q => { q with queue := q.queue ++ [stamp] }))
    ∧ (32 ≤ (c.pair r).queue.length →
      Completes (.wheelPulseAccepted t w) s ((p.counted t w).reports t (wheelIndex t w)))

/-- A second-sensor pulse that finds the empty queue of a NORMAL pair is an orphan (R12, R13, R32): the outcome becomes
REVERSED or CONFLICT, both queues are emptied, the staleness timer stops, every head of the track closes as CANCELLED, a shot
of it that a camera still works for as ABORTED, its entry leaves the timeline and no other does, and with room in the store
the records are stored in detection order with those that were offered at this instant (log entry 35); PASSAGE_ABNORMAL is
latched. Cameras, strobes and the speed run on. -/
def Obligations.OrphanMakesThePassageAbnormal : Prop :=
  ∀ (s p : State) (t : TrackId) (w : WheelSensor) (stamp : LocalTime) (r : PairRole), s.Accepts t w stamp p →
    let c := s.channel t
    let works := fun (h : Head) (x : Shot) => ∃ k : Fin 8,
      ({ track := t, passage := c.passage.number, index := h.index, step := x.step } : ShotRef) ∈ (s.camera k).openShots
    c.Tracking → sensorRole c.passage.direction w = (r, false) → (c.pair r).state = .normal → (c.pair r).queue = [] →
    ∃ u, Completes (.wheelPulseAccepted t w) s u
      ∧ u = { s with
          channels := u.channels, timeline := u.timeline, store := u.store, attention := u.attention, link := u.link }
      ∧ s.LinkFollows u
      ∧ (u.channel t).passage.outcome = (match r with | .approach => .reversed | .departure => .conflict)
      ∧ (u.channel t).state = .passage ∧ (u.channel t).heads = []
      ∧ (u.channel t).approach = { c.approach with queue := [] } ∧ (u.channel t).departure = { c.departure with queue := [] }
      ∧ (u.channel t).staleTimer = none ∧ (u.channel t).passage.approachOpen = none
      ∧ (u.channel t).clearTimer = some (s.ticks + c.clearInterval * 1000)
      ∧ (u.channel t).passage.counts = c.passage.counts.set w (min 65535 (c.passage.counts.get w + 1))
      ∧ (u.channel t).speed = c.speed ∧ (u.channel t).window = c.window
      ∧ (u.channel t).passage.estimates = c.passage.estimates
      ∧ u.channel (otherTrack t) = s.channel (otherTrack t)
      ∧ u.attention.latched.getLsbD 2 = true
      ∧ (∀ e, e ∈ u.timeline ↔ e ∈ s.timeline ∧ ¬(e.track = t ∧ ∃ h ∈ c.heads, h.index = e.index))
      ∧ (s.InOrder t → s.store.records.length + c.heads.length ≤ 32 →
        ∃ given all : List HeadRecord, s.InTurn u t given all [] ∧ u.offeredOf t = all ∧ given.length = c.heads.length
          ∧ ∀ i (h : i < given.length) (k : i < c.heads.length), ∃ shots,
            given[i].IsOf c.passage { c.heads[i] with shots := shots } .cancelled
            ∧ shots.length = c.heads[i].shots.length
            ∧ ∀ j (h : j < shots.length) (k : j < c.heads[i].shots.length),
              (works c.heads[i] c.heads[i].shots[j] → shots[j] = { c.heads[i].shots[j] with confirmation := .aborted })
              ∧ (¬works c.heads[i] c.heads[i].shots[j] → shots[j] = c.heads[i].shots[j]))

/-- A match takes the oldest entry of its pair's queue (R31). A match of a SLIPPED pair goes no further (R35); a crawl
match of a NORMAL pair, Δt × 300 above d × 1,000,000, produces no speed and leaves the window, the estimate, the speed
state, the staleness timer and the count of implausible matches as they were (R39, R40). A match of a NORMAL pair whose
speed lies further from the estimate than the jump limit, in FRESH with two speeds in the window, is implausible (R41):
the speed is discarded, the pair's count rises, and at 2 the pair becomes SLIPPED (R35, R42). A speed above 110,000 mm/s
saturates and sets OVERSPEED all the same (R39). -/
def Obligations.MatchesThatGiveNoEstimate : Prop :=
  (∀ (s p : State) (t : TrackId) (w : WheelSensor) (stamp entry : LocalTime) (rest : List LocalTime) (r : PairRole),
    s.Accepts t w stamp p →
    let c := s.channel t
    c.Tracking → sensorRole c.passage.direction w = (r, false) → (c.pair r).queue = entry :: rest →
    ((c.pair r).state = .slipped
      ∨ ((c.pair r).state = .normal ∧ c.frame.spacing r * 1000000 < max 1 (span entry stamp) * 300)) →
    Completes (.wheelPulseAccepted t w) s
      ((p.counted t w).updChannel t fun c => c.updPair r fun q => { q with queue := rest }))
  ∧ ∀ (s p : State) (t : TrackId) (w : WheelSensor) (stamp entry : LocalTime) (rest : List LocalTime) (r : PairRole)
    (estimate : Nat), s.Accepts t w stamp p →
    let c := s.channel t
    let dt := max 1 (span entry stamp)
    let raw := c.frame.spacing r * 1000000 / dt
    let v := min 110000 raw
    c.Tracking → sensorRole c.passage.direction w = (r, false) → (c.pair r).queue = entry :: rest →
    (c.pair r).state = .normal → dt * 300 ≤ c.frame.spacing r * 1000000 →
    c.speed = .fresh estimate → 2 ≤ c.window.length →
    c.jumpLimit * estimate < (if estimate ≤ v then v - estimate else estimate - v) * 100 →
    Completes (.wheelPulseAccepted t w) s
      ((p.counted t w).updChannel t fun c =>
        { c.updPair r fun q =>
            { state := if q.implausible + 1 = 2 then .slipped else .normal, queue := rest,
              implausible := q.implausible + 1 } with
          passage := { c.passage with overspeed := c.passage.overspeed || decide (110000 < raw) } })

/-- A plausible match gives a new estimate (R41, R43, R44): the speed enters the window of at most four, or alone after
STALE; the estimate is the mean rounded down; the state is FRESH, the staleness timer restarts, and the minimum and
maximum estimate widen. It clears the pair's count and is a good event for both sensors (R31, R42). That is all on a
track with no open head. The first estimate of a passage judges its UNTIMED heads in detection order (R44, R64): a head
whose length lies outside the limits leaves the list without a record, a rejected interval and a fault event for the
approach detector; any other is accepted, a good event, and is timed. Where its predicted crossing does not lie ahead it
closes MISSED, with or without a plan, and its record is stored, in detection order with those that were offered at this
instant (R63, R72, log entry 35); with its crossing ahead, and its departed instant too, it is FINISHED with
no plan bound, and with one it is handed to it before the next head is judged (R62, R85). On a track with an estimate
each timed head, in detection order, is re-anchored to the new estimate and handed to its plan again (R48, R95).
`startPlan` and `reanchorHead` are those of which FirstWaitIsScheduledOrHeld and MovingOnReleasesAHeldHead tell. -/
def Obligations.PlausibleMatchGivesAnEstimate : Prop :=
  ∀ (s p : State) (t : TrackId) (w : WheelSensor) (stamp entry : LocalTime) (rest : List LocalTime) (r : PairRole),
    s.Accepts t w stamp p →
    let c := s.channel t
    let dt := max 1 (span entry stamp)
    let raw := c.frame.spacing r * 1000000 / dt
    let v := min 110000 raw
    let window := if c.speed.code = 2 then [v] else (if c.window.length = 4 then c.window.drop 1 else c.window) ++ [v]
    let estimate := window.sum / window.length
    let sensors := pairSensors c.passage.direction r
    let estimated := (p.counted t w).updChannel t fun c =>
      { c.updPair r fun q => { q with queue := rest, implausible := 0 } with
        window := window
        speed := .fresh estimate
        staleTimer := some (s.ticks + c.staleLimit * 1000)
        passage := { c.passage with
          overspeed := c.passage.overspeed || decide (110000 < raw)
          estimates :=
            match c.passage.estimates with
            | none => some (estimate, estimate)
            | some (low, high) => some (min low estimate, max high estimate) } }
    c.Tracking → sensorRole c.passage.direction w = (r, false) → (c.pair r).queue = entry :: rest →
    (c.pair r).state = .normal → dt * 300 ≤ c.frame.spacing r * 1000000 → c.window.length ≤ 4 →
    (∀ e, c.speed = .fresh e → 2 ≤ c.window.length → (if e ≤ v then v - e else e - v) * 100 ≤ c.jumpLimit * e) →
    (c.heads = [] →
      Completes (.wheelPulseAccepted t w) s
        ((estimated.praises t (wheelIndex t sensors.1)).praises t (wheelIndex t sensors.2)))
    ∧ (c.speed ≠ .absent →
      let timed := (c.heads.filter fun h => h.anchor.isSome).map fun h => h.index
      Completes (.wheelPulseAccepted t w) s
        (((timed.foldl (fun u index => u.reanchorHead t estimate index) estimated).praises t
          (wheelIndex t sensors.1)).praises t (wheelIndex t sensors.2)))
    ∧ (c.speed = .absent → (c.heads.map fun h => h.index).Nodup →
      (∀ h ∈ c.heads, h.anchor = none ∧ h.crossed = false ∧ h.departed = false ∧ h.confirmed = false) →
      0 < c.frame.approachDistance →
      let distance := c.frame.approachDistance
      let q := (c.frame.departureDistance + c.margin) * 1000 + 1
      let length := fun (h : Head) => estimate * h.duration / 1000000
      let crossing := fun (h : Head) => later h.blockedStart (ceilDiv (distance * 1000 * 1000) estimate)
      let departure := fun (h : Head) => later h.blockedStart (ceilDiv ((q + distance * 1000) * 1000) estimate)
      let sensor := detectorIndex t (approachDetector c.passage.direction)
      let judged := fun (u : State) (h : Head) =>
        if c.lengthMin ≤ length h ∧ length h ≤ c.lengthMax then
          let timed := ((u.updPassage t fun p => { p with accepted := satSucc 255 p.accepted }).praises t sensor).updHead t
            h.index fun h => { h with
              anchor := some { time := h.blockedStart, position := -((distance * 1000 : Nat) : Int), speed := estimate }
              length := some (length h), firstSpeed := some estimate, predicted := some (crossing h)
              departure := some (departure h) }
          if after (crossing h) s.localTime then timed.startPlan t h.index
          else timed.closeHead t h.index .missedAtFirstTiming
        else
          State.reports
            (u.updChannel t fun x =>
              { x with
                heads := x.heads.filter fun g => g.index != h.index
                passage := { x.passage with rejected := satSucc 255 x.passage.rejected } }) t sensor
      (∀ h ∈ c.heads, c.lengthMin ≤ length h → length h ≤ c.lengthMax →
        after (crossing h) s.localTime = true → after (departure h) s.localTime = true) →
      Completes (.wheelPulseAccepted t w) s
        (((c.heads.foldl judged estimated).praises t (wheelIndex t sensors.1)).praises t (wheelIndex t sensors.2)))
    ∧ (c.speed = .absent → (s.binding t c.passage.direction).plan = none → s.InOrder t →
      s.store.records.length + c.heads.length ≤ 32 →
      (∀ h ∈ c.heads, h.anchor = none ∧ h.crossed = false ∧ h.departed = false ∧ h.confirmed = false) →
      c.passage.accepted ≤ 255 → c.passage.rejected ≤ 255 → c.passage.missed ≤ 255 → 0 < c.frame.approachDistance →
      let distance := c.frame.approachDistance
      let q := (c.frame.departureDistance + c.margin) * 1000 + 1
      let length := fun (h : Head) => estimate * h.duration / 1000000
      let valid := fun (h : Head) => decide (c.lengthMin ≤ length h ∧ length h ≤ c.lengthMax)
      let crossing := fun (h : Head) => later h.blockedStart (ceilDiv (distance * 1000 * 1000) estimate)
      let departure := fun (h : Head) => later h.blockedStart (ceilDiv ((q + distance * 1000) * 1000) estimate)
      let gone := c.heads.filter fun h => valid h && !after (crossing h) s.localTime
      let sensor := detectorIndex t (approachDetector c.passage.direction)
      (∀ h ∈ c.heads, valid h = true → after (crossing h) s.localTime = true → after (departure h) s.localTime = true) →
      (∀ i : Fin 12, s.health[i].goods ≤ 4294967295 ∧ s.health[i].faults ≤ 4294967295) →
      ∃ u given all, Completes (.wheelPulseAccepted t w) s u
        ∧ u = { s with channels := u.channels, timeline := u.timeline, health := u.health, store := u.store,
                       attention := u.attention, link := u.link }
        ∧ u.timeline = s.timeline.filter (fun e => !(e.track == t && gone.any fun h => h.index == e.index))
        ∧ u.channels = (estimated.updChannel t fun x =>
            { x with
              heads := (c.heads.filter fun h => valid h && after (crossing h) s.localTime).map fun h =>
                { h with
                  anchor := some { time := h.blockedStart, position := -((distance * 1000 : Nat) : Int), speed := estimate }
                  length := some (length h), firstSpeed := some estimate, predicted := some (crossing h)
                  departure := some (departure h), status := .finished }
              passage := { x.passage with
                accepted := min 255 (c.passage.accepted + c.heads.countP valid)
                rejected := min 255 (c.passage.rejected + c.heads.countP fun h => !valid h)
                missed := min 255 (c.passage.missed + gone.length) } }).channels
        ∧ s.InTurn u t given all [] ∧ u.offeredOf t = all ∧ given.length = gone.length
        ∧ (∀ i (h : i < given.length) (k : i < gone.length), given[i].IsOf (estimated.channel t).passage
          { gone[i] with
            length := some (length gone[i]), firstSpeed := some estimate, predicted := some (crossing gone[i]) } .missed)
        ∧ (∀ i : Fin 12, i ≠ sensor → i ≠ wheelIndex t sensors.1 → i ≠ wheelIndex t sensors.2 → u.health[i] = s.health[i])
        ∧ (c.passage.rehearsal = true → u.health = s.health)
        ∧ (c.passage.rehearsal = false →
          u.health[sensor].goods = min 4294967295 (s.health[sensor].goods + c.heads.countP valid)
          ∧ u.health[sensor].faults = min 4294967295 (s.health[sensor].faults + c.heads.countP fun h => !valid h)
          ∧ u.health[wheelIndex t sensors.1].goods = min 4294967295 (s.health[wheelIndex t sensors.1].goods + 1)
          ∧ u.health[wheelIndex t sensors.2].goods = min 4294967295 (s.health[wheelIndex t sensors.2].goods + 1)))

/-! ## Speed, position and staleness (chapter 3) -/

/-- The due time of a position is the first instant at which the anchor's position reaches it (R51, R53): of the instants
within 2^47 µs after the anchor, exactly those from it on. At anchor speed 0 there is none. -/
def Obligations.DueTimeIsTheFirstInstant : Prop :=
  ∀ (a : Anchor) (target : Int),
    (a.speed = 0 → a.reaches target = none)
    ∧ (0 < a.speed → -2147483648 < target → target ≤ 2147483647 →
      ∃ n, a.reaches target = some (later a.time n)
        ∧ ∀ k, k < 2 ^ 47 → (target ≤ a.positionAt (later a.time k) ↔ n ≤ k))

/-- When the staleness timer runs out, the speed state becomes STALE and keeps its estimate, and every timed head is
re-anchored to speed 0 where it stands: the predicted crossing of a head that has not crossed becomes absent, as does the
departed instant of one that has not departed; a head SCHEDULED at an AT wait loses its entry and becomes HELD, and its
SPEED_HELD is set (R47, R52, R54, R66, R96). The premise that no FINISHED head is confirmed or departed says that no head
waits only for its shots. -/
def Obligations.StalenessFreezesTheHeads : Prop :=
  ∀ (s : State) (t : TrackId) (d v : Nat),
    let c := s.channel t
    let held := fun (h : Head) =>
      (h.status = .scheduled ∨ h.status = .held)
      ∧ ∃ k p rest, h.cursor = some k ∧ s.plans[k.plan].drop k.step = .atPos p :: rest
    c.Counting → c.staleTimer = some d → d ≤ s.ticks → c.speed = .fresh v → (c.heads.map fun h => h.index).Nodup →
    (∀ h ∈ c.heads, h.status = .finished → h.confirmed = false ∧ h.departed = false) →
    ∃ u, Completes (.stalenessExpiry t) s u
      ∧ u = { s with channels := u.channels, timeline := u.timeline }
      ∧ u.channel (otherTrack t) = s.channel (otherTrack t)
      ∧ u.channel t = { c with speed := .stale v, staleTimer := none, heads := (u.channel t).heads }
      ∧ (u.channel t).heads.length = c.heads.length
      ∧ (∀ i (h : i < c.heads.length) (k : i < (u.channel t).heads.length), ∃ status speedHeld,
          (u.channel t).heads[i] =
            { c.heads[i] with
              anchor := c.heads[i].anchor.map fun a => { time := s.localTime, position := a.positionAt s.localTime, speed := 0 }
              predicted :=
                if c.heads[i].anchor = none ∨ c.heads[i].crossed = true then c.heads[i].predicted else none
              departure :=
                if c.heads[i].anchor = none ∨ c.heads[i].departed = true then c.heads[i].departure else none
              status := status
              speedHeld := speedHeld }
          ∧ (c.heads[i].anchor ≠ none → held c.heads[i] → status = .held ∧ speedHeld = true)
          ∧ ((c.heads[i].anchor = none ∨ ¬held c.heads[i]) →
              status = c.heads[i].status ∧ speedHeld = c.heads[i].speedHeld))
      ∧ ∀ e, e ∈ u.timeline ↔
          e ∈ s.timeline ∧ ¬(e.track = t ∧ ∃ h ∈ c.heads, h.index = e.index ∧ h.anchor ≠ none ∧ held h)

/-! ## Head detectors and heads (chapter 4) -/

/-- A blocked start makes its detector BLOCKED (R57). While the track tracks heads, the approach detector in use opens an
interval, and the departure detector in use judges the start where an estimate is present: with no head that qualifies it is
a fault event (R58, R67, R68), and otherwise the first that qualifies is confirmed; one whose plan is FINISHED and for which
no camera works closes at the match (R67, R70, log entry 32), and its record is stored (R72, log entry 35). In
every other case it is ignored, and BLOCKED_START given before the count runs out does nothing (log entry 3). -/
def Obligations.BlockedStartIsDisposed : Prop :=
  ∀ (s : State) (t : TrackId) (d : Detector),
    let c := s.channel t
    let approach := d = approachDetector c.passage.direction
    let qualifies := fun (h : Head) => ∃ a, h.anchor = some a ∧ h.confirmed = false
      ∧ ((c.frame.departureDistance : Int) - c.margin) * 1000 ≤ a.positionAt s.localTime
      ∧ a.positionAt s.localTime ≤ ((c.frame.departureDistance : Int) + c.margin) * 1000
    (s.DetectorRunsOut t d false →
      ((¬c.Tracking ∨ (approach ∧ c.passage.approachInUse = false)
          ∨ (¬approach ∧ (c.passage.departureInUse = false ∨ c.speed = .absent))) →
        Completes (.blockedStart t d) s (s.settled t d true))
      ∧ (c.Tracking → approach → c.passage.approachInUse = true →
        Completes (.blockedStart t d) s
          ((s.settled t d true).updPassage t fun p => { p with approachOpen := some s.localTime }))
      ∧ (c.Tracking → ¬approach → c.passage.departureInUse = true → c.speed ≠ .absent → (∀ h ∈ c.heads, ¬qualifies h) →
        Completes (.blockedStart t d) s ((s.settled t d true).reports t (detectorIndex t d)))
      ∧ (c.Tracking → ¬approach → c.passage.departureInUse = true → ∀ estimate ahead h behind,
        c.speed.estimate = some estimate → c.heads = ahead ++ h :: behind → (c.heads.map fun h => h.index).Nodup →
        (∀ g ∈ ahead, ¬qualifies g) → qualifies h → (h.status ≠ .finished ∨ s.headBusy t h.index = true) →
        Completes (.blockedStart t d) s
          (((s.settled t d true).updChannel t fun c =>
            { c with
              heads := ahead ++
                { h with
                  confirmed := true
                  observed :=
                    some (s.localTime - BitVec.ofNat 48 (c.frame.departureDistance * 1000000 / estimate)) } :: behind }).praises
            t (detectorIndex t d)))
      ∧ (c.Tracking → ¬approach → c.passage.departureInUse = true → ∀ estimate ahead h behind,
        c.speed.estimate = some estimate → c.heads = ahead ++ h :: behind → (c.heads.map fun h => h.index).Nodup →
        (∀ g ∈ ahead, ¬qualifies g) → qualifies h → h.status = .finished → s.headBusy t h.index = false →
        s.InOrder t → s.store.records.length < 32 →
        ∃ u given all, Completes (.blockedStart t d) s u
          ∧ u = { s with channels := u.channels, timeline := u.timeline, health := u.health, store := u.store,
                         attention := u.attention, link := u.link }
          ∧ (u.channel t).heads = ahead ++ behind ∧ s.InTurn u t [given] all [] ∧ u.offeredOf t = all
          ∧ (let matched := { h with
                confirmed := true
                observed := some (s.localTime - BitVec.ofNat 48 (c.frame.departureDistance * 1000000 / estimate)) }
             given.IsOf c.passage matched matched.ordinaryStatus)
          ∧ u.health = ((s.settled t d true).praises t (detectorIndex t d)).health))
    ∧ ((∀ n, (c.detectors.get d).count = some n → s.ticks < n) → Completes (.blockedStart t d) s s)

/-- A blocked end makes its detector CLEAR (R57). The end of an approach interval is judged (R58): with an estimate, a length
floor(est × w / 1,000,000) outside the limits is rejected with a fault event (R59); an interval that would enter a full list
is dropped with a fault event, and one past head index 255 without (R61); with no estimate it enters UNTIMED with the next
index (R60). Any other blocked end has no effect. Where the list is full and the indices are exhausted both, the model
reports the fault event (log entry 13); BLOCKED_END given before the count runs out does nothing (log entry 3). -/
def Obligations.BlockedEndIsJudged : Prop :=
  ∀ (s : State) (t : TrackId) (d : Detector),
    let c := s.channel t
    let sensor := detectorIndex t d
    let settled := s.settled t d false
    let judged := c.Tracking ∧ d = approachDetector c.passage.direction
    (s.DetectorRunsOut t d true →
      ((¬judged ∨ c.passage.approachOpen = none) → Completes (.blockedEnd t d) s settled)
      ∧ (judged → ∀ start, c.passage.approachOpen = some start →
        let w := span start s.localTime
        let valid := ∀ v, c.speed.estimate = some v → c.lengthMin ≤ v * w / 1000000 ∧ v * w / 1000000 ≤ c.lengthMax
        (¬valid → Completes (.blockedEnd t d) s
          ((settled.updPassage t fun p => { p with approachOpen := none, rejected := satSucc 255 p.rejected }).reports t
            sensor))
        ∧ (valid → 8 ≤ c.heads.length → Completes (.blockedEnd t d) s
          ((settled.updPassage t fun p => { p with approachOpen := none, dropped := satSucc 255 p.dropped }).reports t
            sensor))
        ∧ (valid → c.heads.length < 8 → 255 ≤ c.passage.lastIndex → Completes (.blockedEnd t d) s
          (settled.updPassage t fun p => { p with approachOpen := none, dropped := satSucc 255 p.dropped }))
        ∧ (c.speed = .absent → c.heads.length < 8 → c.passage.lastIndex < 255 → Completes (.blockedEnd t d) s
          (settled.updChannel t fun c =>
            { c with
              passage := { c.passage with approachOpen := none, lastIndex := c.passage.lastIndex + 1 }
              heads := c.heads ++ [newHead (c.passage.lastIndex + 1) start w] }))))
    ∧ ((∀ n, (c.detectors.get d).count = some n → s.ticks < n) → Completes (.blockedEnd t d) s s)

/-- A valid interval with an estimate is timed at its blocked end (R50, R62): its anchor is the blocked start at minus
the approach distance, at the estimate in FRESH and at speed 0 in STALE. In FRESH a head whose predicted crossing does
not lie ahead closes MISSED, and its record is stored where the store has room (R63, R72, log entry 35).
With the crossing ahead, or in STALE, a head whose direction has no plan bound is FINISHED, and any other is handed to
its plan, whose cursor arrives at step 0 (R82, R85; `startPlan`, of which FirstWaitIsScheduledOrHeld tells): its first
AT wait is then SCHEDULED at its due time where that lies ahead, after entries with an equal due time (log entry 29),
and HELD in STALE (R86, R90). Each is a good event for the detector. -/
def Obligations.ValidIntervalIsTimed : Prop :=
  ∀ (s : State) (t : TrackId) (d : Detector) (start : LocalTime) (v : Nat),
    let c := s.channel t
    let w := span start s.localTime
    let index := c.passage.lastIndex + 1
    let distance := c.frame.approachDistance
    let q := (c.frame.departureDistance + c.margin) * 1000 + 1
    let crossing := later start (ceilDiv (distance * 1000 * 1000) v)
    let departure := later start (ceilDiv ((q + distance * 1000) * 1000) v)
    let anchor := fun speed => ({ time := start, position := -((distance * 1000 : Nat) : Int), speed := speed } : Anchor)
    let base := ((s.settled t d false).updPassage t fun p =>
      { p with approachOpen := none, lastIndex := index, accepted := satSucc 255 p.accepted }).praises t (detectorIndex t d)
    let timed := { newHead index start w with length := some (v * w / 1000000), firstSpeed := some v, status := .finished }
    let b := s.binding t c.passage.direction
    let handed := fun (h : Head) => base.updChannel t fun x => { x with heads := x.heads ++ [{ h with status := .untimed }] }
    let moving := { timed with anchor := some (anchor v), predicted := some crossing, departure := some departure }
    s.DetectorRunsOut t d true → c.Tracking → d = approachDetector c.passage.direction →
    c.passage.approachOpen = some start → c.heads.length < 8 → index ≤ 255 →
    (∀ h ∈ c.heads, h.index ≠ index) → c.lengthMin ≤ v * w / 1000000 → v * w / 1000000 ≤ c.lengthMax →
    0 < v → 0 < distance →
    (c.speed = .fresh v → after crossing s.localTime = true → after departure s.localTime = true →
      (s.binding t c.passage.direction).plan = none →
      Completes (.blockedEnd t d) s
        (base.updChannel t fun x =>
          { x with
            heads := x.heads ++ [moving] }))
    ∧ (c.speed = .stale v → (s.binding t c.passage.direction).plan = none →
      Completes (.blockedEnd t d) s
        (base.updChannel t fun x => { x with heads := x.heads ++ [{ timed with anchor := some (anchor 0) }] }))
    ∧ (∀ p, b.plan = some p →
      (c.speed = .fresh v → after crossing s.localTime = true → after departure s.localTime = true →
        Completes (.blockedEnd t d) s ((handed moving).startPlan t index)
        ∧ ∀ (x : Int) (rest : List Step), s.plans[p] = .atPos x :: rest →
          let due := if x * 1000 + distance * 1000 ≤ 0 then start
            else later start (ceilDiv ((x * 1000 + distance * 1000).toNat * 1000) v)
          after due s.localTime = true →
          ∃ u timeline, Completes (.blockedEnd t d) s { u with timeline := timeline }
            ∧ u = base.updChannel t (fun x => { x with
                heads := x.heads ++
                  [{ moving with
                    status := .scheduled, cursor := some { plan := p, tolerance := b.tolerance, step := 0 } }] })
            ∧ Placed { track := t, passage := c.passage.number, index := index, step := 0, kind := .atPos, due := due }
                s.timeline timeline)
      ∧ (c.speed = .stale v →
        Completes (.blockedEnd t d) s ((handed { timed with anchor := some (anchor 0) }).startPlan t index)
        ∧ ∀ (x : Int) (rest : List Step), s.plans[p] = .atPos x :: rest →
          Completes (.blockedEnd t d) s
            (base.updChannel t fun x => { x with
              heads := x.heads ++
                [{ timed with
                  anchor := some (anchor 0), status := .held, speedHeld := true
                  cursor := some { plan := p, tolerance := b.tolerance, step := 0 } }] })))
    ∧ (c.speed = .fresh v → after crossing s.localTime = false → s.InOrder t →
      s.store.records.length < 32 →
      ∃ u given all, Completes (.blockedEnd t d) s u ∧ s.InTurn u t [given] all [] ∧ u.offeredOf t = all
        ∧ given.IsOf c.passage
          { newHead index start w with
            length := some (v * w / 1000000), firstSpeed := some v, predicted := some crossing } .missed
        ∧ (u.channel t).heads = c.heads
        ∧ (u.channel t).passage.accepted = satSucc 255 c.passage.accepted
        ∧ (u.channel t).passage.missed = satSucc 255 c.passage.missed
        ∧ u.health = base.health ∧ u.cameras = s.cameras ∧ u.strobes = s.strobes ∧ u.timeline = s.timeline.filter
            (fun e => !(e.track == t && e.index == index)))

/-- A head whose crossing has come is marked as crossed, once (R54). A head whose departed instant has come is marked as
departed, and closes where its plan is FINISHED and no camera works for it (R66, R70); its status is UNBOUND without a plan,
CAPTURED with a taken shot and NO_SHOT without (R71), and its record is stored, in detection order with those that were
offered at this instant (R72, log entry 35). A FETCH RECORD that is taken after that, at the same instant, reports it where
the store was empty, whatever heads are open still (R174). Given early, neither command does anything (log entry 3). -/
def Obligations.HeadsCrossAndDepart : Prop :=
  ∀ (s : State) (t : TrackId) (index : Nat),
    ((∀ h, s.findHead t index = some h → h.crossed = true ∨ ∀ x, h.predicted = some x → after x s.localTime = true) →
      Completes (.headCrosses t index) s s)
    ∧ ((∀ h, s.findHead t index = some h → h.departed = true ∨ ∀ x, h.departure = some x → after x s.localTime = true) →
      Completes (.headDeparted t index) s s)
    ∧ ∀ h, s.findHead t index = some h →
      (∀ x, h.crossed = false → h.predicted = some x → after x s.localTime = false →
        Completes (.headCrosses t index) s (s.updHead t index fun h => { h with crossed := true }))
      ∧ (∀ x, h.departed = false → h.departure = some x → after x s.localTime = false → (s.channel t).passage.closed = none →
        ((h.status ≠ .finished ∨ s.headBusy t index = true) →
          Completes (.headDeparted t index) s (s.updHead t index fun h => { h with departed := true }))
        ∧ (h.status = .finished → s.headBusy t index = false → s.InOrder t →
          s.store.records.length < 32 →
          ∃ u y all, Completes (.headDeparted t index) s u
            ∧ (u.channel t).heads = (s.channel t).heads.filter (fun h => h.index != index)
            ∧ s.InTurn u t [y] all [] ∧ u.offeredOf t = all
            ∧ (s.LinkIdle → s.store.records = [] → s.offeredOf t = [] →
              ∃ r : Record, r.body = .head y ∧ r.track = t ∧ Answers .fetchRecord [] u u .ok (1#8 :: r.bytes))
            ∧ y.IsOf (s.channel t).passage h y.status
            ∧ (h.cursor = none → y.status = .unbound)
            ∧ (h.cursor ≠ none → (∃ x ∈ h.shots, x.outcome = .takenLit ∨ x.outcome = .takenUnlit) → y.status = .captured)
            ∧ (h.cursor ≠ none → (∀ x ∈ h.shots, x.outcome ≠ .takenLit ∧ x.outcome ≠ .takenUnlit) → y.status = .noShot)))

/-! ## Plans and the action timeline (chapter 5) -/

/-- A timed head handed to a plan whose first step is AT p, with its due instant ahead, is SCHEDULED with one entry at the
first instant that reaches p, placed in order of due time, after equal ones (log entry 29); at anchor speed 0 it is HELD with
SPEED_HELD and no entry (R62, R85, R86, R90). Where the due instant does not lie ahead the wait completes at once (R86): late
by no more than the tolerance, the steps after it act, here a MARK (R89, R93); later than that they are skipped, here an
EXPOSE that makes a LATE shot and asks nobody and a MARK that makes no entry (R93, R94). The AFTER wait that follows counts
from now either way (R86). Stated of `startPlan`, which first timing calls. -/
def Obligations.FirstWaitIsScheduledOrHeld : Prop :=
  ∀ (s : State) (t : TrackId) (index : Nat) (h : Head) (a : Anchor) (p : Fin 4) (x : Int) (rest : List Step),
    let b := s.binding t (s.channel t).passage.direction
    let cursor := fun step => ({ plan := p, tolerance := b.tolerance, step := step } : Cursor)
    let due := if x * 1000 - a.position ≤ 0 then a.time
      else later a.time (ceilDiv ((x * 1000 - a.position).toNat * 1000) a.speed)
    let entry := fun step kind due =>
      ({ track := t, passage := (s.channel t).passage.number, index := index, step := step, kind := kind, due := due }
        : TimelineEntry)
    s.findHead t index = some h → h.anchor = some a → b.plan = some p → s.plans[p] = .atPos x :: rest →
    (a.speed = 0 →
      s.startPlan t index
        = s.updHead t index fun h => { h with cursor := some (cursor 0), status := .held, speedHeld := true })
    ∧ (0 < a.speed → after due s.localTime = true →
      ∃ timeline, Placed (entry 0 .atPos due) s.timeline timeline
        ∧ s.startPlan t index
          = { s.updHead t index fun h => { h with cursor := some (cursor 0), status := .scheduled } with
              timeline := timeline })
    ∧ ∀ (delay : Nat) (more : List Step), 0 < a.speed → after due s.localTime = false →
      (rest = .mark :: .after delay :: more → span due s.localTime ≤ b.tolerance →
        ∃ timeline, Placed (entry 2 .after (later s.localTime delay)) s.timeline timeline
          ∧ s.startPlan t index
            = { s.updHead t index fun h =>
                  { h with
                    cursor := some (cursor 2), status := .scheduled
                    marks := h.marks ++ [{ step := 1, instant := s.localTime }] } with
                timeline := timeline })
      ∧ ∀ (camera : Fin 8) (strobe : Option (Fin 6)), rest = .expose camera strobe :: .mark :: .after delay :: more →
        b.tolerance < span due s.localTime →
        ∃ timeline, Placed (entry 3 .after (later s.localTime delay)) s.timeline timeline
          ∧ s.startPlan t index
            = { s.updHead t index fun h =>
                  { h with
                    cursor := some (cursor 3), status := .scheduled
                    shots := h.shots ++
                      [{ step := 1, camera := camera, strobe := strobe, due := due, start := none, exposure := none,
                         outcome := .late, unlit := none, confirmation := .unsettled, clamped := false,
                         flashCut := false }] } with
                timeline := timeline }

/-- An entry that comes due leaves the timeline and the steps after its wait run (R87, R91). Here an EXPOSE step
followed by an AFTER wait: the camera answers by its state (R107); a READY one exposes for blur × 1,000 / speed within
its limits, the longest at speed 0 (R108); the strobe fires where it is READY, with no inhibit and no dark rehearsal,
for the exposure or its maximum pulse (R121), and the shot entry says what happened (R88, R114). The head then rests
SCHEDULED at the AFTER wait, due that much later (R86). Any run of EXPOSE and MARK steps acts step by step, as
`State.acts` spells it out: two EXPOSE steps of one camera are TAKEN and CAMERA_BUSY (R88, R89, R107). A run that comes
to an AFTER wait leaves the head SCHEDULED, due that much later; one that comes to an AT wait leaves it HELD at anchor
speed 0, SCHEDULED where the wait's due instant lies ahead, and otherwise goes on at once (R86; `arrive`, of which
FirstWaitIsScheduledOrHeld tells). An entry is placed after those with an equal due time: the model's choice (R90, log
entry 29). A run to the end of the plan leaves the head FINISHED, also while its camera works; it closes where it is
confirmed or departed and no camera works for it, and its record is stored (R70, R72, R87, log entry 35).
The command given for an entry that is not due does nothing (log entry 3). -/
def Obligations.EntryExpiryRunsItsSteps : Prop :=
  ∀ (s : State) (t : TrackId) (index : Nat),
    ((∀ e, s.findEntry t index = some e → after e.due s.localTime = true) → Completes (.timelineEntryExpiry t index) s s)
    ∧ (∀ (e : TimelineEntry) (h : Head) (k : Cursor) (camera : Fin 8) (strobe : Option (Fin 6)) (delay : Nat)
        (ahead rest : List Step),
      s.findEntry t index = some e → after e.due s.localTime = false → s.findHead t index = some h → h.cursor = some k →
      ahead.length = e.step + 1 → s.plans[k.plan] = ahead ++ .expose camera strobe :: .after delay :: rest →
      let step := e.step + 1
      let c := s.camera camera
      let shot : ShotRef := { track := t, passage := (s.channel t).passage.number, index := index, step := step }
      let speed := (h.anchor.map (·.speed)).getD 0
      let wanted := c.blur * 1000 / speed
      let exposure := if speed = 0 then c.exposureMax else max c.exposureMin (min c.exposureMax wanted)
      let clamped := decide (speed = 0 ∨ wanted < c.exposureMin ∨ c.exposureMax < wanted)
      let unlit := match strobe with
        | none => some UnlitReason.noStrobe
        | some x =>
          if s.inhibit then some .inhibited
          else if (s.channel t).mode = some .rehearsal ∧ (s.channel t).generator.liveStrobe = false then some .rehearsalDark
          else if (s.strobe x).state = .ready then none else some .strobeNotReady
      let next : TimelineEntry :=
        { track := t, passage := (s.channel t).passage.number, index := index, step := step + 1, kind := .after,
          due := s.localTime + BitVec.ofNat 48 delay }
      let advanced := fun (entry : Shot) (h : Head) =>
        { h with
          shots := h.shots ++ [entry], status := .scheduled, cursor := h.cursor.map fun k => { k with step := step + 1 } }
      let untaken := fun (outcome : ShotOutcome) =>
        ({ step := step, camera := camera, strobe := strobe, due := e.due, start := none, exposure := none,
           outcome := outcome, unlit := none, confirmation := .unsettled, clamped := false, flashCut := false } : Shot)
      let taken : Shot :=
        { step := step, camera := camera, strobe := strobe, due := e.due, start := some s.localTime,
          exposure := some exposure, outcome := if unlit = none then .takenLit else .takenUnlit, unlit := unlit,
          confirmation := .unsettled, clamped := clamped, flashCut := false }
      c.exposureMin ≤ c.exposureMax →
      ∃ u, Completes (.timelineEntryExpiry t index) s u
        ∧ u = { s with channels := u.channels, timeline := u.timeline, cameras := u.cameras, strobes := u.strobes }
        ∧ (∀ x, x ∈ u.timeline ↔ x = next ∨ (x ∈ s.timeline ∧ ¬(x.track = t ∧ x.index = index)))
        ∧ (c.state = .ready →
          u.channels = (s.updHead t index (advanced taken)).channels
          ∧ u.cameras = (s.updCamera camera fun c =>
              { c with state := .exposing shot exposure, ctrg := true, lastExposure := some s.ticks,
                       takenTotal := satSucc 4294967295 c.takenTotal }).cameras
          ∧ (∀ x, strobe = some x → unlit = none →
              u.strobes = (s.updStrobe x fun y =>
                { y with state := .firing shot (min exposure y.maxPulse) s.ticks, sfire := true }).strobes)
          ∧ (unlit ≠ none → u.strobes = s.strobes))
        ∧ (c.state ≠ .ready → u.cameras = s.cameras ∧ u.strobes = s.strobes
          ∧ ((c.state = .off ∨ ∃ since, c.state = .warming since) →
              u.channels = (s.updHead t index (advanced (untaken .notReady))).channels)
          ∧ (((∃ r n, c.state = .exposing r n) ∨ c.state = .recovering) →
              u.channels = (s.updHead t index (advanced (untaken .cameraBusy))).channels)
          ∧ (c.state = .failed → u.channels = (s.updHead t index (advanced (untaken .cameraFailed))).channels)))
    ∧ ∀ (e : TimelineEntry) (h : Head) (k : Cursor) (ahead run : List Step),
      s.findEntry t index = some e → after e.due s.localTime = false → s.findHead t index = some h → h.cursor = some k →
      ahead.length = e.step + 1 → (∀ x ∈ run, ¬x.IsWait) →
      (∀ i : Fin 8, (s.camera i).exposureMin ≤ (s.camera i).exposureMax) →
      let step := e.step + 1 + run.length
      let left := s.timeline.filter fun x => !(x.track == t && x.index == index)
      let acted := s.acts t index ((h.anchor.map (·.speed)).getD 0) e.due run (e.step + 1)
      let rested := fun (status : HeadStatus) (speedHeld : Bool) => acted.updHead t index fun h =>
        { h with
          status := status, speedHeld := speedHeld || h.speedHeld
          cursor := h.cursor.map fun k => { k with step := step } }
      let entry := fun kind due =>
        ({ track := t, passage := (s.channel t).passage.number, index := index, step := step, kind := kind, due := due }
          : TimelineEntry)
      (∀ (delay : Nat) (rest : List Step), s.plans[k.plan] = ahead ++ run ++ .after delay :: rest →
        ∃ timeline, Placed (entry .after (s.localTime + BitVec.ofNat 48 delay)) left timeline
          ∧ Completes (.timelineEntryExpiry t index) s { rested .scheduled false with timeline := timeline })
      ∧ (∀ (a : Anchor) (x : Int) (rest : List Step), s.plans[k.plan] = ahead ++ run ++ .atPos x :: rest →
        h.anchor = some a →
        let due := if x * 1000 - a.position ≤ 0 then a.time
          else later a.time (ceilDiv ((x * 1000 - a.position).toNat * 1000) a.speed)
        (a.speed = 0 → Completes (.timelineEntryExpiry t index) s { rested .held true with timeline := left })
        ∧ (0 < a.speed → after due s.localTime = true → ∃ timeline, Placed (entry .atPos due) left timeline
          ∧ Completes (.timelineEntryExpiry t index) s { rested .scheduled false with timeline := timeline })
        ∧ (0 < a.speed → after due s.localTime = false →
          Completes (.timelineEntryExpiry t index) s
            (State.arrive { acted with timeline := left } t index { k with step := step })))
      ∧ (s.plans[k.plan] = ahead ++ run → (s.channel t).passage.closed = none →
        (((h.confirmed = false ∧ h.departed = false) ∨ acted.headBusy t index = true) →
          Completes (.timelineEntryExpiry t index) s { rested .finished false with timeline := left })
        ∧ ((h.confirmed = true ∨ h.departed = true) → acted.headBusy t index = false → s.InOrder t →
          s.store.records.length < 32 →
          ∃ u given all, Completes (.timelineEntryExpiry t index) s u
            ∧ u = { acted with
                channels := u.channels, timeline := left, store := u.store, attention := u.attention, link := u.link }
            ∧ (u.channel t).heads = (acted.channel t).heads.filter (fun h => h.index != index)
            ∧ s.InTurn u t [given] all [] ∧ u.offeredOf t = all
            ∧ ∀ g, acted.findHead t index = some g → given.IsOf (s.channel t).passage g g.ordinaryStatus))

/-- In a passage that is not closing, a head that rests at a wait is retimed as its track takes a new speed above 0
(R48, R95): it is re-anchored where it stands, and its predicted crossing and its departed instant are recomputed (R52,
R54, R66). HELD or SCHEDULED at an AT wait it loses the entry it had, if any. Where the wait's position still lies ahead
it is SCHEDULED with one entry at the first instant that reaches it, and keeps SPEED_HELD; where the position has been
reached the wait completes at once, not late, and the run goes on, here with a MARK to an AFTER wait (R86, R89).
SCHEDULED at an AFTER wait it keeps its entry. Entries with equal due times keep their order (log entry 29). Stated of
`reanchorHead`, which each new estimate calls for each timed head. -/
def Obligations.MovingOnReleasesAHeldHead : Prop :=
  ∀ (s : State) (t : TrackId) (index v : Nat) (h : Head) (a : Anchor) (k : Cursor),
    let moved : Anchor := { time := s.localTime, position := a.positionAt s.localTime, speed := v }
    let crossing := moved.reaches 0
    let departure := moved.reaches (s.channel t).threshold
    let reanchored := fun (h : Head) =>
      { h with
        anchor := some moved
        predicted := crossing
        crossed := (crossing.map fun x => !after x s.localTime).getD false
        departure := departure
        departed := (departure.map fun x => !after x s.localTime).getD false }
    let left := s.timeline.filter fun e => !(e.track == t && e.index == index)
    let entry := fun step kind due =>
      ({ track := t, passage := (s.channel t).passage.number, index := index, step := step, kind := kind, due := due }
        : TimelineEntry)
    0 < v → (s.channel t).passage.closed = none → ((s.channel t).heads.map fun h => h.index).Nodup →
    s.findHead t index = some h → h.anchor = some a → h.cursor = some k → h.crossed = false → h.departed = false →
    (∀ (x : Int) (rest : List Step), (h.status = .held ∨ h.status = .scheduled) →
      s.plans[k.plan].drop k.step = .atPos x :: rest →
      let due := later s.localTime (ceilDiv ((x * 1000 - moved.position).toNat * 1000) v)
      (moved.position < x * 1000 → after due s.localTime = true →
        ∃ timeline, Placed (entry k.step .atPos due) left timeline
          ∧ s.reanchorHead t v index
            = { s.updHead t index fun h => { reanchored h with status := .scheduled } with timeline := timeline })
      ∧ ∀ (delay : Nat) (more : List Step), x * 1000 ≤ moved.position → rest = .mark :: .after delay :: more →
        ∃ timeline, Placed (entry (k.step + 2) .after (later s.localTime delay)) left timeline
          ∧ s.reanchorHead t v index
            = { s.updHead t index fun h =>
                  { reanchored h with
                    status := .scheduled, cursor := some { k with step := k.step + 2 }
                    marks := h.marks ++ [{ step := k.step + 1, instant := s.localTime }] } with
                timeline := timeline })
    ∧ ∀ (delay : Nat) (rest : List Step), h.status = .scheduled → s.plans[k.plan].drop k.step = .after delay :: rest →
      s.reanchorHead t v index = s.updHead t index reanchored

/-- LOAD PLAN stores a plan of 1 to 16 steps that begins with an AT wait, whose AT positions never fall, with at most 8
EXPOSE and 4 MARK steps, each step in range, unless a binding of a track in service names it; bytes that a step's kind
does not use may hold anything (R79, R80, R81, R186). A step of an unknown kind, a position beyond ±40,000 mm, a delay
of 0 or above 1,000,000 µs, and a camera, a presence or a strobe byte out of range are answered BAD_VALUE (R79, R80).
BIND PLAN binds a loaded plan, or none, to a direction of an OFFLINE track with a tolerance of at most 1,000 (R82, R83).
-/
def Obligations.PlansAreLoadedAndBound : Prop :=
  ∀ (s : State), s.LinkIdle →
    (∀ (body : List Byte) (steps : List Step), body.length = 2 + 6 * steps.length → field body 1 1 = steps.length →
      (∀ i (inside : i < steps.length), SpellsStep body i steps[i]) →
      let positions := steps.filterMap fun x => match x with | .atPos p => some p | _ => none
      let inRange := ∀ x ∈ steps, match x with
        | .atPos p => -40000 ≤ p ∧ p ≤ 40000
        | .after d => 1 ≤ d ∧ d ≤ 1000000
        | _ => True
      let shape := 1 ≤ steps.length ∧ steps.length ≤ 16 ∧ (∃ p rest, steps = .atPos p :: rest)
        ∧ positions.Pairwise (· ≤ ·)
        ∧ (steps.countP fun x => match x with | .expose _ _ => true | _ => false) ≤ 8
        ∧ (steps.countP fun x => match x with | .mark => true | _ => false) ≤ 4
      inRange → steps.length ≤ 41 →
      (4 ≤ field body 0 1 → Answers .loadPlan body s s .badValue [])
      ∧ ∀ p : Fin 4, field body 0 1 = p.val →
        Judged .loadPlan body s shape (∀ t d, (s.binding t d).plan = some p → (s.channel t).state = .offline)
          { s with plans := s.plans.set p steps } [])
    ∧ (∀ (body : List Byte) (i : Nat), body.length = 2 + 6 * field body 1 1 → body.length ≤ 248 → i < field body 1 1 →
      let base := 2 + 6 * i
      let kind := field body base 1
      (kind = 0 ∨ 4 < kind
        ∨ (kind = 1 ∧ (fieldInt body (base + 1) 4 < -40000 ∨ 40000 < fieldInt body (base + 1) 4))
        ∨ (kind = 2 ∧ (field body (base + 1) 4 = 0 ∨ 1000000 < field body (base + 1) 4))
        ∨ (kind = 3 ∧ (7 < field body (base + 1) 1 ∨ 1 < field body (base + 2) 1
            ∨ (field body (base + 2) 1 = 1 ∧ 5 < field body (base + 3) 1)))) →
      Answers .loadPlan body s s .badValue [])
    ∧ (∀ body : List Byte, body.length = 6 →
      (¬(field body 0 1 = 1 ∨ field body 0 1 = 2) ∨ 1 < field body 1 1) → Answers .bindPlan body s s .badValue [])
    ∧ ∀ (t : TrackId) (d : Direction) (present number : Byte) (tolerance : Nat), tolerance < 65536 →
      let body := [BitVec.ofNat 8 (trackCode t), BitVec.ofNat 8 (directionCode d), present, number] ++ toBytes 2 tolerance
      let plan := if present = 0#8 then none else planOfCode number.toNat
      Judged .bindPlan body s
        (present.toNat ≤ 1 ∧ (present = 1#8 → ∃ p : Fin 4, number.toNat = p.val ∧ s.plans[p] ≠ []) ∧ tolerance ≤ 1000)
        ((s.channel t).state = .offline)
        { s with bindings := s.bindings.set t ((s.bindings.get t).set d { plan := plan, tolerance := tolerance }) } []

/-- The bytes of a plan step in range spell that step again, in 6 bytes (R186); so READ PLAN and LOAD PLAN agree. -/
def Obligations.PlanStepsSurviveTheirBytes : Prop :=
  ∀ steps : List Step,
    (∀ x ∈ steps, match x with
      | .atPos p => -40000 ≤ p ∧ p ≤ 40000
      | .after d => 1 ≤ d ∧ d ≤ 1000000
      | .expose _ _ => True
      | .mark => True) →
    (steps.flatMap Step.bytes).length = 6 * steps.length
    ∧ stepsOfBytes steps.length (steps.flatMap Step.bytes) = some steps

/-! ## Cameras (chapter 6) -/

/-- The trigger release comes when the exposure has elapsed: CTRG low, RECOVERING, and the window opens (R109, R110). The end
of recovery comes one recovery interval after the exposure started (R109), the end of warm-up when the warm-up and a recovery
interval since the last exposure are over (R105). Given before its instant, none of the three commands does anything (log
entry 3). -/
def Obligations.CameraTimersRunOut : Prop :=
  ∀ (s : State) (i : Fin 8),
    let c := s.camera i
    (∀ shot e since, c.state = .exposing shot e → c.lastExposure = some since →
      (since + e ≤ s.ticks → Completes (.triggerRelease i) s (s.updCamera i fun c =>
        { c with state := .recovering, ctrg := false, confirm := some { shot := shot, closes := s.ticks + c.windowLength } }))
      ∧ (s.ticks < since + e → Completes (.triggerRelease i) s s))
    ∧ ((∀ shot e, c.state ≠ .exposing shot e) → Completes (.triggerRelease i) s s)
    ∧ (∀ since, c.state = .recovering → c.lastExposure = some since →
      (since + c.recovery ≤ s.ticks → Completes (.recoveryEnd i) s (s.updCamera i fun c => { c with state := .ready }))
      ∧ (s.ticks < since + c.recovery → Completes (.recoveryEnd i) s s))
    ∧ (c.state ≠ .recovering → Completes (.recoveryEnd i) s s)
    ∧ (∀ since, c.state = .warming since →
      let elapsed := since + c.warmUp * 1000 ≤ s.ticks ∧ ∀ e, c.lastExposure = some e → e + c.recovery ≤ s.ticks
      (elapsed → Completes (.warmUpEnd i) s (s.updCamera i fun c => { c with state := .ready }))
      ∧ (¬elapsed → Completes (.warmUpEnd i) s s))
    ∧ ((∀ since, c.state ≠ .warming since) → Completes (.warmUpEnd i) s s)

/-- A leading edge at CDONE closes an open window with CONFIRMED, and is ignored without one; a window that runs out
closes with NO_RETURN, and the third in a row fails the camera, READY again or not: CPWR low, FAILED, CAMERA_FAULT
latched, a shot it still exposes for ABORTED (R110, R115). CONFIRMATION_WINDOW_EXPIRY given before its instant does
nothing (log entry 3). The result is handed to the shot it judges while that shot's head is open, and the head closes
where that was its last condition; a head that has closed gets nothing (R70, R111). In a closing passage the last result
closes the last head, and the passage with it (R14, R16), unless the clear interval ran out at this very instant: the
passage then stays closing, its last step to come (log entry 37). A head that closes late in a closing passage is judged
by its crossed flag at its own close (R71): the model's reading (log entry 16). Two windows that run out at one instant
in a closing passage, or have their returns at one instant in an open one, give their heads' records in detection order,
whichever is taken first (R14, R72, log entry 35); the store holds the later head's record once only, as a head closes
once. -/
def Obligations.WindowsCloseWithAResult : Prop :=
  (∀ (s : State) (i : Fin 8), (s.camera i).confirm = none →
    Completes (.cdoneEdge i) s s ∧ Completes (.confirmationWindowExpiry i) s s)
  ∧ (∀ (s : State) (i : Fin 8) (w : ConfirmWindow), (s.camera i).confirm = some w →
    let run := (s.camera i).noReturnRun
    let answered := s.updCamera i fun c =>
      { c with confirm := none, noReturnRun := 0, confirmedTotal := satSucc 4294967295 c.confirmedTotal }
    let missed := s.updCamera i fun c =>
      { c with confirm := none, noReturnRun := run + 1, noReturnTotal := satSucc 4294967295 c.noReturnTotal }
    let failed := missed.updCamera i fun c => { c with state := .failed, cpwr := false, ctrg := false }
    Completes (.cdoneEdge i) s (answered.handOver w.shot .confirmed)
    ∧ (s.ticks < w.closes → Completes (.confirmationWindowExpiry i) s s)
    ∧ (w.closes ≤ s.ticks → run + 1 < 3 →
      Completes (.confirmationWindowExpiry i) s (missed.handOver w.shot .noReturn))
    ∧ (w.closes ≤ s.ticks → run + 1 = 3 → (∀ other e, (s.camera i).state ≠ .exposing other e) →
      Completes (.confirmationWindowExpiry i) s ((failed.handOver w.shot .noReturn).latch .cameraFault))
    ∧ ∀ other e, w.closes ≤ s.ticks → run + 1 = 3 → (s.camera i).state = .exposing other e →
      Completes (.confirmationWindowExpiry i) s
        ((failed.handOverBoth w.shot .noReturn other .aborted).latch .cameraFault))
  ∧ (∀ (s : State) (r : ShotRef) (result : Confirmation),
    (((s.channel r.track).state ≠ .passage ∨ (s.channel r.track).passage.number ≠ r.passage
        ∨ s.findHead r.track r.index = none) →
      s.handOver r result = s
      ∧ ∀ q second, s.handOverBoth r result q second = s.handOver q second
        ∧ s.handOverBoth q second r result = s.handOver q second)
    ∧ ∀ h, (s.channel r.track).state = .passage → (s.channel r.track).passage.number = r.passage →
      s.findHead r.track r.index = some h →
      let settled := { h with shots := h.shots.map fun x => if x.step = r.step then { x with confirmation := result } else x }
      let noted := s.updHead r.track r.index fun h =>
        { h with shots := h.shots.map fun x => if x.step = r.step then { x with confirmation := result } else x }
      ((s.channel r.track).passage.closed = none →
        ((h.status ≠ .finished ∨ (h.confirmed = false ∧ h.departed = false) ∨ s.headBusy r.track r.index = true) →
          s.handOver r result = noted
          ∧ ∀ q second g, (s.channel q.track).state = .passage → (s.channel q.track).passage.number = q.passage →
            (s.channel q.track).passage.closed = none → s.findHead q.track q.index = some g → g.status ≠ .finished →
            s.handOverBoth r result q second = noted.handOver q second)
        ∧ (h.status = .finished → (h.confirmed = true ∨ h.departed = true) → s.headBusy r.track r.index = false →
          s.InOrder r.track → s.store.records.length < 32 →
          ∃ given all, s.InTurn (s.handOver r result) r.track [given] all []
            ∧ (s.handOver r result).offeredOf r.track = all
            ∧ given.IsOf (s.channel r.track).passage settled settled.ordinaryStatus
            ∧ ((s.handOver r result).channel r.track).heads
              = (s.channel r.track).heads.filter fun h => h.index != r.index))
      ∧ ∀ x, (s.channel r.track).passage.closed = some x → (s.channel r.track).heads = [h] →
        s.headBusy r.track r.index = false → s.InOrder r.track →
        s.store.records.length + 2 ≤ 32 →
        ∃ given all, given.IsOf (s.channel r.track).passage settled settled.passageCloseStatus
          ∧ ((s.handOver r result).channel r.track).heads = []
          ∧ ((s.channel r.track).closingSince ≠ some s.ticks →
            ∃ last p, s.InTurn (s.handOver r result) r.track [given] all [last]
              ∧ (s.handOver r result).offeredOf r.track = []
              ∧ last.track = r.track ∧ last.body = .passage p ∧ p.number = r.passage ∧ p.closed = x
              ∧ ((s.handOver r result).channel r.track).state = .idle)
          ∧ ((s.channel r.track).closingSince = some s.ticks →
            s.InTurn (s.handOver r result) r.track [given] all [] ∧ (s.handOver r result).offeredOf r.track = all
            ∧ ((s.handOver r result).channel r.track).state = .passage
            ∧ ((s.handOver r result).channel r.track).passage.closed = some x))
  ∧ (∀ (s : State) (t : TrackId) (g h : Head) (i j : Fin 8) (w v : ConfirmWindow),
    let c := s.channel t
    let returns := fun (k : Fin 8) (w : ConfirmWindow) (h : Head) =>
      (s.camera k).confirm = some w ∧ (s.camera k).state = .recovering
      ∧ w.shot.track = t ∧ w.shot.passage = c.passage.number ∧ w.shot.index = h.index
      ∧ ∀ m, ∀ r ∈ (s.camera m).openShots, r.track = t → r.passage = c.passage.number → r.index = h.index → m = k
    let settled := fun (h : Head) (w : ConfirmWindow) =>
      { h with shots := h.shots.map fun x => if x.step = w.shot.step then { x with confirmation := .confirmed } else x }
    let ready := fun (h : Head) => h.status = .finished ∧ (h.confirmed = true ∨ h.departed = true)
    c.Counting → c.heads = [g, h] → s.InOrder t → ready g → ready h → i ≠ j → returns i w g → returns j v h →
    s.store.records.length + 2 ≤ 32 → ¬s.Holds t c.passage (settled h v) (settled h v).ordinaryStatus →
    ∀ order, (order = [i, j] ∨ order = [j, i]) →
      ∃ u first second all, runAll (order.map fun k => .cdoneEdge k) s = .next u
        ∧ first.IsOf c.passage (settled g w) (settled g w).ordinaryStatus
        ∧ second.IsOf c.passage (settled h v) (settled h v).ordinaryStatus
        ∧ s.InTurn u t [first, second] all [] ∧ u.offeredOf t = all ∧ (u.channel t).heads = [])
  ∧ ∀ (s : State) (t : TrackId) (x : LocalTime) (g h : Head) (i j : Fin 8) (w v : ConfirmWindow),
    let c := s.channel t
    let ends := fun (k : Fin 8) (w : ConfirmWindow) (h : Head) =>
      (s.camera k).confirm = some w ∧ w.closes ≤ s.ticks ∧ (s.camera k).noReturnRun + 1 < 3
      ∧ (s.camera k).state = .recovering ∧ w.shot.track = t ∧ w.shot.passage = c.passage.number ∧ w.shot.index = h.index
      ∧ ∀ m, ∀ r ∈ (s.camera m).openShots, r.track = t → r.passage = c.passage.number → r.index = h.index → m = k
    let settled := fun (h : Head) (w : ConfirmWindow) =>
      { h with shots := h.shots.map fun x => if x.step = w.shot.step then { x with confirmation := .noReturn } else x }
    c.state = .passage → c.passage.closed = some x → c.heads = [g, h] → s.InOrder t → i ≠ j →
    ends i w g → ends j v h → s.store.records.length + 3 ≤ 32 →
    ¬s.Holds t c.passage (settled h v) (settled h v).passageCloseStatus →
    ∀ order, (order = [i, j] ∨ order = [j, i]) →
      ∃ u first second all, runAll (order.map fun k => .confirmationWindowExpiry k) s = .next u
        ∧ first.IsOf c.passage (settled g w) (settled g w).passageCloseStatus
        ∧ second.IsOf c.passage (settled h v) (settled h v).passageCloseStatus
        ∧ (c.closingSince ≠ some s.ticks → ∃ last p, s.InTurn u t [first, second] all [last] ∧ u.offeredOf t = []
          ∧ last.track = t ∧ last.body = .passage p ∧ (u.channel t).state = .idle)
        ∧ (c.closingSince = some s.ticks → s.InTurn u t [first, second] all [] ∧ u.offeredOf t = all
          ∧ (u.channel t).state = .passage ∧ (u.channel t).heads = [])

/-- SET CAMERA stores seven settings in range where the camera's track and the track named are OFFLINE, none counting as
OFFLINE (R102); RESET CAMERA clears the run of NO_RETURN and takes a FAILED camera to OFF, or on to WARMING while its
track is awake (R112); SET STROBE stores three figures in range where no plan of a track in service names the strobe
(R117). -/
def Obligations.CamerasAndStrobesAreSet : Prop :=
  ∀ (s : State) (body : List Byte), s.LinkIdle →
    (body.length = 18 →
      (8 ≤ field body 0 1 → Answers .setCamera body s s .badValue [])
      ∧ ∀ i : Fin 8, field body 0 1 = i.val →
        Judged .setCamera body s
          (field body 1 1 ≤ 2 ∧ 100 ≤ field body 2 2 ∧ field body 2 2 ≤ 20000 ∧ 2 ≤ field body 4 2 ∧ field body 4 2 ≤ 1000
            ∧ field body 4 2 ≤ field body 6 2 ∧ field body 6 2 ≤ 5000 ∧ 1000 ≤ field body 8 4 ∧ field body 8 4 ≤ 1000000
            ∧ field body 12 2 ≤ 10000 ∧ 10 ≤ field body 14 4 ∧ field body 14 4 ≤ 100000
            ∧ field body 14 4 + field body 6 2 ≤ field body 8 4)
          ((∀ t, (s.camera i).track = some t → (s.channel t).state = .offline)
            ∧ ∀ t, field body 1 1 = trackCode t → (s.channel t).state = .offline)
          (s.updCamera i fun c =>
            { c with
              track := if field body 1 1 = 1 then some .t1 else if field body 1 1 = 2 then some .t2 else none
              blur := field body 2 2, exposureMin := field body 4 2, exposureMax := field body 6 2
              recovery := field body 8 4, warmUp := field body 12 2, windowLength := field body 14 4 }) [])
    ∧ (body.length = 1 →
      (8 ≤ field body 0 1 → Answers .resetCamera body s s .badValue [])
      ∧ ∀ i : Fin 8, field body 0 1 = i.val →
        let c := s.camera i
        let awake := ∃ t, c.track = some t ∧ ((s.channel t).state = .idle ∨ (s.channel t).state = .passage)
        let warm := c.warmUp = 0 ∧ ∀ e, c.lastExposure = some e → e + c.recovery ≤ s.ticks
        let answered := fun (x : Camera) => Answers .resetCamera body s (s.updCamera i fun _ => x) .ok []
        (c.state ≠ .failed → answered { c with noReturnRun := 0 })
        ∧ (c.state = .failed → ¬awake → answered { c with noReturnRun := 0, state := .off })
        ∧ (c.state = .failed → awake → ¬warm → answered { c with noReturnRun := 0, state := .warming s.ticks, cpwr := true })
        ∧ (c.state = .failed → awake → warm → answered { c with noReturnRun := 0, state := .ready, cpwr := true }))
    ∧ (body.length = 9 →
      (6 ≤ field body 0 1 → Answers .setStrobe body s s .badValue [])
      ∧ ∀ x : Fin 6, field body 0 1 = x.val →
        Judged .setStrobe body s
          (1000 ≤ field body 1 4 ∧ field body 1 4 ≤ 1000000 ∧ field body 5 2 ≤ 4000 ∧ 2 ≤ field body 7 2
            ∧ field body 7 2 ≤ 2000)
          (∀ t d p camera, (s.channel t).state ≠ .offline → (s.binding t d).plan = some p →
            Step.expose camera (some x) ∉ s.plans[p])
          (s.updStrobe x fun y => { y with base := field body 1 4, factor := field body 5 2, maxPulse := field body 7 2 }) [])

/-! ## Strobes, the charger and the inhibit (chapter 7) -/

/-- A strobe whose pulse has elapsed is EMPTY with that pulse as its last, and joins the charge queue (R121, R126).
While another pulse ends at the same instant that is all (R128, log entry 19); otherwise a free charger takes the member
that stands ahead of every other in the order of R127, `chargesBefore`. A charge that has run its duration leaves its
strobe READY; the member that stands ahead of every other starts the next charge, base + factor × last pulse ticks long,
or CHG_EN goes low and CHG_SEL to 0 (R127, R128, R129). That the join instant, which orders the members without a need
time, is the tick count is the model's choice (log entry 31). Given before its instant, neither command does anything
(log entry 3). -/
def Obligations.StrobesFireAndCharge : Prop :=
  (∀ (s : State) (x : Fin 6),
    ((∀ shot pulse since, (s.strobe x).state = .firing shot pulse since → s.ticks < since + pulse) →
      Completes (.strobePulseEnd x) s s)
    ∧ ∀ shot pulse since, (s.strobe x).state = .firing shot pulse since → since + pulse ≤ s.ticks →
      (s.charger ≠ none →
        Completes (.strobePulseEnd x) s
          { s.updStrobe x fun y => { y with state := .empty, sfire := false, lastPulse := some pulse } with
            chargeQueue := s.chargeQueue ++ [{ strobe := x, joined := s.ticks }] })
      ∧ (s.charger = none → s.chargeQueue = [] →
        (∀ y r p n, y ≠ x → (s.strobe y).state = .firing r p n → s.ticks < n + p) →
        Completes (.strobePulseEnd x) s
          { s.updStrobe x fun y => { y with state := .charging, sfire := false, lastPulse := some pulse } with
            chargeQueue := []
            charger :=
              some { strobe := x, completes := s.ticks + ((s.strobe x).base + (s.strobe x).factor * pulse),
                     joins := some s.ticks }
            chgEn := true
            chgSel := BitVec.ofNat 3 x.val })
      ∧ (let emptied := s.updStrobe x fun y => { y with state := .empty, sfire := false, lastPulse := some pulse }
         let joined := s.chargeQueue ++ [{ strobe := x, joined := s.ticks }]
         s.charger = none →
          ((∃ y r p n, y ≠ x ∧ (s.strobe y).state = .firing r p n ∧ n + p ≤ s.ticks) →
            Completes (.strobePulseEnd x) s { emptied with chargeQueue := joined })
          ∧ ∀ m ∈ joined, (∀ k ∈ joined, k ≠ m → s.chargesBefore m k = true ∧ s.chargesBefore k m = false) →
            (∀ y r p n, y ≠ x → (s.strobe y).state = .firing r p n → s.ticks < n + p) →
            let y := emptied.strobe m.strobe
            Completes (.strobePulseEnd x) s
              { emptied.updStrobe m.strobe fun y => { y with state := .charging } with
                chargeQueue := joined.filter fun k => k.strobe != m.strobe
                charger :=
                  some { strobe := m.strobe, completes := s.ticks + (y.base + y.factor * y.lastPulse.getD y.maxPulse),
                         joins := some s.ticks }
                chgEn := true
                chgSel := BitVec.ofNat 3 m.strobe.val }))
  ∧ ∀ s : State,
    ((∀ c, s.charger = some c → s.ticks < c.completes) → Completes .chargeCompletion s s)
    ∧ ∀ c, s.charger = some c → c.completes ≤ s.ticks →
      (s.chargeQueue = [] →
        Completes .chargeCompletion s
          { s.updStrobe c.strobe fun y => { y with state := .ready } with
            charger := none, chgEn := false, chgSel := 0#3 })
      ∧ ∀ ahead m behind, s.chargeQueue = ahead ++ m :: behind → m.strobe ≠ c.strobe →
        (∀ k ∈ ahead ++ behind, s.chargesBefore m k = true ∧ s.chargesBefore k m = false) →
        let y := s.strobe m.strobe
        Completes .chargeCompletion s
          { (s.updStrobe c.strobe fun y => { y with state := .ready }).updStrobe m.strobe fun y =>
              { y with state := .charging } with
            chargeQueue := s.chargeQueue.filter fun k => k.strobe != m.strobe
            charger :=
              some { strobe := m.strobe, completes := s.ticks + (y.base + y.factor * y.lastPulse.getD y.maxPulse),
                     joins := none }
            chgEn := true
            chgSel := BitVec.ofNat 3 m.strobe.val }

/-- The inhibit is active exactly while an enabled input is at its active level, re-formed at each edge of an input and
at each accepted SET INHIBIT (R123, R124). Where it becomes active every FIRING strobe is cut: SFIRE low, EMPTY with the
ticks it ran as last pulse, in the charge queue, and FLASH_CUT on its shot while the head is open; cameras run on
(R122). A charge that was running already runs on. Where the charger is free, or took its charge for strobes that joined
at this same instant, all that join at this instant are in the queue before the choice, and the member that stands ahead
of every other is charged (R127, R128, log entry 19). That the join instant, which orders the members without a need
time, is the tick count is the model's choice (log entry 31). -/
def Obligations.InhibitCutsFiringStrobes : Prop :=
  ∀ (s : State),
    let formed := fun (v : Vector InhibitInput 4) => decide (∃ i : Fin 4, v[i].enabled = true ∧ v[i].level = v[i].activeHigh)
    let quiet := fun (v : Vector InhibitInput 4) =>
      formed v = false ∨ s.inhibit = true ∨ ∀ x r p n, (s.strobe x).state ≠ .firing r p n
    let reopened := match s.charger with
      | some c => if c.joins = some s.ticks then [c.strobe] else []
      | none => []
    let emptied := fun (x : Fin 6) =>
      match (s.strobe x).state with
      | .firing _ _ n => { s.strobe x with state := .empty, sfire := false, lastPulse := some (s.ticks - n) }
      | _ => if x ∈ reopened then { s.strobe x with state := .empty, sfire := false } else s.strobe x
    let joining := reopened ++ allStrobes.filter fun x =>
      match (s.strobe x).state with
      | .firing _ _ _ => true
      | _ => false
    let joined := s.chargeQueue ++ joining.map fun x => { strobe := x, joined := s.ticks }
    let flashes := fun (u : State) => ∀ x r p n, (s.strobe x).state = .firing r p n → s.shotHeadOpen r = true →
      ∃ h, u.findHead r.track r.index = some h ∧ ∀ y ∈ h.shots, y.step = r.step → y.flashCut = true
    let cut := fun (v : Vector InhibitInput 4) (u : State) =>
      u = { s with
          inhibits := v, inhibit := true, channels := u.channels, strobes := u.strobes, chargeQueue := joined }
      ∧ flashes u ∧ ∀ x, u.strobe x = emptied x
    let charged := fun (v : Vector InhibitInput 4) (m : QueueMember) (u : State) =>
      let y := emptied m.strobe
      u = { s with
          inhibits := v, inhibit := true, channels := u.channels, strobes := u.strobes
          chargeQueue := joined.filter fun k => k.strobe != m.strobe
          charger :=
            some { strobe := m.strobe, completes := s.ticks + (y.base + y.factor * y.lastPulse.getD y.maxPulse),
                   joins := some s.ticks }
          chgEn := true
          chgSel := BitVec.ofNat 3 m.strobe.val }
      ∧ flashes u ∧ ∀ x, u.strobe x = if x = m.strobe then { emptied x with state := .charging } else emptied x
    let busy := ∃ c, s.charger = some c ∧ c.joins ≠ some s.ticks
    let chosen := fun (m : QueueMember) => m ∈ joined
      ∧ ∀ k ∈ joined, k ≠ m → s.chargesBefore m k = true ∧ s.chargesBefore k m = false
    (∀ c, s.charger = some c → (s.strobe c.strobe).state = .charging) →
    (∀ (i : Fin 4) (high : Bool),
      let v := s.inhibits.set i { s.inhibits[i] with level := high }
      (quiet v → Completes (.inhibitInputEdge i high) s { s with inhibits := v, inhibit := formed v })
      ∧ (¬quiet v →
        (busy → ∃ u, Completes (.inhibitInputEdge i high) s u ∧ cut v u)
        ∧ (¬busy → ∀ m, chosen m → ∃ u, Completes (.inhibitInputEdge i high) s u ∧ charged v m u)))
    ∧ ∀ body : List Byte, s.LinkIdle → body.length = 8 →
      ((∃ b ∈ body, 1 < b.toNat) → Answers .setInhibit body s s .badValue [])
      ∧ ∀ v : Vector InhibitInput 4, (∀ b ∈ body, b.toNat ≤ 1) →
        (∀ i : Fin 4, v[i] =
          { level := s.inhibits[i].level, enabled := decide (field body (2 * i.val) 1 = 1),
            activeHigh := decide (field body (2 * i.val + 1) 1 = 1) }) →
        (quiet v → Answers .setInhibit body s { s with inhibits := v, inhibit := formed v } .ok [])
        ∧ (¬quiet v →
          (busy → ∃ u, Answers .setInhibit body s u .ok [] ∧ cut v u)
          ∧ (¬busy → ∀ m, chosen m → ∃ u, Answers .setInhibit body s u .ok [] ∧ charged v m u))

/-! ## The record store (chapter 11) -/

/-- FETCH RECORD reports the number of records and the oldest one and leaves it in the store, or answers EMPTY (R170).
A record is sent as its 11-byte header and its body, a HEAD record with 18 bytes for each shot and 7 for each mark, a PASSAGE
record in 44 bytes, each field at the offset and with the code that R186 gives it. RELEASE RECORD takes a held record from
wherever it stands, the others keeping their order, and answers NOT_FOUND for a number that none carries and BAD_VALUE for 0
(R171). -/
def Obligations.RecordsAreFetchedAndReleased : Prop :=
  (∀ r : Record,
    (∀ h, r.body = .head h →
      r.bytes.length = 53 + 18 * h.shots.length + 7 * h.marks.length
      ∧ SpellsHeader r.bytes r 1 ∧ SpellsHead r.bytes h r.displaced)
    ∧ ∀ p, r.body = .passage p → r.bytes.length = 55 ∧ SpellsHeader r.bytes r 2 ∧ SpellsPassage r.bytes p)
  ∧ ([FinalStatus.captured, .noShot, .missed, .cancelled, .unbound].map FinalStatus.code = [0, 1, 2, 3, 4]
    ∧ [ShotOutcome.takenLit, .takenUnlit, .notReady, .cameraBusy, .cameraFailed, .late].map ShotOutcome.code
      = [0, 1, 2, 3, 4, 5]
    ∧ [UnlitReason.noStrobe, .inhibited, .strobeNotReady, .rehearsalDark].map UnlitReason.code = [0, 1, 2, 3]
    ∧ [Confirmation.unsettled, .confirmed, .noReturn, .aborted].map Confirmation.code = [0, 1, 2, 3]
    ∧ [PassageOutcome.normal, .reversed, .conflict, .aborted].map PassageOutcome.code = [0, 1, 2, 3]
    ∧ [PairState.normal, .slipped, .out].map PairState.code = [0, 1, 2])
  ∧ ∀ s : State, s.LinkIdle →
    (s.store.records = [] → Answers .fetchRecord [] s s .empty [])
    ∧ (∀ oldest rest, s.store.records = oldest :: rest →
      Answers .fetchRecord [] s s .ok (BitVec.ofNat 8 s.store.records.length :: oldest.bytes))
    ∧ ∀ body : List Byte, body.length = 2 →
      let number := field body 0 2
      (number = 0 → Answers .releaseRecord body s s .badValue [])
      ∧ (number ≠ 0 → (∀ r ∈ s.store.records, r.number ≠ number) → Answers .releaseRecord body s s .notFound [])
      ∧ ∀ ahead record behind, number ≠ 0 → s.store.records = ahead ++ record :: behind → record.number = number →
        (s.store.records.map fun r => r.number).Nodup →
        Answers .releaseRecord body s { s with store := { s.store with records := ahead ++ behind } } .ok []

/-- SET STORE (R172), SET HEALTH (R140) and REJOIN SENSOR (R142) are accepted in every state of both tracks: the policy and
the threshold, the auto-rejoin switch, and full trust for one sensor with its totals kept and no event latched. -/
def Obligations.StoreAndHealthAreSet : Prop :=
  ∀ (s : State) (body : List Byte), s.LinkIdle →
    (body.length = 2 →
      Judged .setStore body s (field body 0 1 ≤ 1 ∧ 1 ≤ field body 1 1 ∧ field body 1 1 ≤ 32) True
        { s with
          store := { s.store with
            policy := if field body 0 1 = 0 then .keep else .replace, threshold := field body 1 1 } } [])
    ∧ (body.length = 1 →
      Judged .setHealth body s (field body 0 1 ≤ 1) True { s with autoRejoin := decide (field body 0 1 = 1) } [])
    ∧ (body.length = 1 →
      (12 ≤ field body 0 1 → Answers .rejoinSensor body s s .badValue [])
      ∧ ∀ i : Fin 12, field body 0 1 = i.val →
        Answers .rejoinSensor body s
          (s.updHealth i fun h => { h with score := 0, progress := 0, state := .normal }) .ok [])

/-- A record offered to a store with room joins its tail (R168) with the first number from the next one on that no held
record carries (R167), and STORE_LEVEL is latched exactly where the count rises to the threshold. At 32 records KEEP discards
it, counting a HEAD record as lost, and REPLACE displaces the oldest and marks the newcomer; both latch STORE_LOSS (R169).
Of an offer and another event at one instant either may be taken first (R174): the other track's offer, a RELEASE RECORD
with the store full, a SET STORE that changes the policy or the threshold, and a FETCH RECORD with the store empty, each
with the outcome of its order. A close offers its record as it comes, so that these are the orders of the events and
commands of an instant; what it changes where an earlier head closes later at that instant is told with the closes. -/
def Obligations.OffersFillTheStore : Prop :=
  ∀ (s : State) (t : TrackId) (body : RecordBody), s.store.Good →
    let st := s.store
    let stored := fun (u : State) (kept : List Record) (displaced : Bool) =>
      ∃ n k, u.store =
          { st with
            records := kept ++ [{ number := n, track := t, stored := s.localTime, displaced := displaced, body := body }]
            nextNumber := if n = 65535 then 1 else n + 1 }
        ∧ n = nextRecordNumber^[k] st.nextNumber ∧ (∀ r ∈ kept, r.number ≠ n)
        ∧ ∀ j, j < k → ∃ r ∈ kept, r.number = nextRecordNumber^[j] st.nextNumber
    let u := s.offer t body
    (st.records.length < 32 → stored u st.records false
      ∧ (st.records.length + 1 = st.threshold → u = { s with store := u.store }.latch .storeLevel)
      ∧ (st.records.length + 1 ≠ st.threshold → u = { s with store := u.store }))
    ∧ (st.records.length = 32 → st.policy = .keep →
      (∀ r, body = .head r → u = (s.updPassage t fun p => { p with lost := satSucc 255 p.lost }).latch .storeLoss)
      ∧ (∀ r, body = .passage r → u = s.latch .storeLoss))
    ∧ (st.records.length = 32 → st.policy = .replace →
      stored u st.records.tail true ∧ u = { s with store := u.store }.latch .storeLoss)
    ∧ (∀ other, st.records.length + 2 ≤ 32 → ∃ x y, (u.offer (otherTrack t) other).store.records = st.records ++ [x, y]
      ∧ x.track = t ∧ x.body = body ∧ y.track = otherTrack t ∧ y.body = other)
    ∧ (s.LinkIdle →
      (st.records = [] → Answers .fetchRecord [] s s .empty []
        ∧ ∃ x : Record, x.track = t ∧ x.body = body ∧ Answers .fetchRecord [] u u .ok (1#8 :: x.bytes))
      ∧ (∀ request ahead r behind, st.records.length = 32 → request.length = 2 → field request 0 2 = r.number →
        st.records = ahead ++ r :: behind →
        let freed : State := { s with store := { st with records := ahead ++ behind } }
        Answers .releaseRecord request s freed .ok []
        ∧ (∃ x, (freed.offer t body).store.records = ahead ++ behind ++ [x] ∧ x.body = body ∧ x.displaced = false
          ∧ (freed.offer t body).attention
            = if st.threshold = 32 then (s.latch .storeLevel).attention else s.attention)
        ∧ (st.policy = .keep → Answers .releaseRecord request u { u with store := freed.store } .ok [])
        ∧ (st.policy = .replace → ∃ x : Record, x.body = body ∧ x.displaced = true
          ∧ (∀ y rest, ahead = y :: rest → Answers .releaseRecord request u
            { u with store := { u.store with records := rest ++ behind ++ [x] } } .ok [])
          ∧ (ahead = [] → x.number ≠ r.number → Answers .releaseRecord request u u .notFound [])))
      ∧ ∀ request, request.length = 2 → field request 0 1 ≤ 1 → 1 ≤ field request 1 1 → field request 1 1 ≤ 32 →
        let set := fun v : State =>
          { v with
            store := { v.store with
              policy := if field request 0 1 = 0 then .keep else .replace, threshold := field request 1 1 } }
        let w := (set s).offer t body
        Answers .setStore request u (set u) .ok [] ∧ Answers .setStore request s (set s) .ok []
        ∧ (st.records.length = 32 → field request 0 1 = 0 → w.store = (set s).store)
        ∧ (st.records.length = 32 → field request 0 1 = 1 →
          ∃ x, w.store.records = st.records.tail ++ [x] ∧ x.body = body ∧ x.displaced = true)
        ∧ (st.records.length < 32 →
          (st.records.length + 1 = field request 1 1 → w = { set s with store := w.store }.latch .storeLevel)
          ∧ (st.records.length + 1 ≠ field request 1 1 → w = { set s with store := w.store })))

/-! ## Sensor health (chapter 8) -/

/-- Fault and good events (R134 to R137): a fault adds 8 to the score, a good event takes 1, within 0 to 255; the state
follows the score at 96 and 128, with SENSOR_DEGRADED latched on entry to DEGRADED from NORMAL and SENSOR_EXCLUDED on
entry to EXCLUDED. An EXCLUDED sensor keeps its score; the totals rise in every state. -/
def Obligations.FaultAndGoodEventsMoveTheScore : Prop :=
  ∀ (s : State) (i : Fin 12),
    let h := s.health[i]
    let stateOf := fun (n : Nat) => if 128 ≤ n then HealthState.excluded else if 96 ≤ n then .degraded else .normal
    h.state = stateOf h.score →
    (128 ≤ h.score →
      s.fault i = s.updHealth i (fun h => { h with faults := satSucc 4294967295 h.faults })
      ∧ s.good i = s.updHealth i (fun h => { h with goods := satSucc 4294967295 h.goods }))
    ∧ (h.score < 128 →
      let up := h.score + 8
      let faulted := s.updHealth i fun h =>
        { h with
          score := up, state := stateOf up, faults := satSucc 4294967295 h.faults
          progress := if 128 ≤ up then 0 else h.progress }
      s.good i = s.updHealth i (fun h =>
        { h with score := h.score - 1, state := stateOf (h.score - 1), goods := satSucc 4294967295 h.goods })
      ∧ (128 ≤ up → s.fault i = faulted.latch .sensorExcluded)
      ∧ (h.score < 96 → 96 ≤ up → s.fault i = faulted.latch .sensorDegraded)
      ∧ ((96 ≤ h.score ∧ up < 128) ∨ up < 96 → s.fault i = faulted))

/-- The clear interval runs out on an open passage (R14): a head detector in use that is BLOCKED at that instant is
stuck, a fault event outside rehearsal (R73); the close time is fixed, and the track's entries leave the timeline (R97).
The heads that no camera works for close, MISSED where UNTIMED or not crossed, and their records are stored, in
detection order with those that were offered at this instant (log entry 35); the others stay, their plans abandoned
(R14, R71, R72, R97). The track is then closing, still in PASSAGE: that the last step is an event of its own, even where
no head waits, is the model's choice (log entry 37). That step, on a closing passage with no head left: the axle-count
vote runs for a NORMAL outcome and agrees on a value that at least three sensors share (R15); outside rehearsal each
wheel sensor is judged by it (R138, R141); the PASSAGE record is stored where the store has room, and the track is IDLE
with its dormant delay started (R6) and nothing left of the passage's speeds and queues (R16). Given while neither is
due the command does nothing (log entry 3). -/
def Obligations.ClearIntervalClosesThePassage : Prop :=
  ∀ (s : State) (t : TrackId),
    let c := s.channel t
    ((¬c.Counting ∨ ∀ d, c.clearTimer = some d → s.ticks < d) →
      ¬(c.state = .passage ∧ c.passage.closed ≠ none ∧ c.heads = []) → Completes (.clearIntervalExpiry t) s s)
    ∧ (∀ d, c.Counting → c.clearTimer = some d → d ≤ s.ticks →
      let stuck := fun (i : Fin 12) => c.passage.rehearsal = false
        ∧ ∃ x, i = detectorIndex t x ∧ (c.detectors.get x).blocked = true
          ∧ (if x = approachDetector c.passage.direction then c.passage.approachInUse else c.passage.departureInUse) = true
      ∃ u, Completes (.clearIntervalExpiry t) s u
        ∧ u = { s with channels := u.channels, timeline := u.timeline, health := u.health, store := u.store,
                       attention := u.attention, link := u.link }
        ∧ s.LinkFollows u
        ∧ (∀ i : Fin 12, (stuck i → u.health[i] = s.health[i].fault) ∧ (¬stuck i → u.health[i] = s.health[i]))
        ∧ (∀ e, e ∈ u.timeline ↔ e ∈ s.timeline ∧ e.track ≠ t)
        ∧ (u.channel t).state = .passage ∧ (u.channel t).passage.closed = some s.localTime
        ∧ (s.InOrder t → s.store.records.length + c.heads.length ≤ 32 →
          c.passage.captured ≤ 255 → c.passage.missed ≤ 255 →
          let ended := c.heads.filter fun h => !s.headBusy t h.index
          let waiting := c.heads.filter fun h => s.headBusy t h.index
          ∃ given all : List HeadRecord, given.length = ended.length
            ∧ (∀ i (h : i < given.length) (k : i < ended.length),
              given[i].IsOf c.passage ended[i] ended[i].passageCloseStatus)
            ∧ s.InTurn u t given all [] ∧ u.offeredOf t = all
            ∧ u.channels = (s.updChannel t fun c =>
              { c with
                clearTimer := none
                staleTimer := none
                closingSince := some s.ticks
                passage := { c.passage with
                  closed := some s.localTime, approachOpen := none
                  captured := min 255 (c.passage.captured + ended.countP fun h => h.passageCloseStatus = .captured)
                  missed := min 255 (c.passage.missed + ended.countP fun h => h.passageCloseStatus = .missed) }
                heads := waiting.map fun h =>
                  if h.status = .scheduled ∨ h.status = .held then { h with status := .finished } else h }).channels))
    ∧ ∀ closed, c.state = .passage → c.passage.closed = some closed → c.heads = [] → s.store.records.length < 32 →
      ∃ u record x, Completes (.clearIntervalExpiry t) s u
        ∧ u = { s with channels := u.channels, health := u.health, store := u.store, attention := u.attention }
        ∧ u.store.records = s.store.records ++ [record] ∧ record.track = t ∧ record.body = .passage x
        ∧ x = { number := c.passage.number, direction := c.passage.direction, opened := c.passage.opened, closed := closed,
                outcome := c.passage.outcome, rehearsal := c.passage.rehearsal, overspeed := c.passage.overspeed,
                counts := c.passage.counts, agreed := x.agreed, accepted := c.passage.accepted,
                rejected := c.passage.rejected, dropped := c.passage.dropped, captured := c.passage.captured,
                missed := c.passage.missed, estimates := c.passage.estimates, approach := c.approach.state,
                departure := c.departure.state, lost := c.passage.lost }
        ∧ (c.passage.outcome ≠ .normal → x.agreed = none)
        ∧ (c.passage.outcome = .normal → ∀ n, x.agreed = some n ↔ 3 ≤ allSensors.countP fun w => c.passage.counts.get w == n)
        ∧ u.channel (otherTrack t) = s.channel (otherTrack t)
        ∧ u.channel t =
          { c with
            state := .idle
            dormantTimer := if c.dormantDelay = 0 then none else some (s.ticks + c.dormantDelay * 1000000)
            clearTimer := none
            staleTimer := none
            closingSince := none
            window := []
            speed := .absent
            heads := []
            approach := { c.approach with queue := [] }
            departure := { c.departure with queue := [] }
            passage := { c.passage with approachOpen := none } }
        ∧ ((c.passage.outcome ≠ .normal ∨ c.passage.rehearsal = true) → u.health = s.health)
        ∧ (c.passage.outcome = .normal → c.passage.rehearsal = false →
          (∀ i : Fin 12, (∀ w, i ≠ wheelIndex t w) → u.health[i] = s.health[i])
          ∧ ∀ w,
            let h := s.health[wheelIndex t w]
            let agrees := x.agreed = some (c.passage.counts.get w)
            let after := u.health[wheelIndex t w]
            (h.state ≠ .excluded → (x.agreed = none ∨ agrees) → after = h)
            ∧ (h.state ≠ .excluded → x.agreed ≠ none → ¬agrees → after = h.fault)
            ∧ (h.state = .excluded → x.agreed = none → after = { h with progress := 0 })
            ∧ (h.state = .excluded → x.agreed ≠ none → ¬agrees →
                after = { h with faults := satSucc 4294967295 h.faults, progress := 0 })
            ∧ (h.state = .excluded → agrees → ¬(2 ≤ h.progress ∧ s.autoRejoin = true) →
                after = { h with progress := min 3 (h.progress + 1) })
            ∧ (h.state = .excluded → agrees → 2 ≤ h.progress → s.autoRejoin = true →
                after = { h with score := 0, progress := 0, state := .normal } ∧ u.attention.latched.getLsbD 5 = true))

/-! ## Timebase, reference tracker and rehearsal (chapters 9 and 10) -/

/-- SET TIME sets the whole seconds and keeps the sub-second phase; the pending targets move along, and so does the
window while that leaves it at a whole second (R155). It is refused while a track is in PASSAGE, and while an outer
input of a quiet track counts a pulse that is not accepted at this instant; that a count which runs out at this very
instant refuses nothing follows the letter of R157 and is the model's choice (log entry 33). Such a pulse moves along, so that
the passage that it opens after that is read on the new seconds (R147, R157). SET REFERENCE enables, disables or turns the
tracker as its table says (R149). Where the move carries the window off the whole seconds, beside the wrap, log entry 14
tells what the model does. -/
def Obligations.TimeAndReferenceAreSet : Prop :=
  ∀ (s : State) (body : List Byte), s.LinkIdle →
    (body.length = 4 →
      let seconds := field body 0 4
      let now := BitVec.ofNat 48 (seconds * 1000000 + s.localTime.toNat % 1000000)
      let delta := now - s.localTime
      (281474975 < seconds → Answers .setTime body s s .badValue [])
      ∧ (seconds ≤ 281474975 → s.SomeTraffic → Answers .setTime body s s .wrongState [])
      ∧ (seconds ≤ 281474975 → ¬s.SomeTraffic → ∃ u window,
        Answers .setTime body s u .ok []
        ∧ u = { s with
            localTime := now
            channels := u.channels
            tracker := { s.tracker with
              window := window
              corrections := s.tracker.corrections.map fun c => { c with target := c.target + delta } } }
        ∧ (∀ t, (s.channel t).PulsesMoved (u.channel t) s.ticks delta) ∧ s.OpensOnTheNewRun u
        ∧ now.toNat / 1000000 = seconds ∧ now.toNat % 1000000 = s.localTime.toNat % 1000000
        ∧ ((s.tracker.window + delta).toNat % 1000000 = 0 → window = s.tracker.window + delta)))
    ∧ (body.length = 2 →
      let k := s.tracker
      let falling := decide (field body 1 1 = 1)
      Judged .setReference body s (field body 0 1 ≤ 1 ∧ field body 1 1 ≤ 1) True
        { s with
          tracker :=
            if field body 0 1 = 0 then
              { k with enabled := false, falling := falling, state := .free, misses := 0, corrections := [] }
            else if k.state = .free ∨ k.falling ≠ falling then
              { k with enabled := true, falling := falling, state := .search, misses := 0, corrections := [] }
            else k } [])

/-- A REF edge of the configured polarity steps local time to the nearest whole second in SEARCH and HOLDOVER, without
traffic, and locks the tracker (R148, R150, R151); the later of two equally near is taken. That an outer count which
runs out at this very instant is no traffic follows the letter of R157 and is the model's choice (log entry 33); such a pulse
moves along, so that the passage that it opens after that is read on one run of local time (R147, R157). In
LOCKED, within 500 µs of an unseen window's second it is measured: its phase error e schedules min(50, |e|) adjusted
ticks, 20,000 µs apart, beyond ±1 µs, against e (R152, R153). Any other edge is ignored; WINDOW_CLOSE given while no
window is over does nothing (log entry 3). A window closes once local time exceeds its second by more than 500: seen,
the next is looked to; unseen it is a miss, and the second miss in a row enters HOLDOVER (R154). -/
def Obligations.ReferenceEdgesAndWindows : Prop :=
  ∀ (s : State),
    let k := s.tracker
    let e := timeDiff s.localTime k.window
    let n := min 50 e.natAbs
    let next := if k.window.toNat = 281474976000000 then 0#48 else k.window + 1000000#48
    (∀ rising : Bool,
      ((rising = k.falling ∨ k.state = .free
          ∨ ((k.state = .search ∨ k.state = .holdover) ∧ s.SomeTraffic)
          ∨ (k.state = .locked ∧ (k.seen = true ∨ e < -500 ∨ 500 < e))) →
        Completes (.refEdge rising) s s)
      ∧ (rising ≠ k.falling → (k.state = .search ∨ k.state = .holdover) → ¬s.SomeTraffic →
        ∃ (second : LocalTime) (u : State),
          Completes (.refEdge rising) s u
          ∧ u = ({ s with
              localTime := second
              channels := u.channels
              tracker := { k with state := .locked, misses := 0, window := second, seen := true, corrections := [],
                                  phaseError := none } } : State).latch .refLocked
          ∧ (∀ t, (s.channel t).PulsesMoved (u.channel t) s.ticks (second - s.localTime)) ∧ s.OpensOnTheNewRun u
          ∧ second.toNat % 1000000 = 0
          ∧ ∀ m : LocalTime, m.toNat % 1000000 = 0 →
            (timeDiff second s.localTime).natAbs ≤ (timeDiff m s.localTime).natAbs
            ∧ ((timeDiff m s.localTime).natAbs = (timeDiff second s.localTime).natAbs →
                timeDiff m s.localTime ≤ timeDiff second s.localTime))
      ∧ (rising ≠ k.falling → k.state = .locked → k.seen = false → -500 ≤ e → e ≤ 500 →
        ∃ corrections,
          Completes (.refEdge rising) s
            { s with
              tracker := { k with seen := true, misses := 0, phaseError := some e, corrections := corrections } }
          ∧ (n ≤ 1 → corrections = k.corrections)
          ∧ (1 < n → corrections.length = k.corrections.length + n
            ∧ ∀ x, x ∈ corrections ↔ x ∈ k.corrections
              ∨ ∃ j, 1 ≤ j ∧ j ≤ n ∧ x = { target := k.window + BitVec.ofNat 48 (20000 * j), up := decide (e < 0) })))
    ∧ ((k.state ≠ .locked ∨ e ≤ 500) → Completes .windowClose s s)
    ∧ (k.state = .locked → 500 < e →
      (k.seen = true → Completes .windowClose s { s with tracker := { k with window := next, seen := false } })
      ∧ (k.seen = false → k.misses = 0 →
        Completes .windowClose s
          ({ s with tracker := { k with misses := 1, window := next, seen := false } }.latch .refMissed))
      ∧ (k.seen = false → k.misses = 1 →
        Completes .windowClose s
          (({ s with
            tracker := { k with state := .holdover, misses := 0, window := next, seen := false } }.latch .refMissed).latch
              .refLost)))

/-- REHEARSE on a track in REHEARSAL mode, IDLE or DORMANT, with an idle generator, fills the schedule in order of tick
offset (R160): four pulses for each axle, leading edge at the offset of R161 and trailing edge twice the debounce time
later. At each head detector the edges bound spans that do not touch and together are the union of the heads' intervals,
an edge that would fall before the acceptance instant being placed at it (R162). The reply carries the local times of
the first pulse and of the last edge. On another mode or state, or a busy generator, it is refused. Each edge is
delivered when its tick has come: a wheel's leading edge starts a synthetic pulse with a count of its own, its trailing
edge does nothing more, a head edge moves the synthetic level; the last one latches REHEARSAL_DONE (R163, R165). Given
before that, the command does nothing (log entry 3). -/
def Obligations.RehearsalRunsItsSchedule : Prop :=
  (∀ (s : State) (t : TrackId) (d : Direction) (body : List Byte), s.LinkIdle → body.length ≤ 248 →
    body.length = 11 + 3 * field body 9 1 + 5 * field body 10 1 → field body 0 1 = trackCode t →
    field body 1 1 = directionCode d →
    let c := s.channel t
    let x := trainOf body d
    let f := travelFrame c.geometry d
    let values := field body 8 1 ≤ 1 ∧ 300 ≤ x.speed ∧ x.speed ≤ 110000 ∧ x.delay ≤ 60000
      ∧ 1 ≤ x.axles.length ∧ x.axles.length ≤ 64 ∧ x.heads.length ≤ 8
      ∧ (∃ rest, x.axles = 0 :: rest) ∧ x.axles.Pairwise (· ≤ ·) ∧ (∀ o ∈ x.axles, o ≤ 1000000)
      ∧ ∀ h ∈ x.heads, -5000 ≤ h.front ∧ h.front ≤ 1000000 ∧ 100 ≤ h.length ∧ h.length ≤ 3000
    let idle := c.mode = some .rehearsal ∧ (c.state = .idle ∨ c.state = .dormant) ∧ c.generator.schedule = []
    (¬values → Answers .rehearse body s s .badValue [])
    ∧ (values → ¬idle → Answers .rehearse body s s .wrongState [])
    ∧ (values → idle → ∃ (schedule : List SyntheticEdge) (last : SyntheticEdge),
      Answers .rehearse body s
        (s.updChannel t fun c =>
          { c with generator := { schedule := schedule, acceptedAt := s.ticks, liveStrobe := decide (field body 8 1 = 1) } })
        .ok (timeBytes (later s.localTime (x.delay * 1000)) ++ timeBytes (later s.localTime last.offset))
      ∧ schedule.getLast? = some last ∧ (schedule.map fun e => e.offset).Pairwise (· ≤ ·)
      ∧ (schedule.countP fun e => match e.input with | .wheel _ => true | .head _ => false) = 8 * x.axles.length
      ∧ (∀ o ∈ x.axles, ∀ w,
        let lead := (x.delay * 1000 : Int) + ⌈(((f.wheelPosition d w - f.approachOuter + o) * 1000000 : Int) : ℚ) / x.speed⌉
        { offset := lead.toNat, input := .wheel w, leading := true } ∈ schedule
        ∧ { offset := (lead + 2 * c.debounce).toNat, input := .wheel w, leading := false } ∈ schedule)
      ∧ ∀ y : Detector, ∃ spans : List (Int × Int),
        schedule.filter (fun e => e.input == .head y) = spans.flatMap (fun p =>
          [{ offset := p.1.toNat, input := .head y, leading := true },
            { offset := p.2.toNat, input := .head y, leading := false }])
        ∧ spans.Pairwise (fun p q => p.2 < q.1)
        ∧ ∀ n : Int, (∃ p ∈ spans, 2 * p.1 ≤ n ∧ n ≤ 2 * p.2) ↔ ∃ h ∈ x.heads,
          let edge := fun (behind : Int) =>
            (x.delay * 1000 : Int)
              + ⌈(((f.detectorPosition d y - f.approachOuter + behind) * 1000000 : Int) : ℚ) / x.speed⌉
          2 * edge h.front ≤ n ∧ n ≤ 2 * edge (h.front + (h.length : Int))))
  ∧ (∀ (s : State) (body : List Byte), s.LinkIdle → body.length ≤ 248 →
    body.length = 11 + 3 * field body 9 1 + 5 * field body 10 1 →
    (¬(field body 0 1 = 1 ∨ field body 0 1 = 2) ∨ 1 < field body 1 1) → Answers .rehearse body s s .badValue [])
  ∧ ∀ (s : State) (t : TrackId),
    let c := s.channel t
    ((∀ e ∈ c.generator.schedule.head?, s.ticks < c.generator.acceptedAt + e.offset) →
      Completes (.rehearsalEdgeDelivery t) s s)
    ∧ ∀ e rest, c.generator.schedule = e :: rest → c.generator.acceptedAt + e.offset ≤ s.ticks →
      let popped := s.updChannel t fun c => { c with generator := { c.generator with schedule := rest } }
      let applied := match e.input, e.leading with
        | .wheel w, true => popped.updChannel t fun c =>
            { c with
              synthetic := c.synthetic ++ [{ sensor := w, timestamp := s.localTime, accepts := s.ticks + c.debounce }] }
        | .wheel _, false => popped
        | .head x, high => popped.updChannel t fun c =>
            let y := c.detectors.get x
            { c with
              detectors := c.detectors.set x
                { y with synthetic := high, count := if high = y.blocked then none else some (s.ticks + c.debounce) } }
      (rest = [] → Completes (.rehearsalEdgeDelivery t) s (applied.latch .rehearsalDone))
      ∧ (rest ≠ [] → Completes (.rehearsalEdgeDelivery t) s applied)

/-! ## What every step keeps -/

/-- The state after a reset meets every invariant below. -/
def Obligations.ResetIsGood : Prop := State.reset.Good

/-- Queues, speeds, timers and inputs of both tracks stay good (R1, R6, R11, R14, R24, R28, R33, R38, R43, R46). -/
def Obligations.TracksStayGood : Prop :=
  Kept (fun s => s.BothTracks Channel.QueuesGood) ∧ Kept (fun s => s.BothTracks Channel.SpeedsGood)
  ∧ Kept (fun s => s.BothTracks Channel.TimersGood ∧ s.BothTracks Channel.InputsGood)

/-- Head lists, the action timeline and the list of the records offered at this instant stay good: at most 8 heads with
rising indices on a track, one entry exactly for each SCHEDULED head, and offered records in detection order, each of a
head that the passage has closed (R60, R62, R65, R72, R90, log entry 35). -/
def Obligations.HeadsAndTimelineStayGood : Prop :=
  Kept (fun s => s.BothTracks Channel.HeadsGood ∧ s.TimelineGood)
  ∧ Kept (fun s => s.BothTracks Channel.HeadsGood ∧ s.OfferedGood .t1 ∧ s.OfferedGood .t2)

/-- Cameras stay good: pins, exposure, failure run and power follow the state and the track (R7, R102, R103, R108, R110). -/
def Obligations.CamerasStayGood : Prop := Kept State.CamerasGood

/-- Strobes, charger and inhibit stay good; while the inhibit is active no strobe fires (R119, R120, R122, R123, R126, R128,
R129). -/
def Obligations.StrobesStayGood : Prop := Kept State.StrobesGood

/-- Health, store, link, attention and tracker stay good (R134 to R138, R166, R167, R177, R184, section 9.2). -/
def Obligations.SharedUnitsStayGood : Prop :=
  Kept State.HealthGood ∧ Kept (fun s => s.store.Good) ∧ Kept (fun s => s.link.Good) ∧ Kept (fun s => s.attention.Good)
  ∧ Kept (fun s => s.tracker.Good)

/-- While a track is in PASSAGE, no step of the part but a pin reset sets or steps local time (R147): it stays, or a tick
passes. An adjusted tick, one that would carry local time to a target of the correction list, advances it by 2 or 0 as the
correction says (R153); every other tick advances it by 1. -/
def Obligations.LocalTimeOnlyAdvancesDuringAPassage : Prop :=
  ∀ s t : State, s.SomePassage → (∀ straps rest, s.pending ≠ .pinReset straps :: rest) → step s = .next t →
    let next := s.localTime + 1#48
    (t.ticks = s.ticks ∧ t.localTime = s.localTime)
    ∨ (t.ticks = s.ticks + 1
      ∧ ((∃ c ∈ s.tracker.corrections, c.target = next ∧ t.localTime = s.localTime + (if c.up then 2#48 else 0#48))
        ∨ ((∀ c ∈ s.tracker.corrections, c.target ≠ next) ∧ t.localTime = next)))
end

