-- ==== Sys2Proof/Laws/State.lean ====
section
/-! SUPPORT. The fields of the state under the updates that every block shares: one lemma per field per update. -/

namespace Sys2Proof.Machine

section updChannel

variable (s : State) (t : TrackId) (f : Channel → Channel)

@[simp] theorem State.updChannel_ticks : (s.updChannel t f).ticks = s.ticks := rfl
@[simp] theorem State.updChannel_localTime : (s.updChannel t f).localTime = s.localTime := rfl
@[simp] theorem State.updChannel_tracker : (s.updChannel t f).tracker = s.tracker := rfl
@[simp] theorem State.updChannel_plans : (s.updChannel t f).plans = s.plans := rfl
@[simp] theorem State.updChannel_bindings : (s.updChannel t f).bindings = s.bindings := rfl
@[simp] theorem State.updChannel_timeline : (s.updChannel t f).timeline = s.timeline := rfl
@[simp] theorem State.updChannel_cameras : (s.updChannel t f).cameras = s.cameras := rfl
@[simp] theorem State.updChannel_strobes : (s.updChannel t f).strobes = s.strobes := rfl
@[simp] theorem State.updChannel_chargeQueue : (s.updChannel t f).chargeQueue = s.chargeQueue := rfl
@[simp] theorem State.updChannel_charger : (s.updChannel t f).charger = s.charger := rfl
@[simp] theorem State.updChannel_chgEn : (s.updChannel t f).chgEn = s.chgEn := rfl
@[simp] theorem State.updChannel_chgSel : (s.updChannel t f).chgSel = s.chgSel := rfl
@[simp] theorem State.updChannel_inhibits : (s.updChannel t f).inhibits = s.inhibits := rfl
@[simp] theorem State.updChannel_inhibit : (s.updChannel t f).inhibit = s.inhibit := rfl
@[simp] theorem State.updChannel_health : (s.updChannel t f).health = s.health := rfl
@[simp] theorem State.updChannel_autoRejoin : (s.updChannel t f).autoRejoin = s.autoRejoin := rfl
@[simp] theorem State.updChannel_store : (s.updChannel t f).store = s.store := rfl
@[simp] theorem State.updChannel_link : (s.updChannel t f).link = s.link := rfl
@[simp] theorem State.updChannel_attention : (s.updChannel t f).attention = s.attention := rfl
@[simp] theorem State.updChannel_pending : (s.updChannel t f).pending = s.pending := rfl
@[simp] theorem State.updChannel_choices : (s.updChannel t f).choices = s.choices := rfl

end updChannel

section updPassage

variable (s : State) (t : TrackId) (f : Passage → Passage)

@[simp] theorem State.updPassage_ticks : (s.updPassage t f).ticks = s.ticks := rfl
@[simp] theorem State.updPassage_localTime : (s.updPassage t f).localTime = s.localTime := rfl
@[simp] theorem State.updPassage_tracker : (s.updPassage t f).tracker = s.tracker := rfl
@[simp] theorem State.updPassage_plans : (s.updPassage t f).plans = s.plans := rfl
@[simp] theorem State.updPassage_bindings : (s.updPassage t f).bindings = s.bindings := rfl
@[simp] theorem State.updPassage_timeline : (s.updPassage t f).timeline = s.timeline := rfl
@[simp] theorem State.updPassage_cameras : (s.updPassage t f).cameras = s.cameras := rfl
@[simp] theorem State.updPassage_strobes : (s.updPassage t f).strobes = s.strobes := rfl
@[simp] theorem State.updPassage_chargeQueue : (s.updPassage t f).chargeQueue = s.chargeQueue := rfl
@[simp] theorem State.updPassage_charger : (s.updPassage t f).charger = s.charger := rfl
@[simp] theorem State.updPassage_chgEn : (s.updPassage t f).chgEn = s.chgEn := rfl
@[simp] theorem State.updPassage_chgSel : (s.updPassage t f).chgSel = s.chgSel := rfl
@[simp] theorem State.updPassage_inhibits : (s.updPassage t f).inhibits = s.inhibits := rfl
@[simp] theorem State.updPassage_inhibit : (s.updPassage t f).inhibit = s.inhibit := rfl
@[simp] theorem State.updPassage_health : (s.updPassage t f).health = s.health := rfl
@[simp] theorem State.updPassage_autoRejoin : (s.updPassage t f).autoRejoin = s.autoRejoin := rfl
@[simp] theorem State.updPassage_store : (s.updPassage t f).store = s.store := rfl
@[simp] theorem State.updPassage_link : (s.updPassage t f).link = s.link := rfl
@[simp] theorem State.updPassage_attention : (s.updPassage t f).attention = s.attention := rfl
@[simp] theorem State.updPassage_pending : (s.updPassage t f).pending = s.pending := rfl
@[simp] theorem State.updPassage_choices : (s.updPassage t f).choices = s.choices := rfl

end updPassage

section updHead

variable (s : State) (t : TrackId) (n : Nat) (f : Head → Head)

@[simp] theorem State.updHead_ticks : (s.updHead t n f).ticks = s.ticks := rfl
@[simp] theorem State.updHead_localTime : (s.updHead t n f).localTime = s.localTime := rfl
@[simp] theorem State.updHead_tracker : (s.updHead t n f).tracker = s.tracker := rfl
@[simp] theorem State.updHead_plans : (s.updHead t n f).plans = s.plans := rfl
@[simp] theorem State.updHead_bindings : (s.updHead t n f).bindings = s.bindings := rfl
@[simp] theorem State.updHead_timeline : (s.updHead t n f).timeline = s.timeline := rfl
@[simp] theorem State.updHead_cameras : (s.updHead t n f).cameras = s.cameras := rfl
@[simp] theorem State.updHead_strobes : (s.updHead t n f).strobes = s.strobes := rfl
@[simp] theorem State.updHead_chargeQueue : (s.updHead t n f).chargeQueue = s.chargeQueue := rfl
@[simp] theorem State.updHead_charger : (s.updHead t n f).charger = s.charger := rfl
@[simp] theorem State.updHead_chgEn : (s.updHead t n f).chgEn = s.chgEn := rfl
@[simp] theorem State.updHead_chgSel : (s.updHead t n f).chgSel = s.chgSel := rfl
@[simp] theorem State.updHead_inhibits : (s.updHead t n f).inhibits = s.inhibits := rfl
@[simp] theorem State.updHead_inhibit : (s.updHead t n f).inhibit = s.inhibit := rfl
@[simp] theorem State.updHead_health : (s.updHead t n f).health = s.health := rfl
@[simp] theorem State.updHead_autoRejoin : (s.updHead t n f).autoRejoin = s.autoRejoin := rfl
@[simp] theorem State.updHead_store : (s.updHead t n f).store = s.store := rfl
@[simp] theorem State.updHead_link : (s.updHead t n f).link = s.link := rfl
@[simp] theorem State.updHead_attention : (s.updHead t n f).attention = s.attention := rfl
@[simp] theorem State.updHead_pending : (s.updHead t n f).pending = s.pending := rfl
@[simp] theorem State.updHead_choices : (s.updHead t n f).choices = s.choices := rfl

end updHead

section updCamera

variable (s : State) (i : Fin 8) (f : Camera → Camera)

@[simp] theorem State.updCamera_ticks : (s.updCamera i f).ticks = s.ticks := rfl
@[simp] theorem State.updCamera_localTime : (s.updCamera i f).localTime = s.localTime := rfl
@[simp] theorem State.updCamera_tracker : (s.updCamera i f).tracker = s.tracker := rfl
@[simp] theorem State.updCamera_channels : (s.updCamera i f).channels = s.channels := rfl
@[simp] theorem State.updCamera_plans : (s.updCamera i f).plans = s.plans := rfl
@[simp] theorem State.updCamera_bindings : (s.updCamera i f).bindings = s.bindings := rfl
@[simp] theorem State.updCamera_timeline : (s.updCamera i f).timeline = s.timeline := rfl
@[simp] theorem State.updCamera_strobes : (s.updCamera i f).strobes = s.strobes := rfl
@[simp] theorem State.updCamera_chargeQueue : (s.updCamera i f).chargeQueue = s.chargeQueue := rfl
@[simp] theorem State.updCamera_charger : (s.updCamera i f).charger = s.charger := rfl
@[simp] theorem State.updCamera_chgEn : (s.updCamera i f).chgEn = s.chgEn := rfl
@[simp] theorem State.updCamera_chgSel : (s.updCamera i f).chgSel = s.chgSel := rfl
@[simp] theorem State.updCamera_inhibits : (s.updCamera i f).inhibits = s.inhibits := rfl
@[simp] theorem State.updCamera_inhibit : (s.updCamera i f).inhibit = s.inhibit := rfl
@[simp] theorem State.updCamera_health : (s.updCamera i f).health = s.health := rfl
@[simp] theorem State.updCamera_autoRejoin : (s.updCamera i f).autoRejoin = s.autoRejoin := rfl
@[simp] theorem State.updCamera_store : (s.updCamera i f).store = s.store := rfl
@[simp] theorem State.updCamera_link : (s.updCamera i f).link = s.link := rfl
@[simp] theorem State.updCamera_attention : (s.updCamera i f).attention = s.attention := rfl
@[simp] theorem State.updCamera_pending : (s.updCamera i f).pending = s.pending := rfl
@[simp] theorem State.updCamera_choices : (s.updCamera i f).choices = s.choices := rfl

end updCamera

section updStrobe

variable (s : State) (i : Fin 6) (f : Strobe → Strobe)

@[simp] theorem State.updStrobe_ticks : (s.updStrobe i f).ticks = s.ticks := rfl
@[simp] theorem State.updStrobe_localTime : (s.updStrobe i f).localTime = s.localTime := rfl
@[simp] theorem State.updStrobe_tracker : (s.updStrobe i f).tracker = s.tracker := rfl
@[simp] theorem State.updStrobe_channels : (s.updStrobe i f).channels = s.channels := rfl
@[simp] theorem State.updStrobe_plans : (s.updStrobe i f).plans = s.plans := rfl
@[simp] theorem State.updStrobe_bindings : (s.updStrobe i f).bindings = s.bindings := rfl
@[simp] theorem State.updStrobe_timeline : (s.updStrobe i f).timeline = s.timeline := rfl
@[simp] theorem State.updStrobe_cameras : (s.updStrobe i f).cameras = s.cameras := rfl
@[simp] theorem State.updStrobe_chargeQueue : (s.updStrobe i f).chargeQueue = s.chargeQueue := rfl
@[simp] theorem State.updStrobe_charger : (s.updStrobe i f).charger = s.charger := rfl
@[simp] theorem State.updStrobe_chgEn : (s.updStrobe i f).chgEn = s.chgEn := rfl
@[simp] theorem State.updStrobe_chgSel : (s.updStrobe i f).chgSel = s.chgSel := rfl
@[simp] theorem State.updStrobe_inhibits : (s.updStrobe i f).inhibits = s.inhibits := rfl
@[simp] theorem State.updStrobe_inhibit : (s.updStrobe i f).inhibit = s.inhibit := rfl
@[simp] theorem State.updStrobe_health : (s.updStrobe i f).health = s.health := rfl
@[simp] theorem State.updStrobe_autoRejoin : (s.updStrobe i f).autoRejoin = s.autoRejoin := rfl
@[simp] theorem State.updStrobe_store : (s.updStrobe i f).store = s.store := rfl
@[simp] theorem State.updStrobe_link : (s.updStrobe i f).link = s.link := rfl
@[simp] theorem State.updStrobe_attention : (s.updStrobe i f).attention = s.attention := rfl
@[simp] theorem State.updStrobe_pending : (s.updStrobe i f).pending = s.pending := rfl
@[simp] theorem State.updStrobe_choices : (s.updStrobe i f).choices = s.choices := rfl

end updStrobe

section updHealth

variable (s : State) (i : Fin 12) (f : Health → Health)

@[simp] theorem State.updHealth_ticks : (s.updHealth i f).ticks = s.ticks := rfl
@[simp] theorem State.updHealth_localTime : (s.updHealth i f).localTime = s.localTime := rfl
@[simp] theorem State.updHealth_tracker : (s.updHealth i f).tracker = s.tracker := rfl
@[simp] theorem State.updHealth_channels : (s.updHealth i f).channels = s.channels := rfl
@[simp] theorem State.updHealth_plans : (s.updHealth i f).plans = s.plans := rfl
@[simp] theorem State.updHealth_bindings : (s.updHealth i f).bindings = s.bindings := rfl
@[simp] theorem State.updHealth_timeline : (s.updHealth i f).timeline = s.timeline := rfl
@[simp] theorem State.updHealth_cameras : (s.updHealth i f).cameras = s.cameras := rfl
@[simp] theorem State.updHealth_strobes : (s.updHealth i f).strobes = s.strobes := rfl
@[simp] theorem State.updHealth_chargeQueue : (s.updHealth i f).chargeQueue = s.chargeQueue := rfl
@[simp] theorem State.updHealth_charger : (s.updHealth i f).charger = s.charger := rfl
@[simp] theorem State.updHealth_chgEn : (s.updHealth i f).chgEn = s.chgEn := rfl
@[simp] theorem State.updHealth_chgSel : (s.updHealth i f).chgSel = s.chgSel := rfl
@[simp] theorem State.updHealth_inhibits : (s.updHealth i f).inhibits = s.inhibits := rfl
@[simp] theorem State.updHealth_inhibit : (s.updHealth i f).inhibit = s.inhibit := rfl
@[simp] theorem State.updHealth_autoRejoin : (s.updHealth i f).autoRejoin = s.autoRejoin := rfl
@[simp] theorem State.updHealth_store : (s.updHealth i f).store = s.store := rfl
@[simp] theorem State.updHealth_link : (s.updHealth i f).link = s.link := rfl
@[simp] theorem State.updHealth_attention : (s.updHealth i f).attention = s.attention := rfl
@[simp] theorem State.updHealth_pending : (s.updHealth i f).pending = s.pending := rfl
@[simp] theorem State.updHealth_choices : (s.updHealth i f).choices = s.choices := rfl

end updHealth

section latch

variable (s : State) (e : Event)

@[simp] theorem State.latch_ticks : (s.latch e).ticks = s.ticks := rfl
@[simp] theorem State.latch_localTime : (s.latch e).localTime = s.localTime := rfl
@[simp] theorem State.latch_tracker : (s.latch e).tracker = s.tracker := rfl
@[simp] theorem State.latch_channels : (s.latch e).channels = s.channels := rfl
@[simp] theorem State.latch_plans : (s.latch e).plans = s.plans := rfl
@[simp] theorem State.latch_bindings : (s.latch e).bindings = s.bindings := rfl
@[simp] theorem State.latch_timeline : (s.latch e).timeline = s.timeline := rfl
@[simp] theorem State.latch_cameras : (s.latch e).cameras = s.cameras := rfl
@[simp] theorem State.latch_strobes : (s.latch e).strobes = s.strobes := rfl
@[simp] theorem State.latch_chargeQueue : (s.latch e).chargeQueue = s.chargeQueue := rfl
@[simp] theorem State.latch_charger : (s.latch e).charger = s.charger := rfl
@[simp] theorem State.latch_chgEn : (s.latch e).chgEn = s.chgEn := rfl
@[simp] theorem State.latch_chgSel : (s.latch e).chgSel = s.chgSel := rfl
@[simp] theorem State.latch_inhibits : (s.latch e).inhibits = s.inhibits := rfl
@[simp] theorem State.latch_inhibit : (s.latch e).inhibit = s.inhibit := rfl
@[simp] theorem State.latch_health : (s.latch e).health = s.health := rfl
@[simp] theorem State.latch_autoRejoin : (s.latch e).autoRejoin = s.autoRejoin := rfl
@[simp] theorem State.latch_store : (s.latch e).store = s.store := rfl
@[simp] theorem State.latch_link : (s.latch e).link = s.link := rfl
@[simp] theorem State.latch_pending : (s.latch e).pending = s.pending := rfl
@[simp] theorem State.latch_choices : (s.latch e).choices = s.choices := rfl

end latch

section dropEntry

variable (s : State) (t : TrackId) (n : Nat)

@[simp] theorem State.dropEntry_ticks : (s.dropEntry t n).ticks = s.ticks := rfl
@[simp] theorem State.dropEntry_localTime : (s.dropEntry t n).localTime = s.localTime := rfl
@[simp] theorem State.dropEntry_tracker : (s.dropEntry t n).tracker = s.tracker := rfl
@[simp] theorem State.dropEntry_channels : (s.dropEntry t n).channels = s.channels := rfl
@[simp] theorem State.dropEntry_plans : (s.dropEntry t n).plans = s.plans := rfl
@[simp] theorem State.dropEntry_bindings : (s.dropEntry t n).bindings = s.bindings := rfl
@[simp] theorem State.dropEntry_cameras : (s.dropEntry t n).cameras = s.cameras := rfl
@[simp] theorem State.dropEntry_strobes : (s.dropEntry t n).strobes = s.strobes := rfl
@[simp] theorem State.dropEntry_chargeQueue : (s.dropEntry t n).chargeQueue = s.chargeQueue := rfl
@[simp] theorem State.dropEntry_charger : (s.dropEntry t n).charger = s.charger := rfl
@[simp] theorem State.dropEntry_chgEn : (s.dropEntry t n).chgEn = s.chgEn := rfl
@[simp] theorem State.dropEntry_chgSel : (s.dropEntry t n).chgSel = s.chgSel := rfl
@[simp] theorem State.dropEntry_inhibits : (s.dropEntry t n).inhibits = s.inhibits := rfl
@[simp] theorem State.dropEntry_inhibit : (s.dropEntry t n).inhibit = s.inhibit := rfl
@[simp] theorem State.dropEntry_health : (s.dropEntry t n).health = s.health := rfl
@[simp] theorem State.dropEntry_autoRejoin : (s.dropEntry t n).autoRejoin = s.autoRejoin := rfl
@[simp] theorem State.dropEntry_store : (s.dropEntry t n).store = s.store := rfl
@[simp] theorem State.dropEntry_link : (s.dropEntry t n).link = s.link := rfl
@[simp] theorem State.dropEntry_attention : (s.dropEntry t n).attention = s.attention := rfl
@[simp] theorem State.dropEntry_pending : (s.dropEntry t n).pending = s.pending := rfl
@[simp] theorem State.dropEntry_choices : (s.dropEntry t n).choices = s.choices := rfl

end dropEntry

section dropEntries

variable (s : State) (t : TrackId)

@[simp] theorem State.dropEntries_ticks : (s.dropEntries t).ticks = s.ticks := rfl
@[simp] theorem State.dropEntries_localTime : (s.dropEntries t).localTime = s.localTime := rfl
@[simp] theorem State.dropEntries_tracker : (s.dropEntries t).tracker = s.tracker := rfl
@[simp] theorem State.dropEntries_channels : (s.dropEntries t).channels = s.channels := rfl
@[simp] theorem State.dropEntries_plans : (s.dropEntries t).plans = s.plans := rfl
@[simp] theorem State.dropEntries_bindings : (s.dropEntries t).bindings = s.bindings := rfl
@[simp] theorem State.dropEntries_cameras : (s.dropEntries t).cameras = s.cameras := rfl
@[simp] theorem State.dropEntries_strobes : (s.dropEntries t).strobes = s.strobes := rfl
@[simp] theorem State.dropEntries_chargeQueue : (s.dropEntries t).chargeQueue = s.chargeQueue := rfl
@[simp] theorem State.dropEntries_charger : (s.dropEntries t).charger = s.charger := rfl
@[simp] theorem State.dropEntries_chgEn : (s.dropEntries t).chgEn = s.chgEn := rfl
@[simp] theorem State.dropEntries_chgSel : (s.dropEntries t).chgSel = s.chgSel := rfl
@[simp] theorem State.dropEntries_inhibits : (s.dropEntries t).inhibits = s.inhibits := rfl
@[simp] theorem State.dropEntries_inhibit : (s.dropEntries t).inhibit = s.inhibit := rfl
@[simp] theorem State.dropEntries_health : (s.dropEntries t).health = s.health := rfl
@[simp] theorem State.dropEntries_autoRejoin : (s.dropEntries t).autoRejoin = s.autoRejoin := rfl
@[simp] theorem State.dropEntries_store : (s.dropEntries t).store = s.store := rfl
@[simp] theorem State.dropEntries_link : (s.dropEntries t).link = s.link := rfl
@[simp] theorem State.dropEntries_attention : (s.dropEntries t).attention = s.attention := rfl
@[simp] theorem State.dropEntries_pending : (s.dropEntries t).pending = s.pending := rfl
@[simp] theorem State.dropEntries_choices : (s.dropEntries t).choices = s.choices := rfl

end dropEntries

section setReceiver

variable (s : State) (r : Receiver)

@[simp] theorem State.setReceiver_ticks : (s.setReceiver r).ticks = s.ticks := rfl
@[simp] theorem State.setReceiver_localTime : (s.setReceiver r).localTime = s.localTime := rfl
@[simp] theorem State.setReceiver_tracker : (s.setReceiver r).tracker = s.tracker := rfl
@[simp] theorem State.setReceiver_channels : (s.setReceiver r).channels = s.channels := rfl
@[simp] theorem State.setReceiver_plans : (s.setReceiver r).plans = s.plans := rfl
@[simp] theorem State.setReceiver_bindings : (s.setReceiver r).bindings = s.bindings := rfl
@[simp] theorem State.setReceiver_timeline : (s.setReceiver r).timeline = s.timeline := rfl
@[simp] theorem State.setReceiver_cameras : (s.setReceiver r).cameras = s.cameras := rfl
@[simp] theorem State.setReceiver_strobes : (s.setReceiver r).strobes = s.strobes := rfl
@[simp] theorem State.setReceiver_chargeQueue : (s.setReceiver r).chargeQueue = s.chargeQueue := rfl
@[simp] theorem State.setReceiver_charger : (s.setReceiver r).charger = s.charger := rfl
@[simp] theorem State.setReceiver_chgEn : (s.setReceiver r).chgEn = s.chgEn := rfl
@[simp] theorem State.setReceiver_chgSel : (s.setReceiver r).chgSel = s.chgSel := rfl
@[simp] theorem State.setReceiver_inhibits : (s.setReceiver r).inhibits = s.inhibits := rfl
@[simp] theorem State.setReceiver_inhibit : (s.setReceiver r).inhibit = s.inhibit := rfl
@[simp] theorem State.setReceiver_health : (s.setReceiver r).health = s.health := rfl
@[simp] theorem State.setReceiver_autoRejoin : (s.setReceiver r).autoRejoin = s.autoRejoin := rfl
@[simp] theorem State.setReceiver_store : (s.setReceiver r).store = s.store := rfl
@[simp] theorem State.setReceiver_attention : (s.setReceiver r).attention = s.attention := rfl
@[simp] theorem State.setReceiver_pending : (s.setReceiver r).pending = s.pending := rfl
@[simp] theorem State.setReceiver_choices : (s.setReceiver r).choices = s.choices := rfl

end setReceiver

end Sys2Proof.Machine
end

