-- ==== Sys2Proof/Laws/Ops.lean ====
section
/-! SUPPORT. What the shared operations do: reading after an update, sorting and inserting, and the free record number. -/

namespace Sys2Proof.Machine

/-! ## Reading after an update -/

@[simp] theorem PerTrack.get_set {α : Type} (p : PerTrack α) (t u : TrackId) (x : α) :
    (p.set t x).get u = if u = t then x else p.get u := by
  cases t <;> cases u <;> simp [PerTrack.get, PerTrack.set]

@[simp] theorem PerSensor.get_set {α : Type} (p : PerSensor α) (w v : WheelSensor) (x : α) :
    (p.set w x).get v = if v = w then x else p.get v := by
  cases w <;> cases v <;> simp [PerSensor.get, PerSensor.set]

@[simp] theorem PerDetector.get_set {α : Type} (p : PerDetector α) (d e : Detector) (x : α) :
    (p.set d x).get e = if e = d then x else p.get e := by
  cases d <;> cases e <;> simp [PerDetector.get, PerDetector.set]

@[simp] theorem PerDirection.get_set {α : Type} (p : PerDirection α) (d e : Direction) (x : α) :
    (p.set d x).get e = if e = d then x else p.get e := by
  cases d <;> cases e <;> simp [PerDirection.get, PerDirection.set]

@[simp] theorem updateAt_get {α : Type} {n : Nat} (v : Vector α n) (i j : Fin n) (f : α → α) :
    (updateAt v i f)[j.val] = if j = i then f v[j.val] else v[j.val] := by
  simp only [updateAt, Fin.getElem_fin, Vector.getElem_set]
  by_cases h : j = i
  · simp [h]
  · simp [h, Ne.symm (Fin.val_ne_of_ne h)]

@[simp] theorem State.updChannel_channel (s : State) (t u : TrackId) (f : Channel → Channel) :
    (s.updChannel t f).channel u = if u = t then f (s.channel u) else s.channel u := by
  simp only [State.channel, State.updChannel, PerTrack.get_set]
  split <;> simp_all

@[simp] theorem State.updCamera_camera (s : State) (i j : Fin 8) (f : Camera → Camera) :
    (s.updCamera i f).camera j = if j = i then f (s.camera j) else s.camera j := by
  simp [State.camera, State.updCamera]

@[simp] theorem State.updStrobe_strobe (s : State) (i j : Fin 6) (f : Strobe → Strobe) :
    (s.updStrobe i f).strobe j = if j = i then f (s.strobe j) else s.strobe j := by
  simp [State.strobe, State.updStrobe]

@[simp] theorem State.updHealth_health (s : State) (i j : Fin 12) (f : Health → Health) :
    (s.updHealth i f).health[j] = if j = i then f s.health[j] else s.health[j] := by
  simp [State.updHealth]

/-- Updating a channel twice is updating it once. -/
theorem State.updChannel_updChannel (s : State) (t : TrackId) (f g : Channel → Channel) :
    (s.updChannel t f).updChannel t g = s.updChannel t fun c => g (f c) := by
  cases t <;> rfl

/-! ## Families of things hold every name -/

theorem mem_allTracks (t : TrackId) : t ∈ allTracks := by cases t <;> simp [allTracks]
theorem mem_allSensors (w : WheelSensor) : w ∈ allSensors := by cases w <;> simp [allSensors]
theorem mem_allDetectors (d : Detector) : d ∈ allDetectors := by cases d <;> simp [allDetectors]
theorem mem_allCameras (i : Fin 8) : i ∈ allCameras := by revert i; decide
theorem mem_allStrobes (x : Fin 6) : x ∈ allStrobes := by revert x; decide
theorem mem_allInhibits (i : Fin 4) : i ∈ allInhibits := by revert i; decide

/-! ## Sorting and inserting -/

/-- Inserting adds the element and nothing else. -/
theorem insertSorted_perm {α : Type} (goesBefore : α → α → Bool) (x : α) (l : List α) :
    (insertSorted goesBefore x l).Perm (x :: l) := by
  induction l with
  | nil => exact .refl _
  | cons y rest ih =>
    simp only [insertSorted]
    split
    · exact .refl _
    · exact (List.Perm.cons y ih).trans (.swap x y rest)

theorem insertFirst_perm {α : Type} (goesBefore : α → α → Bool) (x : α) (l : List α) :
    (sortBy.insertFirst goesBefore x l).Perm (x :: l) := by
  induction l with
  | nil => exact .refl _
  | cons y rest ih =>
    simp only [sortBy.insertFirst]
    split
    · exact (List.Perm.cons y ih).trans (.swap x y rest)
    · exact .refl _

/-- Sorting keeps the elements. -/
theorem sortBy_perm {α : Type} (goesBefore : α → α → Bool) (l : List α) : (sortBy goesBefore l).Perm l := by
  induction l with
  | nil => exact .refl _
  | cons x rest ih => exact (insertFirst_perm goesBefore x _).trans (List.Perm.cons x ih)

/-! ## Record numbers (R167) -/

/-- The next record number is a record number. -/
theorem nextRecordNumber_range (n : Nat) : RecordNumber (nextRecordNumber n) := by
  unfold nextRecordNumber RecordNumber
  split <;> omega

/-- The number assigned to a record is a record number. -/
theorem freeNumber_range (used : List Nat) (skips n : Nat) (h : RecordNumber n) :
    RecordNumber (freeNumber used skips n) := by
  induction skips generalizing n with
  | zero => exact h
  | succ k ih =>
    simp only [freeNumber]
    split
    · exact ih _ (nextRecordNumber_range n)
    · exact h

end Sys2Proof.Machine
end

