-- ==== Sys2Proof/Laws/Cases.lean ====
section
/-! SUPPORT. What the operations that choose or test can do, case by case: the part with no command waiting, the start and
the reopening of a charge, the turn of a record, and the close of heads. -/

namespace Sys2Proof.Machine

/-! ## The part with no command waiting (R146, log entries 1, 2 and 37) -/

theorem mem_dueEvents_of_choicesNow {s : State} {e : Instr} (h : e ∈ s.choicesNow) : e ∈ s.dueEvents := by
  unfold State.choicesNow at h
  split at h
  · exact h
  · exact (List.mem_filter.mp h).1

theorem choicesNow_eq_nil {s : State} : s.choicesNow = [] ↔ s.dueEvents = [] := by
  constructor
  · intro h
    unfold State.choicesNow at h
    split at h
    · exact h
    · next ne => exact absurd h ne
  · exact fun h => List.eq_nil_iff_forall_not_mem.mpr fun e k => by simpa [h] using mem_dueEvents_of_choicesNow k

/-- Idling is a tick where nothing is due, and otherwise queues one of the events that are due. -/
theorem idle_cases (s : State) :
    (s.dueEvents = [] ∧ s.idle = s.advance)
    ∨ ∃ e ∈ s.dueEvents, ∃ n, s.idle = { s with pending := [e], choices := n } := by
  unfold State.idle
  split
  · exact .inl ⟨choicesNow_eq_nil.mp ‹_›, rfl⟩
  · exact .inr ⟨_, mem_dueEvents_of_choicesNow (by simp_all), s.choices, rfl⟩
  · next first rest _ h =>
    have inside : Config.freeChoice s.choices % (rest.length + 1) < (first :: rest).length := Nat.mod_lt _ (Nat.succ_pos _)
    refine .inr ⟨(first :: rest)[Config.freeChoice s.choices % (rest.length + 1)]'inside,
      mem_dueEvents_of_choicesNow (by rw [h]; exact List.getElem_mem inside), s.choices + 1, ?_⟩
    rw [List.getD_eq_getElem _ _ inside]

/-! ## The charger (R127, R128) -/

theorem beginCharge_charger (s : State) (joins : Option Nat) (x : Fin 6) :
    (s.beginCharge joins x).charger = some { strobe := x, completes := s.ticks + (s.strobe x).chargeTicks, joins := joins } :=
  rfl

/-- A charge starts for the member at the front of the queue, where the charger is free and the queue holds one. -/
theorem startCharge_cases (s : State) (joins : Option Nat) :
    (s.startCharge joins = s ∧ (s.charger.isSome = true ∨ s.queueOrder = []))
    ∨ ∃ front rest, s.charger = none ∧ s.queueOrder = front :: rest
      ∧ s.startCharge joins = s.beginCharge joins front.strobe := by
  unfold State.startCharge
  split
  · exact .inl ⟨rfl, .inl ‹_›⟩
  · split
    · exact .inl ⟨rfl, .inr ‹_›⟩
    · exact .inr ⟨_, _, by simp_all, ‹_›, rfl⟩

/-- The choice is reopened exactly where joins of this very instant started the charge. -/
theorem reopenChoice_cases (s : State) :
    (s.reopenChoice = s ∧ ∀ c, s.charger = some c → c.joins ≠ some s.ticks)
    ∨ ∃ c, s.charger = some c ∧ c.joins = some s.ticks
      ∧ s.reopenChoice
        = { s.joinQueue c.strobe (s.strobe c.strobe).lastPulse with charger := none, chgEn := false, chgSel := 0#3 } := by
  unfold State.reopenChoice Charge.reopens
  split
  · next c h =>
    split
    · exact .inr ⟨c, h, by simp_all, rfl⟩
    · exact .inl ⟨rfl, fun d k => by simp_all⟩
  · exact .inl ⟨rfl, fun d k => by simp_all⟩

/-! ## Offers in detection order (R72) -/

@[simp] theorem inPlaceOf_nil (o : OfferedRecord) : inPlaceOf [] o = o := rfl

/-- A record that no move names keeps its place. -/
theorem inPlaceOf_other {moves : Moves} {o : OfferedRecord} (h : moves.lookup o = none) :
    inPlaceOf moves o = o := by
  simp [inPlaceOf, h]

/-- A move puts another HEAD record in the place of the one it names. -/
theorem dealt_head {moves : Moves} {r : Record} {x : HeadRecord} {o : OfferedRecord}
    (body : r.body = .head x) (h : moves.lookup { track := r.track, record := x } = some o) :
    r.dealt moves = { r with body := .head o.record } := by
  simp [Record.dealt, inPlaceOf, body, h]

/-- A stored record that no move names stays as it is. -/
theorem dealt_other {moves : Moves} {r : Record}
    (h : ∀ x, r.body = .head x → moves.lookup { track := r.track, record := x } = none) : r.dealt moves = r := by
  obtain ⟨_, _, _, _, body⟩ := r
  cases body with
  | head x => simp [Record.dealt, inPlaceOf_other (h x rfl)]
  | passage _ => rfl

@[simp] theorem dealt_nil (r : Record) : r.dealt [] = r := dealt_other fun _ _ => rfl

/-- Dealing anew changes no header. -/
@[simp] theorem dealt_header (moves : Moves) (r : Record) :
    (r.dealt moves).number = r.number ∧ (r.dealt moves).track = r.track ∧ (r.dealt moves).stored = r.stored
    ∧ (r.dealt moves).displaced = r.displaced := by
  unfold Record.dealt
  split <;> simp

/-- Dealing anew keeps how many records are held, their numbers, and everything else of the store but `offered`. -/
theorem deal_keeps (st : Store) (moves : Moves) (offer : OfferedRecord) :
    (st.deal moves offer).records.length = st.records.length
    ∧ ((st.deal moves offer).records.map fun r => r.number) = st.records.map (fun r => r.number)
    ∧ (st.deal moves offer).nextNumber = st.nextNumber ∧ (st.deal moves offer).policy = st.policy
    ∧ (st.deal moves offer).threshold = st.threshold := by
  simp [Store.deal, Function.comp_def]

/-- A reply is left alone unless it was given at this instant and reports a record that moves. -/
theorem dealt_reply_other {moves : Moves} {ticks : Nat} {x : Transmission}
    (h : x.started ≠ ticks ∨ ∀ r, x.reported = some r → r.dealt moves = r) : x.dealt moves ticks = x := by
  unfold Transmission.dealt
  split
  · next r reports => rcases h with h | h <;> simp_all
  · rfl

/-- A reply of this instant reports what stands in the place of its record. -/
theorem dealt_reply {moves : Moves} {x : Transmission} {r : Record} (reports : x.reported = some r)
    (moved : r.dealt moves ≠ r) : x.dealt moves x.started = x.report (r.dealt moves) := by
  simp [Transmission.dealt, reports, moved]

@[simp] theorem deal_link_nil (l : Link) (ticks : Nat) : l.deal [] ticks = l := by
  have same : (fun x : Transmission => x.dealt [] ticks) = id :=
    funext fun x => dealt_reply_other (.inr fun r _ => dealt_nil r)
  simp [Link.deal, same]

/-- With no record of a head detected later, a record is offered as it is. -/
theorem offerInOrder_last {s : State} {w : OfferedRecord} (h : ∀ o ∈ s.store.offered, w.aheadOf o = false) :
    s.offerInOrder w
      = State.offer { s with store := { s.store with offered := s.store.offered ++ [w] } } w.track (.head w.record) := by
  have none : s.store.offered.filter w.aheadOf = [] := List.filter_eq_nil_iff.mpr fun o k => by simp [h o k]
  have kept : inPlaceOf [] = id := rfl
  simp [State.offerInOrder, OfferedRecord.moves, none, Store.deal, kept]

/-- Behind one record of a head detected later, a record takes its place in the store, and that one is offered now. -/
theorem offerInOrder_swap {s : State} {w o : OfferedRecord} (h : s.store.offered.filter w.aheadOf = [o]) :
    s.offerInOrder w
      = State.offer
          { s with
            store := { s.store with
              records := s.store.records.map fun r => r.dealt [(o, w)]
              offered := s.store.offered.map (inPlaceOf [(o, w)]) ++ [o] }
            link := s.link.deal [(o, w)] s.ticks } w.track (.head o.record) := by
  simp [State.offerInOrder, OfferedRecord.moves, h, Store.deal]

/-! ## Setting local time (R147, R150, R155, R157) -/

/-- The stamp of a pulse whose count runs on stays. -/
theorem movedStamp_counting {ticks accepts : Nat} {delta stamp : LocalTime} (h : ticks < accepts) :
    movedStamp ticks delta stamp accepts = stamp := if_neg (Nat.not_le.mpr h)

/-- An input whose count runs on, or that has none, stays. -/
theorem moved_input {x : WheelInput} {ticks : Nat} {delta : LocalTime} (h : ∀ n, x.count = some n → ticks < n.2) :
    x.moved ticks delta = x := by
  obtain ⟨level, _ | n⟩ := x
  · rfl
  · simp [WheelInput.moved, movedStamp_counting (h n rfl)]

/-- With no pulse whose count has run out, setting local time moves no pulse of a track. -/
theorem moved_quiet {c : Channel} {ticks : Nat} {delta : LocalTime}
    (real : ∀ w n, (c.wheels.get w).count = some n → ticks < n.2) (synthetic : ∀ p ∈ c.synthetic, ticks < p.accepts) :
    c.moved ticks delta = c := by
  have pulses : (c.synthetic.map fun p => { p with timestamp := movedStamp ticks delta p.timestamp p.accepts })
      = c.synthetic :=
    (List.map_congr_left fun p k => by rw [movedStamp_counting (synthetic p k)]; rfl).trans (List.map_id _)
  simp only [Channel.moved, pulses, moved_input (x := c.wheels.wao) (real .wao), moved_input (x := c.wheels.wai) (real .wai),
    moved_input (x := c.wheels.wbi) (real .wbi), moved_input (x := c.wheels.wbo) (real .wbo)]

/-- Setting local time touches the clock and the pulses alone. -/
theorem setLocalTime_keeps (s : State) (now : LocalTime) :
    s.setLocalTime now = { s with localTime := now, channels := (s.setLocalTime now).channels } := rfl

/-! ## The close of heads (R14, R70, R111) -/

/-- The end of a close test changes nothing, or completes the close of a passage with no head left. -/
theorem settleClose_cases (s : State) (t : TrackId) :
    s.settleClose t = s
    ∨ ((s.channel t).closing = true ∧ (s.channel t).heads = [] ∧ (s.channel t).closingSince ≠ some s.ticks
      ∧ s.settleClose t = s.completeClose t) := by
  unfold State.settleClose Channel.closeOver
  split
  · exact .inr (by simp_all)
  · exact .inl rfl

/-- CLEAR_INTERVAL_EXPIRY begins a close whose timer has run out, completes one with no head left, or changes nothing. -/
theorem execClearIntervalExpiry_cases (t : TrackId) (s : State) :
    ((s.channel t).clearDue s.ticks = true ∧ execClearIntervalExpiry t s = .next (s.beginClose t))
    ∨ ((s.channel t).clearDue s.ticks = false ∧ (s.channel t).closeOver = true
      ∧ execClearIntervalExpiry t s = .next (s.completeClose t))
    ∨ ((s.channel t).clearDue s.ticks = false ∧ (s.channel t).closeOver = false
      ∧ execClearIntervalExpiry t s = .next s) := by
  unfold execClearIntervalExpiry
  cases (s.channel t).clearDue s.ticks <;> cases (s.channel t).closeOver <;> simp

/-- A head under test stays, or closes because nothing holds it open. -/
theorem closeTest_cases (s : State) (t : TrackId) (index : Nat) :
    s.closeTest t index = s
    ∨ ∃ h, s.findHead t index = some h ∧ s.mayClose t h = true
      ∧ s.closeTest t index = s.closeHead t index (s.channel t).closeCause := by
  unfold State.closeTest
  split
  · exact .inl rfl
  · next h found =>
    split
    · exact .inr ⟨h, found, ‹_›, rfl⟩
    · exact .inl rfl

@[simp] theorem closeTests_nil (s : State) (t : TrackId) : s.closeTests t [] = s := rfl

@[simp] theorem closeTests_cons (s : State) (t : TrackId) (index : Nat) (rest : List Nat) :
    s.closeTests t (index :: rest) = (s.closeTest t index).closeTests t rest := rfl

/-- Outside the closing phase only the head itself is tested, and the passage does not close. -/
theorem testHead_open {s : State} {t : TrackId} {index : Nat} (h : ((s.closeTest t index).channel t).closing = false) :
    s.testHead t index = s.closeTest t index := by
  simp [State.testHead, State.settleClose, Channel.closeOver, h]

/-- A result finds its head open, which notes it; or it changes nothing. -/
theorem settleResult_cases (s : State) (r : ShotRef) (result : Confirmation) :
    (s.shotHeadOpen r = false ∧ s.settleResult r result = s)
    ∨ (s.shotHeadOpen r = true
      ∧ s.settleResult r result = s.updHead r.track r.index fun h => h.settleShot r.step result) := by
  unfold State.settleResult
  split <;> simp_all

end Sys2Proof.Machine
end

