-- ==== Sys2Proof/Laws/Frames.lean ====
section
/-! SUPPORT. What each shared operation can touch, said once. `Records s u`: `u` is `s` but for the channels, the timeline,
the health entries, the store, the attention unit and what a FETCH RECORD reply in transmission reports. `Work s u`: `u` is
`s` but for those, the cameras and the strobe unit's strobes, queue and charger. Neither touches the clocks, the tracker, the
plans, the bindings, the inhibit, the rest of the link, the waiting commands or the free choices. -/

namespace Sys2Proof.Machine

/-- The link is the same but for the bytes of the reply in transmission and the record that it reports. -/
def Revised (l m : Link) : Prop :=
  m = { l with transmission := m.transmission }
  ∧ (m.transmission.map fun x => (x.request, x.started, x.restarts))
    = l.transmission.map fun x => (x.request, x.started, x.restarts)

/-- `u` differs from `s` in the channels, the timeline, the health entries, the store, the attention unit and what the reply
in transmission reports at most. -/
def Records (s u : State) : Prop :=
  ∃ channels timeline health store attention link,
    u = { s with
      channels := channels, timeline := timeline, health := health, store := store, attention := attention, link := link }
    ∧ Revised s.link link

/-- `u` differs from `s` as `Records` says, and in the cameras, the strobes, the charge queue and the charger at most. -/
def Work (s u : State) : Prop :=
  ∃ channels timeline cameras strobes chargeQueue charger chgEn chgSel health store attention link,
    u = { s with
      channels := channels, timeline := timeline, cameras := cameras, strobes := strobes, chargeQueue := chargeQueue,
      charger := charger, chgEn := chgEn, chgSel := chgSel, health := health, store := store, attention := attention,
      link := link }
    ∧ Revised s.link link

variable {s u v : State} {l m n : Link}

theorem Revised.refl (l : Link) : Revised l l := ⟨rfl, rfl⟩

theorem Revised.trans (h : Revised l m) (k : Revised m n) : Revised l n :=
  ⟨by rw [k.1, h.1], k.2.trans h.2⟩

/-- What `Revised` leaves as it was. -/
theorem Revised.keeps (h : Revised l m) :
    m.baud = l.baud ∧ m.receiver = l.receiver ∧ m.queue = l.queue ∧ (m.transmission = none ↔ l.transmission = none) := by
  obtain ⟨rest, reply⟩ := h
  refine ⟨by rw [rest], by rw [rest], by rw [rest], ?_⟩
  cases hm : m.transmission <;> cases hl : l.transmission <;> simp_all

/-- Dealing revises the link at most. -/
theorem deal_revised (l : Link) (moves : Moves) (ticks : Nat) : Revised l (l.deal moves ticks) := by
  refine ⟨rfl, ?_⟩
  cases h : l.transmission with
  | none => simp [Link.deal, h]
  | some x =>
    simp only [Link.deal, h, Option.map_some, Transmission.dealt]
    split
    · split <;> rfl
    · rfl

/-- The link alone is as it was. -/
theorem Records.of (s : State) (channels timeline health store attention) :
    Records s
      { s with channels := channels, timeline := timeline, health := health, store := store, attention := attention } :=
  ⟨_, _, _, _, _, _, rfl, .refl _⟩

theorem Records.refl (s : State) : Records s s := .of s _ _ _ _ _

theorem Records.trans (h : Records s u) (k : Records u v) : Records s v := by
  obtain ⟨_, _, _, _, _, _, rfl, h⟩ := h
  obtain ⟨_, _, _, _, _, _, rfl, k⟩ := k
  exact ⟨_, _, _, _, _, _, rfl, h.trans k⟩

/-- The link alone is as it was. -/
theorem Work.of (s : State) (channels timeline cameras strobes chargeQueue charger chgEn chgSel health store attention) :
    Work s
      { s with
        channels := channels, timeline := timeline, cameras := cameras, strobes := strobes, chargeQueue := chargeQueue,
        charger := charger, chgEn := chgEn, chgSel := chgSel, health := health, store := store, attention := attention } :=
  ⟨_, _, _, _, _, _, _, _, _, _, _, _, rfl, .refl _⟩

theorem Work.refl (s : State) : Work s s := .of s _ _ _ _ _ _ _ _ _ _ _

theorem Work.trans (h : Work s u) (k : Work u v) : Work s v := by
  obtain ⟨_, _, _, _, _, _, _, _, _, _, _, _, rfl, h⟩ := h
  obtain ⟨_, _, _, _, _, _, _, _, _, _, _, _, rfl, k⟩ := k
  exact ⟨_, _, _, _, _, _, _, _, _, _, _, _, rfl, h.trans k⟩

theorem Records.work (h : Records s u) : Work s u := by
  obtain ⟨_, _, _, _, _, _, rfl, h⟩ := h
  exact ⟨_, _, _, _, _, _, _, _, _, _, _, _, rfl, h⟩

/-- What `Work` leaves as it was. -/
theorem Work.keeps (h : Work s u) :
    u.ticks = s.ticks ∧ u.localTime = s.localTime ∧ u.tracker = s.tracker ∧ u.plans = s.plans ∧ u.bindings = s.bindings
    ∧ u.inhibits = s.inhibits ∧ u.inhibit = s.inhibit ∧ u.autoRejoin = s.autoRejoin ∧ Revised s.link u.link
    ∧ u.pending = s.pending ∧ u.choices = s.choices := by
  obtain ⟨_, _, _, _, _, _, _, _, _, _, _, _, rfl, h⟩ := h
  simp [h]

/-- What `Records` leaves as it was, beside what `Work` does. -/
theorem Records.keeps (h : Records s u) :
    u.cameras = s.cameras ∧ u.strobes = s.strobes ∧ u.chargeQueue = s.chargeQueue ∧ u.charger = s.charger
    ∧ u.chgEn = s.chgEn ∧ u.chgSel = s.chgSel := by
  obtain ⟨_, _, _, _, _, _, rfl, -⟩ := h
  simp

/-- A fold whose every step is `Records` is `Records`. -/
theorem Records.foldl {α : Type} (f : State → α → State) (h : ∀ s x, Records s (f s x)) (l : List α) (s : State) :
    Records s (l.foldl f s) := by
  induction l generalizing s with
  | nil => exact .refl s
  | cons x rest ih => exact (h s x).trans (ih _)

/-- A fold whose every step is `Work` is `Work`. -/
theorem Work.foldl {α : Type} (f : State → α → State) (h : ∀ s x, Work s (f s x)) (l : List α) (s : State) :
    Work s (l.foldl f s) := by
  induction l generalizing s with
  | nil => exact .refl s
  | cons x rest ih => exact (h s x).trans (ih _)

/-! ## Updates, attention and health -/

theorem updChannel_records (s : State) (t : TrackId) (f : Channel → Channel) : Records s (s.updChannel t f) :=
  .of _ _ _ _ _ _

theorem updHead_records (s : State) (t : TrackId) (n : Nat) (f : Head → Head) : Records s (s.updHead t n f) :=
  updChannel_records s t _

theorem updPassage_records (s : State) (t : TrackId) (f : Passage → Passage) : Records s (s.updPassage t f) :=
  updChannel_records s t _

theorem latch_records (s : State) (e : Event) : Records s (s.latch e) := .of _ _ _ _ _ _

theorem latchSome_records (s : State) (e : Option Event) : Records s (s.latchSome e) := by
  cases e
  · exact .refl s
  · exact latch_records s _

theorem updHealth_records (s : State) (i : Fin 12) (f : Health → Health) : Records s (s.updHealth i f) :=
  .of _ _ _ _ _ _

theorem fault_records (s : State) (i : Fin 12) : Records s (s.fault i) :=
  (updHealth_records s i _).trans (latchSome_records _ _)

theorem good_records (s : State) (i : Fin 12) : Records s (s.good i) :=
  (updHealth_records s i _).trans (latchSome_records _ _)

theorem faultUnlessRehearsal_records (s : State) (t : TrackId) (i : Fin 12) : Records s (s.faultUnlessRehearsal t i) := by
  unfold State.faultUnlessRehearsal
  split
  · exact .refl s
  · exact fault_records s i

theorem goodUnlessRehearsal_records (s : State) (t : TrackId) (i : Fin 12) : Records s (s.goodUnlessRehearsal t i) := by
  unfold State.goodUnlessRehearsal
  split
  · exact .refl s
  · exact good_records s i

theorem agree_records (s : State) (i : Fin 12) : Records s (s.agree i) := by
  unfold State.agree
  dsimp only
  split
  · exact (updHealth_records s i _).trans (latch_records _ _)
  · exact updHealth_records s i _

theorem reportSensor_records (s : State) (t : TrackId) (agreed : Option Nat) (counts : PerSensor Nat) (w : WheelSensor) :
    Records s (s.reportSensor t agreed counts w) := by
  unfold State.reportSensor
  dsimp only
  split
  · split
    · split
      · exact agree_records s _
      · exact (fault_records s _).trans (updHealth_records _ _ _)
    · exact updHealth_records s _ _
  · split
    · split
      · exact .refl s
      · exact fault_records s _
    · exact .refl s

theorem closeReport_records (s : State) (t : TrackId) (agreed : Option Nat) (counts : PerSensor Nat) :
    Records s (s.closeReport t agreed counts) :=
  Records.foldl _ (fun s w => reportSensor_records s t agreed counts w) _ s

/-! ## Records, heads and passages -/

theorem countLost_records (s : State) (t : TrackId) (body : RecordBody) : Records s (s.countLost t body) := by
  unfold State.countLost
  split
  · exact updPassage_records s t _
  · exact .refl s

/-- An offer changes the store, the records-lost count and the latched set at most (R168, R169). -/
theorem offer_records (s : State) (t : TrackId) (body : RecordBody) : Records s (s.offer t body) := by
  have stored : ∀ st : Store, Records s { s with store := st } := fun st => (.of _ _ _ _ _ _)
  unfold State.offer
  dsimp only
  split
  · split
    · exact (stored _).trans (latch_records _ _)
    · exact stored _
  · split
    · exact (countLost_records s t body).trans (latch_records _ _)
    · exact (stored _).trans (latch_records _ _)

theorem dropEntry_records (s : State) (t : TrackId) (n : Nat) : Records s (s.dropEntry t n) := .of _ _ _ _ _ _

theorem placeEntry_records (s : State) (e : TimelineEntry) : Records s (s.placeEntry e) := .of _ _ _ _ _ _

theorem dropEntries_records (s : State) (t : TrackId) : Records s (s.dropEntries t) := .of _ _ _ _ _ _

theorem offerInOrder_records (s : State) (w : OfferedRecord) : Records s (s.offerInOrder w) :=
  Records.trans ⟨_, _, _, _, _, _, rfl, deal_revised s.link _ _⟩ (offer_records _ w.track _)

theorem closeHead_records (s : State) (t : TrackId) (n : Nat) (cause : CloseCause) :
    Records s (s.closeHead t n cause) := by
  unfold State.closeHead
  split
  · exact .refl s
  · exact ((dropEntry_records s t n).trans (updChannel_records _ _ _)).trans (offerInOrder_records _ _)

theorem closeTest_records (s : State) (t : TrackId) (n : Nat) : Records s (s.closeTest t n) := by
  unfold State.closeTest
  split
  · exact .refl s
  · split
    · exact closeHead_records s t n _
    · exact .refl s

theorem closeHeads_records (t : TrackId) (cause : CloseCause) (l : List Nat) (s : State) :
    Records s (s.closeHeads t cause l) := by
  induction l generalizing s with
  | nil => exact .refl s
  | cons n rest ih => exact (closeHead_records s t n cause).trans (ih _)

theorem cancelHeads_records (s : State) (t : TrackId) : Records s (s.cancelHeads t) := closeHeads_records t _ _ s

theorem offerPassage_records (s : State) (t : TrackId) (agreed : Option Nat) : Records s (s.offerPassage t agreed) :=
  Records.trans (.of _ _ _ _ _ _) (offer_records _ t _)

theorem reportClose_records (s : State) (t : TrackId) : Records s (s.reportClose t) := by
  unfold State.reportClose
  dsimp only
  split
  · exact closeReport_records s t _ _
  · exact .refl s

theorem completeClose_records (s : State) (t : TrackId) : Records s (s.completeClose t) := by
  unfold State.completeClose
  exact ((reportClose_records s t).trans (offerPassage_records _ _ _)).trans (updChannel_records _ _ _)

theorem settleClose_records (s : State) (t : TrackId) : Records s (s.settleClose t) := by
  unfold State.settleClose
  split
  · exact completeClose_records s t
  · exact .refl s

theorem closeTests_records (t : TrackId) (l : List Nat) (s : State) : Records s (s.closeTests t l) := by
  induction l generalizing s with
  | nil => exact .refl s
  | cons n rest ih => exact (closeTest_records s t n).trans (ih _)

theorem testHead_records (s : State) (t : TrackId) (n : Nat) : Records s (s.testHead t n) :=
  (closeTest_records s t n).trans (settleClose_records _ _)

theorem settleResult_records (s : State) (r : ShotRef) (result : Confirmation) : Records s (s.settleResult r result) := by
  unfold State.settleResult
  split
  · exact updHead_records s _ _ _
  · exact .refl s

theorem testShotHead_records (s : State) (r : ShotRef) : Records s (s.testShotHead r) := by
  unfold State.testShotHead
  split
  · exact testHead_records s _ _
  · exact .refl s

/-- A result handed to a shot changes heads, records and the passage at most (R111). -/
theorem handOver_records (s : State) (r : ShotRef) (result : Confirmation) : Records s (s.handOver r result) :=
  (settleResult_records s r result).trans (testShotHead_records _ r)

theorem handOverBoth_records (s : State) (a b : ShotRef) (first second : Confirmation) :
    Records s (s.handOverBoth a first b second) :=
  (((settleResult_records s a first).trans (settleResult_records _ b second)).trans (testShotHead_records _ a)).trans
    (testShotHead_records _ b)

/-! ## Cameras and strobes -/

theorem updCamera_work (s : State) (i : Fin 8) (f : Camera → Camera) : Work s (s.updCamera i f) :=
  .of _ _ _ _ _ _ _ _ _ _ _ _

theorem updStrobe_work (s : State) (x : Fin 6) (f : Strobe → Strobe) : Work s (s.updStrobe x f) :=
  .of _ _ _ _ _ _ _ _ _ _ _ _

theorem powerUpCameras_work (s : State) (t : TrackId) : Work s (s.powerUpCameras t) :=
  Work.foldl _ (fun s i => updCamera_work s i _) _ s

theorem abortWindow_work (s : State) (i : Fin 8) : Work s (s.abortWindow i) := by
  unfold State.abortWindow
  split
  · exact (updCamera_work s i _).trans (handOver_records _ _ _).work
  · exact .refl s

theorem cutCamera_work (s : State) (i : Fin 8) : Work s (s.cutCamera i) := by
  unfold State.cutCamera
  dsimp only
  split
  · exact (updCamera_work s i _).trans (handOver_records _ _ _).work
  · exact updCamera_work s i _

theorem removePower_work (s : State) (i : Fin 8) : Work s (s.removePower i) := by
  unfold State.removePower
  split
  · exact (abortWindow_work s i).trans (cutCamera_work _ _)
  · exact .refl s

theorem powerDownCameras_work (s : State) (t : TrackId) : Work s (s.powerDownCameras t) :=
  Work.foldl _ (fun s i => removePower_work s i) _ s

theorem joinQueue_work (s : State) (x : Fin 6) (lastPulse : Option Nat) : Work s (s.joinQueue x lastPulse) :=
  .of _ _ _ _ _ _ _ _ _ _ _ _

theorem beginCharge_work (s : State) (joins : Option Nat) (x : Fin 6) : Work s (s.beginCharge joins x) :=
  .of _ _ _ _ _ _ _ _ _ _ _ _

theorem startCharge_work (s : State) (joins : Option Nat) : Work s (s.startCharge joins) := by
  unfold State.startCharge
  split
  · exact .refl s
  · split
    · exact .refl s
    · exact beginCharge_work s joins _

theorem reopenChoice_work (s : State) : Work s s.reopenChoice := by
  unfold State.reopenChoice
  split
  · split
    · exact (joinQueue_work s _ _).trans (.of _ _ _ _ _ _ _ _ _ _ _ _)
    · exact .refl s
  · exact .refl s

theorem joinOffStrobes_work (l : List (Fin 6)) (s : State) : Work s (s.joinOffStrobes l) := by
  induction l generalizing s with
  | nil => exact .refl s
  | cons x rest ih =>
    refine Work.trans ?_ (ih _)
    split
    · exact joinQueue_work s x _
    · exact .refl s

theorem powerUpPool_work (s : State) : Work s s.powerUpPool :=
  (joinOffStrobes_work _ s).trans (startCharge_work _ _)

theorem powerDownPool_work (s : State) : Work s s.powerDownPool := .of _ _ _ _ _ _ _ _ _ _ _ _

theorem wakePool_work (s : State) (awake : Bool) : Work s (s.wakePool awake) := by
  unfold State.wakePool
  split
  · exact .refl s
  · exact powerUpPool_work s

theorem restPool_work (s : State) : Work s s.restPool := by
  unfold State.restPool
  split
  · exact .refl s
  · exact powerDownPool_work s

theorem powerDownTrack_work (s : State) (t : TrackId) : Work s (s.powerDownTrack t) :=
  (powerDownCameras_work s t).trans (restPool_work _)

theorem flashCut_records (s : State) (r : ShotRef) : Records s (s.flashCut r) := by
  unfold State.flashCut
  split
  · exact updHead_records s _ _ _
  · exact .refl s

theorem cutStrobe_work (s : State) (x : Fin 6) : Work s (s.cutStrobe x) := by
  unfold State.cutStrobe
  split
  · exact (joinQueue_work s x _).trans (flashCut_records _ _).work
  · exact .refl s

theorem cutFiring_work (s : State) : Work s s.cutFiring := by
  unfold State.cutFiring
  split
  · exact ((reopenChoice_work s).trans (Work.foldl _ (fun s x => cutStrobe_work s x) _ _)).trans (startCharge_work _ _)
  · exact .refl s

/-! ## Plans, heads and speeds -/

theorem addShot_records (s : State) (t : TrackId) (n : Nat) (x : Shot) : Records s (s.addShot t n x) :=
  updHead_records s t n _

theorem requestExposure_work (s : State) (i : Fin 8) (shot : ShotRef) (a : CameraAnswer) :
    Work s (s.requestExposure i shot a) := by
  cases a
  · exact updCamera_work s i _
  all_goals exact .refl s

theorem fireFor_work (s : State) (strobe : Option (Fin 6)) (t : TrackId) (shot : ShotRef) (exposure : Nat) :
    Work s (s.fireFor strobe t shot exposure) := by
  unfold State.fireFor
  split
  · exact .refl s
  · split
    · exact updStrobe_work s _ _
    · exact .refl s

theorem runExpose_work (s : State) (t : TrackId) (h : Head) (step : Nat) (camera : Fin 8) (strobe : Option (Fin 6))
    (due : LocalTime) : Work s (s.runExpose t h step camera strobe due) := by
  unfold State.runExpose
  dsimp only
  split
  · exact ((requestExposure_work s _ _ _).trans (fireFor_work _ _ _ _ _)).trans (addShot_records _ _ _ _).work
  all_goals exact (addShot_records s _ _ _).work

theorem schedule_records (s : State) (t : TrackId) (n step : Nat) (kind : WaitKind) (due : LocalTime) :
    Records s (s.schedule t n step kind due) :=
  (updHead_records s t n _).trans (placeEntry_records _ _)

theorem finishPlan_records (s : State) (t : TrackId) (n step : Nat) : Records s (s.finishPlan t n step) :=
  (updHead_records s t n _).trans (closeTest_records _ _ _)

/-- A run of plan steps changes the head, its entry, the cameras and strobes it calls on, and what a close changes
(R86 to R94). -/
theorem runPlan_work (t : TrackId) (n : Nat) (steps : List Step) (step : Nat) (run : Run) (s : State) :
    Work s (runPlan t n steps step run s) := by
  induction steps generalizing step run s with
  | nil => exact (finishPlan_records s t n step).work
  | cons x rest ih =>
    cases x with
    | atPos p =>
      unfold runPlan
      split
      · exact .refl s
      · split
        · exact (updHead_records s t n _).work
        · split
          · exact (schedule_records s t n step _ _).work
          · exact ih _ _ _
    | after d => exact (schedule_records s t n step _ _).work
    | expose camera strobe =>
      unfold runPlan
      split
      · exact .refl s
      · refine Work.trans ?_ (ih _ _ _)
        split
        · exact (addShot_records s t n _).work
        · exact runExpose_work s t _ step camera strobe _
    | mark =>
      unfold runPlan
      refine Work.trans ?_ (ih _ _ _)
      split
      · exact .refl s
      · exact (updHead_records s t n _).work

theorem arrive_work (s : State) (t : TrackId) (n : Nat) (c : Cursor) : Work s (s.arrive t n c) := runPlan_work _ _ _ _ _ _

theorem startPlan_work (s : State) (t : TrackId) (n : Nat) : Work s (s.startPlan t n) := by
  unfold State.startPlan
  dsimp only
  split
  · exact (updHead_records s t n _).work
  · exact (updHead_records s t n _).work.trans (arrive_work _ _ _ _)

theorem retime_work (s : State) (t : TrackId) (n : Nat) : Work s (s.retime t n) := by
  unfold State.retime
  split
  · exact .refl s
  · split
    · exact .refl s
    · split
      · exact (dropEntry_records s t n).work.trans (arrive_work _ _ _ _)
      · exact .refl s

theorem expireEntry_work (s : State) (t : TrackId) (n : Nat) (e : TimelineEntry) : Work s (s.expireEntry t n e) :=
  (dropEntry_records s t n).work.trans (runPlan_work _ _ _ _ _ _)

theorem firstTiming_work (s : State) (t : TrackId) (n estimate : Nat) : Work s (s.firstTiming t n estimate) := by
  unfold State.firstTiming
  dsimp only
  split
  · exact .refl s
  · have anchored := fun h i => ((updHead_records s t n h).trans (goodUnlessRehearsal_records _ t i)).work
    split
    · exact (anchored _ _).trans (closeHead_records _ _ _ _).work
    · exact ((anchored _ _).trans (startPlan_work _ _ _)).trans (closeTest_records _ _ _).work

theorem rejectInterval_records (s : State) (t : TrackId) : Records s (s.rejectInterval t) :=
  (updPassage_records s t _).trans (faultUnlessRehearsal_records _ _ _)

theorem judgeUntimed_work (s : State) (t : TrackId) (n estimate : Nat) : Work s (s.judgeUntimed t n estimate) := by
  unfold State.judgeUntimed
  split
  · exact .refl s
  · split
    · exact (updPassage_records s t _).work.trans (firstTiming_work _ _ _ _)
    · exact ((updChannel_records s t _).trans (rejectInterval_records _ _)).work

theorem judgeAll_work (t : TrackId) (estimate : Nat) (l : List Nat) (s : State) : Work s (s.judgeAll t estimate l) := by
  induction l generalizing s with
  | nil => exact .refl s
  | cons n rest ih => exact (judgeUntimed_work s t n estimate).trans (ih _)

theorem reanchorHead_work (s : State) (t : TrackId) (speed n : Nat) : Work s (s.reanchorHead t speed n) :=
  ((updHead_records s t n _).work.trans (retime_work _ _ _)).trans (closeTest_records _ _ _).work

theorem reanchorAll_work (t : TrackId) (speed : Nat) (l : List Nat) (s : State) : Work s (s.reanchorAll t speed l) := by
  induction l generalizing s with
  | nil => exact .refl s
  | cons n rest ih => exact (reanchorHead_work s t speed n).trans (ih _)

theorem newEstimate_work (s : State) (t : TrackId) (v : Nat) : Work s (s.newEstimate t v) := by
  unfold State.newEstimate
  dsimp only
  have reanchored := fun f e l => (updChannel_records s t f).work.trans (reanchorAll_work t e l _)
  split
  · exact (reanchored _ _ _).trans (judgeAll_work _ _ _ _)
  · exact reanchored _ _ _

/-! ## Detectors and wheels -/

theorem judgeDeparture_records (s : State) (t : TrackId) : Records s (s.judgeDeparture t) := by
  unfold State.judgeDeparture
  dsimp only
  split
  · exact .refl s
  · split
    · exact faultUnlessRehearsal_records s t _
    · exact ((updHead_records s t _ _).trans (goodUnlessRehearsal_records _ _ _)).trans (closeTest_records _ _ _)

theorem dropInterval_records (s : State) (t : TrackId) : Records s (s.dropInterval t) := by
  unfold State.dropInterval
  dsimp only
  split
  · exact (updPassage_records s t _).trans (faultUnlessRehearsal_records _ _ _)
  · exact updPassage_records s t _

theorem judgeInterval_work (s : State) (t : TrackId) (start : LocalTime) : Work s (s.judgeInterval t start) := by
  unfold State.judgeInterval
  dsimp only
  split
  · split
    · exact (rejectInterval_records s t).work
    · split
      · exact (dropInterval_records s t).work
      · exact ((updChannel_records s t _).trans (updPassage_records _ _ _)).work.trans (firstTiming_work _ _ _ _)
  · split
    · exact (dropInterval_records s t).work
    · exact (updChannel_records s t _).work

theorem disposeStart_records (s : State) (t : TrackId) (d : Detector) : Records s (s.disposeStart t d) := by
  unfold State.disposeStart
  dsimp only
  split
  · exact .refl s
  · split
    · split
      · exact updPassage_records s t _
      · exact .refl s
    · split
      · exact judgeDeparture_records s t
      · exact .refl s

theorem disposeEnd_work (s : State) (t : TrackId) (d : Detector) : Work s (s.disposeEnd t d) := by
  unfold State.disposeEnd
  dsimp only
  split
  · split
    · exact (updPassage_records s t _).work.trans (judgeInterval_work _ _ _)
    · exact .refl s
  · exact .refl s

theorem openPassage_work (s : State) (t : TrackId) (d : Direction) (stamp : LocalTime) :
    Work s (s.openPassage t d stamp) := by
  unfold State.openPassage
  dsimp only
  refine Work.trans ?_ (wakePool_work _ _)
  split
  · exact (updChannel_records s t _).work.trans (powerUpCameras_work _ _)
  · exact (updChannel_records s t _).work

theorem orphan_records (s : State) (t : TrackId) (r : PairRole) : Records s (s.orphan t r) :=
  ((updChannel_records s t _).trans (cancelHeads_records _ _)).trans (latch_records _ _)

theorem plausibleMatch_work (s : State) (t : TrackId) (r : PairRole) (v : Nat) : Work s (s.plausibleMatch t r v) := by
  unfold State.plausibleMatch
  exact (((updChannel_records s t _).work.trans (newEstimate_work _ _ _)).trans
    (goodUnlessRehearsal_records _ _ _).work).trans (goodUnlessRehearsal_records _ _ _).work

theorem judgeMatch_work (s : State) (t : TrackId) (r : PairRole) (dt : Nat) : Work s (s.judgeMatch t r dt) := by
  unfold State.judgeMatch
  dsimp only
  split
  · exact .refl s
  · split
    · exact (updPassage_records s t _).work.trans (plausibleMatch_work _ _ _ _)
    · exact ((updPassage_records s t _).trans (updChannel_records _ _ _)).work

theorem firstSensorPulse_records (s : State) (t : TrackId) (w : WheelSensor) (r : PairRole) (stamp : LocalTime) :
    Records s (s.firstSensorPulse t w r stamp) := by
  unfold State.firstSensorPulse
  split
  · exact updChannel_records s t _
  · exact faultUnlessRehearsal_records s t _

theorem secondSensorPulse_work (s : State) (t : TrackId) (r : PairRole) (stamp : LocalTime) :
    Work s (s.secondSensorPulse t r stamp) := by
  unfold State.secondSensorPulse
  dsimp only
  split
  · split
    · exact (orphan_records s t r).work
    · exact .refl s
  · split
    · exact (updChannel_records s t _).work.trans (judgeMatch_work _ _ _ _)
    · exact (updChannel_records s t _).work

theorem pairPulse_work (s : State) (t : TrackId) (w : WheelSensor) (stamp : LocalTime) :
    Work s (s.pairPulse t w stamp) := by
  unfold State.pairPulse
  dsimp only
  split
  · exact .refl s
  · split
    · exact (firstSensorPulse_records s t w _ stamp).work
    · exact secondSensorPulse_work s t _ stamp

theorem takePulse_work (s : State) (t : TrackId) (w : WheelSensor) (stamp : LocalTime) :
    Work s (s.takePulse t w stamp) := by
  unfold State.takePulse
  dsimp only
  split
  · exact (updChannel_records s t _).work.trans (pairPulse_work _ _ _ _)
  · exact (updChannel_records s t _).work

theorem openingPulse_work (s : State) (t : TrackId) (w : WheelSensor) (stamp : LocalTime) :
    Work s (s.openingPulse t w stamp) := by
  unfold State.openingPulse
  split
  · exact (openPassage_work s t _ stamp).trans (takePulse_work _ _ _ _)
  · exact .refl s

/-- An accepted wheel pulse changes tracks, records, cameras and strobes at most (R26). -/
theorem disposePulse_work (s : State) (t : TrackId) (w : WheelSensor) (stamp : LocalTime) :
    Work s (s.disposePulse t w stamp) := by
  unfold State.disposePulse
  split
  · exact .refl s
  · exact openingPulse_work s t w stamp
  · exact openingPulse_work s t w stamp
  · split
    · exact takePulse_work s t w stamp
    · exact .refl s

/-! ## Passage close and track mode -/

theorem stuckTest_records (s : State) (t : TrackId) (d : Detector) : Records s (s.stuckTest t d) := by
  unfold State.stuckTest
  split
  · exact faultUnlessRehearsal_records s t _
  · exact .refl s

theorem beginClose_records (s : State) (t : TrackId) : Records s (s.beginClose t) := by
  unfold State.beginClose
  exact (((Records.foldl _ (fun s d => stuckTest_records s t d) _ s).trans (updChannel_records _ _ _)).trans
    (dropEntries_records _ _)).trans (closeTests_records _ _ _)

theorem wakeTrack_work (s : State) (t : TrackId) (m : Mode) : Work s (s.wakeTrack t m) := by
  unfold State.wakeTrack
  exact ((updChannel_records s t _).work.trans (powerUpCameras_work _ _)).trans (wakePool_work _ _)

theorem abortPassage_records (s : State) (t : TrackId) : Records s (s.abortPassage t) :=
  ((updChannel_records s t _).trans (cancelHeads_records _ _)).trans (offerPassage_records _ _ _)

theorem leaveService_work (s : State) (t : TrackId) : Work s (s.leaveService t) :=
  (updChannel_records s t _).work.trans (powerDownTrack_work _ _)

theorem goOffline_work (s : State) (t : TrackId) : Work s (s.goOffline t) := by
  unfold State.goOffline
  split
  · exact .refl s
  · exact leaveService_work s t
  · exact leaveService_work s t
  · exact (abortPassage_records s t).work.trans (leaveService_work _ _)

theorem goInService_work (s : State) (t : TrackId) (m : Mode) : Work s (s.goInService t m).state := by
  unfold State.goInService
  split
  · split
    · exact wakeTrack_work s t m
    · exact .refl s
  · exact (updChannel_records s t fun c => (c.takeMode m).enterIdle s.ticks).work
  · exact wakeTrack_work s t m
  · split <;> exact .refl s

theorem deliver_records (s : State) (t : TrackId) (e : SyntheticEdge) : Records s (s.deliver t e) := by
  unfold State.deliver
  dsimp only
  split
  · exact (updChannel_records s t _).trans (latch_records _ _)
  · exact updChannel_records s t _

end Sys2Proof.Machine
end

