-- ==== Sys2Proof/Laws/Requests.lean ====
section
/-! SUPPORT. What a request command does, said once: it submits a frame, an idle link processes it at once, and its answer is
that of its handler. -/

namespace Sys2Proof.Machine

variable {s u : State} {k : RequestKind} {body : List Byte}

/-- Every request row submits a frame of its kind. -/
theorem exec_command (k : RequestKind) (tag : Byte) (body : List Byte) (s : State) :
    exec (k.command tag body) s = .next (s.submit k tag body) := by cases k <;> rfl

/-- The code of a kind names the kind. -/
theorem kindOfByte_code (k : RequestKind) : kindOfByte k.code = some k := by cases k <;> rfl

/-- The length check of a kind is the comparison with its required length. -/
theorem bodyLengthOk_iff (k : RequestKind) (body : List Byte) :
    bodyLengthOk k body = true ↔ body.length = k.requiredLength body := by
  cases k <;> simp [bodyLengthOk, RequestKind.requiredLength]
  · omega
  · omega

/-- An idle link processes a request at once. -/
theorem State.receive_idle (h : s.LinkIdle) (q : Request) : s.receive q = s.process q := by
  simp [State.receive, h.1, h.2]

/-- A request command with a body that fits in a frame, at an idle link. -/
theorem exec_command_idle (h : s.LinkIdle) (k : RequestKind) (tag : Byte) (fits : body.length ≤ 248) :
    exec (k.command tag body) s = .next (s.process { kind := k.code, tag := tag, body := body }) := by
  rw [exec_command]
  simp [State.submit, bodyFits, Config.maxBody, fits, State.receive_idle h]

/-- Only the kind of RESTART starts a restart. -/
theorem restartsAfter_of_ne (tag : Byte) (status : Status) (h : k ≠ .restart) :
    restartsAfter { kind := k.code, tag := tag, body := body } status = false := by
  cases k <;> simp [restartsAfter, RequestKind.code] at *

/-- Only an accepted FETCH RECORD notes the record that it reports. -/
theorem reportedBy_eq (q : Request) (status : Status) :
    s.reportedBy q status = if q.kind = 0x40#8 ∧ status = .ok then s.store.records.head? else none := by
  by_cases fetches : q.kind = RequestKind.fetchRecord.code
  · simp [State.reportedBy, fetches, RequestKind.code]
  · simp [State.reportedBy, fetches, show q.kind ≠ 0x40#8 from fetches]

/-- A request of the right length is answered as its handler says. -/
theorem answers_of_handle {status : Status} {fields : List Byte} (h : s.LinkIdle) (fits : body.length ≤ 248)
    (length : body.length = k.requiredLength body) (kind : k ≠ .restart) (handled : handle k body s = ⟨u, status, fields⟩)
    (ticks : u.ticks = s.ticks) : Answers k body s u status fields := by
  intro tag
  unfold Completes
  rw [exec_command_idle h k tag fits]
  simp only [State.process, answer, kindOfByte_code, (bodyLengthOk_iff k body).2 length, if_true, handled,
    restartsAfter_of_ne tag status kind, State.replying, ticks, reportedBy_eq]

/-- A request that its handler judges by values and then by state. -/
theorem judged_of_handle {values state : Prop} {fields : List Byte} (h : s.LinkIdle) (fits : body.length ≤ 248)
    (length : body.length = k.requiredLength body) (kind : k ≠ .restart)
    (bad : ¬values → handle k body s = refuse s .badValue) (wrong : values → ¬state → handle k body s = refuse s .wrongState)
    (good : values → state → handle k body s = accept u fields) (ticks : u.ticks = s.ticks) :
    Judged k body s values state u fields :=
  ⟨fun v => answers_of_handle h fits length kind (bad v) rfl, fun v w => answers_of_handle h fits length kind (wrong v w) rfl,
    fun v w => answers_of_handle h fits length kind (good v w) ticks⟩

/-- The value of `n` bytes little-endian is below 256 to the n. -/
theorem fromBytes_lt (b : List Byte) : fromBytes b < 256 ^ b.length := by
  induction b with
  | nil => simp [fromBytes]
  | cons x rest ih =>
    have := x.isLt
    simp only [fromBytes, List.length_cons, Nat.pow_succ]
    omega

/-- `n` bytes of a number are `n` bytes. -/
@[simp] theorem toBytes_length (n x : Nat) : (toBytes n x).length = n := by
  induction n generalizing x with
  | zero => rfl
  | succ n ih => simp [toBytes, ih]

/-- The bytes of a number spell the number, modulo their range. -/
theorem fromBytes_toBytes (n x : Nat) : fromBytes (toBytes n x) = x % 256 ^ n := by
  induction n generalizing x with
  | zero => simp [fromBytes, toBytes, Nat.mod_one]
  | succ n ih =>
    rw [Nat.pow_succ, Nat.mul_comm (256 ^ n) 256, Nat.mod_mul, toBytes, fromBytes, ih, BitVec.toNat_ofNat]

end Sys2Proof.Machine
end

