-- ==== Sys2Proof/Tests/Slice0.lean ====
section
/-! SUPPORT. Tests. The first part checks one step each against figures that the spec works out itself. The second part
shows, for every statement with hypotheses, concrete states and operands that meet them, at the ends of their ranges. -/

-- One theorem at a time: each waits for the kernel, and a waiting theorem holds a thread of its own.
set_option Elab.async false

namespace Sys2Proof.Tests

open Sys2Proof.Machine

/-! ## Helpers -/

/-- The state after a command. -/
def ran (c : Instr) (s : State) : State :=
  match exec c s with
  | .next t => t
  | .fault _ => s
  | .refused _ => s

/-- The status byte of the reply in transmission. -/
def status (s : State) : Option Byte := s.link.transmission.bind fun x => x.bytes[4]?

/-- The fields of the reply in transmission. -/
def fields (s : State) : List Byte := ((s.link.transmission.map fun x => x.bytes).getD []).drop 5 |>.dropLast |>.dropLast

/-- `n` bytes that hold a number. -/
def le (n : Nat) (x : Int) : List Byte := toBytesInt n x

/-- After a reset with every inhibit pin high, at tick and local time 1,000. -/
def quiet : State :=
  { State.reset with
    inhibits := Vector.replicate 4 { level := true, enabled := true, activeHigh := false }, inhibit := false
    ticks := 1000, localTime := 1000#48 }

/-- The geometry of the worked case of section 3.7. -/
def worked : Geometry := ⟨-60000, -45000, -12000, 12000, 45000, 60000⟩

/-- Track T1 in the first passage of LIVE mode, direction A→B, with the worked geometry. -/
def rail (f : Channel → Channel) : State :=
  quiet.updChannel .t1 fun c =>
    f { c with
      state := .passage, mode := some .live, geometryValid := true, geometry := worked, clearTimer := some 1000
      passage := { c.passage with number := 1, approachInUse := true, departureInUse := true } }

/-- Track T1 in IDLE in a mode, its dormant delay over now. -/
def idle (m : Mode) : State :=
  quiet.updChannel .t1 fun c =>
    { c with state := .idle, mode := some m, geometryValid := true, geometry := worked, dormantTimer := some 1000 }

/-- A count of a wheel sensor of T1 that runs out now, for a pulse with a timestamp. -/
def pulsing (w : WheelSensor) (stamp : LocalTime) (s : State) : State :=
  s.updChannel .t1 fun c => { c with wheels := c.wheels.set w { level := true, count := some (stamp, 1000) } }

/-- A count of a detector of T1 that runs out now, at a debounce state. -/
def settling (d : Detector) (blocked : Bool) (s : State) : State :=
  s.updChannel .t1 fun c =>
    { c with detectors := c.detectors.set d { pin := !blocked, synthetic := false, blocked := blocked, count := some 1000 } }

/-- `s` at another instant of local time. -/
def at' (t : LocalTime) (s : State) : State := { s with localTime := t }

/-- The head of the worked case after the re-anchor of 1,300,280. -/
def workedHead : Head :=
  { index := 1, blockedStart := 1290000#48, duration := 4800, status := .held, length := some 399,
    firstSpeed := some 83312, anchor := some { time := 1300280#48, position := -11143553, speed := 83291 },
    predicted := some 1434071#48, departure := some 1614163#48, observed := none, crossed := false, confirmed := false,
    departed := false, speedHeld := true, cursor := some { plan := 0, tolerance := 100, step := 0 }, shots := [],
    marks := [] }

/-- A plan: AT −2,000, EXPOSE C0 with S0, AFTER 3,000. -/
def plan0 : List Step := [.atPos (-2000), .expose 0 (some 0), .after 3000]

/-- T1 with the worked head, its plan loaded and bound, and C0 and S0 READY. -/
def withHead (f : Head → Head) : State :=
  let s := rail fun c => { c with heads := [f workedHead], speed := .fresh 83291, window := [83333, 83291, 83250],
                                  passage := { c.passage with lastIndex := 1 } }
  { s with
    plans := s.plans.set 0 plan0
    bindings := ⟨⟨{ plan := some 0, tolerance := 100 }, Binding.reset⟩, ⟨Binding.reset, Binding.reset⟩⟩
    cameras := s.cameras.set 0 { Camera.reset with track := some .t1, state := .ready, cpwr := true }
    strobes := s.strobes.set 0 { Strobe.reset with state := .ready } }

/-- The shot of the worked head's step 1. -/
def shot1 : ShotRef := { track := .t1, passage := 1, index := 1, step := 1 }

/-- The entry of the worked head's first wait, due now or at another instant. -/
def entry0 (due : LocalTime) : TimelineEntry :=
  { track := .t1, passage := 1, index := 1, step := 0, kind := .atPos, due := due }

/-! ## Well-formed commands (R74, R175) -/

theorem test_body_of_249_is_ill_formed : (Instr.identify 0#8 (List.replicate 249 0#8)).wellFormed = false := by decide +kernel
theorem test_body_of_248_is_well_formed : (Instr.setTime 0#8 (List.replicate 248 0#8)).wellFormed = true := by decide +kernel
theorem test_head_index_0_is_ill_formed : (Instr.headCrosses .t1 0).wellFormed = false := by decide
theorem test_head_index_256_is_ill_formed : (Instr.headDeparted .t1 256).wellFormed = false := by decide
theorem test_entry_of_index_0_is_ill_formed : (Instr.timelineEntryExpiry .t2 0).wellFormed = false := by decide
theorem test_head_index_255_is_well_formed : (Instr.timelineEntryExpiry .t2 255).wellFormed = true := by decide
theorem test_table_spells_no_words : decodeTableWord 8 1 = none ∧ (quiet.withFetchWord 8 1).pending = [] := by decide

/-! ## The link (R175, R178, R179) -/

/-- R175: over the nine ASCII bytes "1" to "9" the CRC is 0x29B1. -/
theorem test_crc_of_nine_digits :
    crc [0x31#8, 0x32#8, 0x33#8, 0x34#8, 0x35#8, 0x36#8, 0x37#8, 0x38#8, 0x39#8] = 0x29B1#16 := by decide +kernel

/-- R178: a frame of 233 bytes is 2,330 bits, about 20,226 µs at 115,200 baud. -/
theorem test_long_reply_takes_20226 : sendTicks 0#2 233 = 20226 := by decide +kernel

/-- R179: vendor 0x0C7A, part 0x0030, revision 1, 2 tracks, 8 cameras, 6 strobes, 4 plans, 32 slots. -/
theorem test_identify : fields (ran (.identify 9#8 []) quiet)
    = [0x7A#8, 0x0C#8, 0x30#8, 0#8, 1#8, 2#8, 8#8, 6#8, 4#8, 32#8] := by decide +kernel

/-- R175: 0xA7 on TXD at 115,200 baud: a low start bit, its bits from the least significant one on, a high stop bit. -/
theorem test_txd : [0, 9, 18, 27, 35, 44, 53, 61, 70, 79].map (fun n => State.txd
      { quiet with
        ticks := n
        link := { quiet.link with
          transmission := some { request := { kind := 0#8, tag := 0#8, body := [] }, bytes := [0xA7#8], started := 0, restarts := false } } })
    = [false, true, true, true, false, false, true, false, true, true] := by decide +kernel

/-- R178: a request kind that is not in the table is answered UNKNOWN_KIND, 0x01. -/
theorem test_unknown_kind : status (quiet.process { kind := 0x7F#8, tag := 0#8, body := [] }) = some 1#8 := by decide +kernel

/-- R180: a RESTART with a non-empty body is answered BAD_LENGTH, 0x02, and does not restart. -/
theorem test_restart_with_a_body : status (ran (.restart 0#8 [1#8]) quiet) = some 2#8
    ∧ (ran (.restart 0#8 [1#8]) quiet).restarts = false := by decide +kernel

/-- R180: a frame, IDENTIFY with TAG 0x41, whose last byte is complete at the instant of a restart and is taken after it is
answered; that byte, 0xA7, opens a frame at any later instant. -/
theorem test_frame_at_the_restart :
    let restarting := { quiet with link := { quiet.link with
      receiver := .inFrame [0#8, 1#8, 0x41#8, 0x48#8] 990
      transmission := some { request := ⟨2#8, 0#8, []⟩, bytes := [], started := 0, restarts := true } } }
    let restarted := ran .restartTakesEffect restarting
    (ran (.rxByte 0xA7#8 true) restarted).link.transmission.map (fun x => x.request) = some ⟨1#8, 0x41#8, []⟩
    ∧ (ran (.rxByte 0xA7#8 true) { restarted with ticks := 1001 }).link.receiver = .inFrame [] 1001 := by decide +kernel

/-- R182, R184: READ EVENTS reports event bit 6 and clears it, and ATTN falls. -/
theorem test_read_events : fields (ran (.readEvents 0#8 []) (quiet.latch .cameraFault)) = [0x40#8, 0#8, 0#8, 0#8, 0#8]
    ∧ (ran (.readEvents 0#8 []) (quiet.latch .cameraFault)).attention.attn = false := by decide +kernel

/-- R183: a mask with bit 12 set is answered BAD_VALUE. -/
theorem test_set_attention_checks_the_mask : status (ran (.setAttention 0#8 [0#8, 0x10#8, 0#8]) quiet) = some 3#8 := by
  decide +kernel

/-! ## Tracks (chapters 1 to 4) -/

/-- R21: the worked geometry is accepted, and one with WAI left of WAO is not. -/
theorem test_geometry_order : status (ran (.setTrackGeometry 0#8 (le 1 1 ++ le 4 (-60000) ++ le 4 (-45000) ++ le 4 (-12000)
      ++ le 4 12000 ++ le 4 45000 ++ le 4 60000 ++ le 2 100)) quiet) = some 0#8
    ∧ status (ran (.setTrackGeometry 0#8 (le 1 1 ++ le 4 (-45000) ++ le 4 (-60000) ++ le 4 (-12000)
      ++ le 4 12000 ++ le 4 45000 ++ le 4 60000 ++ le 2 100)) quiet) = some 3#8 := by decide +kernel

/-- R3: a track without valid geometry stays OFFLINE, with BAD_VALUE. -/
theorem test_mode_needs_geometry : status (ran (.setTrackMode 0#8 [1#8, 1#8]) quiet) = some 3#8
    ∧ ((ran (.setTrackMode 0#8 [1#8, 1#8]) quiet).channel .t1).state = .offline := by decide +kernel

/-- Section 3.7, 1,180,100: Δt 180,000 gives the speed and the estimate 83,333. -/
theorem test_first_estimate : ((ran (.wheelPulseAccepted .t1 .wai) (pulsing .wai 1180000#48
      (rail fun c => { c with approach := { c.approach with queue := [1000000#48] } }))).channel .t1).speed
    = .fresh 83333 := by decide +kernel

/-- Section 3.7, 1,300,280: Δt 180,180 gives 83,250, plausible, and the third estimate 83,291. -/
theorem test_third_estimate : ((ran (.wheelPulseAccepted .t1 .wai) (pulsing .wai 1300180#48
      (rail fun c => { c with approach := { c.approach with queue := [1120000#48] }, speed := .fresh 83312
                              window := [83333, 83291] }))).channel .t1).speed
    = .fresh 83291 := by decide +kernel

/-- Section 3.7: the re-anchor at 1,300,280 puts head 1 at −11,143,553 µm with its crossing at 1,434,071. -/
theorem test_reanchor : (fun (h : Head) => (h.anchor, h.predicted, h.departure)) (Head.reanchor
      { workedHead with anchor := some { time := 1290000#48, position := -12000000, speed := 83312 } } 1300280#48 83291 15000001)
    = (some { time := 1300280#48, position := -11143553, speed := 83291 }, some 1434071#48, some 1614163#48) := by
  decide +kernel

/-- Section 3.7: HDA's blocked end gives the length 399, and the crossing 1,434,037. -/
theorem test_interval_is_timed : (((ran (.blockedEnd .t1 .hda) (settling .hda true (at' 1294800#48
      (rail fun c => { c with speed := .fresh 83312, passage := { c.passage with approachOpen := some 1290000#48 } })))).channel
        .t1).heads.map fun h => (h.index, h.length, h.predicted)) = [(1, some 399, some 1434037#48)] := by decide +kernel

/-- Section 3.7: HDB's blocked start at 1,578,300 gives the observed crossing 1,434,227. -/
theorem test_departure_match : (((ran (.blockedStart .t1 .hdb) (settling .hdb false (at' 1578300#48
      (withHead fun h => h)))).channel .t1).heads.map fun h => (h.confirmed, h.observed)) = [(true, some 1434227#48)] := by
  decide +kernel

/-- Section 3.7: the prediction error of the worked head is −156 µs. -/
theorem test_prediction_error : predictionError (some 1434071#48) (some 1434227#48) = some (-156) := by decide +kernel

/-- Section 10.6: an outer pulse opens passage 1 in direction A→B at its timestamp. -/
theorem test_passage_opens : (let p := ((ran (.wheelPulseAccepted .t1 .wao) (pulsing .wao 900#48 (idle .live))).channel
      .t1).passage;
    (p.number, p.direction, p.opened, p.counts.get .wao)) = (1, .ab, 900#48, 1) := by decide +kernel

/-- R15: three sensors that agree give the vote; two pairs that disagree give none. -/
theorem test_vote : vote ⟨8, 8, 7, 8⟩ = some 8 ∧ vote ⟨8, 8, 7, 7⟩ = none ∧ vote ⟨7, 8, 8, 8⟩ = some 8 := by decide

/-! ## Plans (chapter 5) -/

/-- Section 5.7: the AT −2,000 wait is due at 1,410,059 after the re-anchor, and AT +1,500 at 1,452,080. -/
theorem test_due_times : (workedHead.anchor.bind fun a => a.dueAt (-2000)) = some 1410059#48
    ∧ (workedHead.anchor.bind fun a => a.dueAt 1500) = some 1452080#48 := by decide +kernel

/-- Section 5.7: the expired AT wait exposes C0 for 24 µs, lit, and the AFTER 3,000 is due 3,000 µs later. -/
theorem test_expose : (let s := { withHead (fun h => { h with status := .scheduled }) with
        timeline := [entry0 1410059#48], localTime := 1410059#48 };
    let t := ran (.timelineEntryExpiry .t1 1) s;
    ((t.channel .t1).heads.flatMap fun h => h.shots.map fun x => (x.exposure, x.outcome), t.timeline.map fun e => e.due))
    = ([(some 24, .takenLit)], [1413059#48]) := by decide +kernel

/-- R80: a plan whose step 0 is not AT is refused with BAD_VALUE. -/
theorem test_load_plan : status (ran (.loadPlan 0#8 ([0#8, 3#8] ++ plan0.flatMap Step.bytes)) quiet) = some 0#8
    ∧ status (ran (.loadPlan 0#8 ([0#8, 1#8] ++ Step.bytes .mark)) quiet) = some 3#8 := by decide +kernel

/-- The head indices of the stored HEAD records, and of those offered at this instant. -/
def headRecords (s : State) : List Nat × List Nat :=
  (s.store.records.filterMap (fun r => match r.body with
    | .head x => some x.index
    | .passage _ => none), s.store.offered.map fun w => w.record.index)

/-- T1 with heads 1 and 2, FINISHED, which both depart now. -/
def departing : State :=
  let gone := { workedHead with status := .finished, predicted := none, departure := some 1000#48 }
  rail fun c => { c with heads := [gone, { gone with index := 2 }], clearTimer := none }

/-- R72, R174: a record is stored as its head closes; whichever closes first, they end in detection order, the numbers
too. -/
theorem test_closes_in_detection_order :
    let late := ran (.headDeparted .t1 1) (ran (.headDeparted .t1 2) departing)
    headRecords (ran (.headDeparted .t1 2) departing) = ([2], [2])
    ∧ headRecords late = ([1, 2], [1, 2])
    ∧ headRecords (ran (.headDeparted .t1 2) (ran (.headDeparted .t1 1) departing)) = ([1, 2], [1, 2])
    ∧ late.store.records.map (fun r => r.number) = [1, 2] ∧ headRecords late.advance = ([1, 2], []) := by decide +kernel

/-- R170, R174: a FETCH RECORD after the first close reports its record; if head 1 closes still, it reports that one. -/
theorem test_fetch_between_two_closes :
    let fetched := ran (.fetchRecord 0#8 []) (ran (.headDeparted .t1 2) departing)
    let index := fun (s : State) => s.link.transmission.map fun x => x.bytes.getD 19 0#8
    index fetched = some 2#8 ∧ index fetched.advance = some 2#8
    ∧ index (ran (.headDeparted .t1 1) fetched) = some 1#8
    ∧ index (ran (.headDeparted .t1 1) fetched.advance) = some 2#8 := by decide +kernel

/-- R166, R170, R174: the same where head 1 is the last of a closing passage, whose PASSAGE record follows at that
instant. -/
theorem test_fetch_between_two_closes_of_a_passage :
    let closing := departing.updChannel .t1 fun c =>
      { c with closingSince := some 999, passage := { c.passage with closed := some 900#48 } }
    let s := ran (.headDeparted .t1 1) (ran (.fetchRecord 0#8 []) (ran (.headDeparted .t1 2) closing))
    headRecords s = ([1, 2], []) ∧ s.store.records.length = 3
    ∧ (s.link.transmission.map fun x => some x.bytes) = s.store.records.head?.map (fun r =>
      s.link.transmission.map fun x => replyFrame x.request .ok (1#8 :: r.bytes)) := by decide +kernel

/-- R72: a head that closes MISSED at its blocked end, taken before the departure of an earlier head at that instant. -/
theorem test_missed_head_first :
    let gone := { workedHead with status := .finished, predicted := none, departure := some 200000#48 }
    let missed := ran (.blockedEnd .t1 .hda) (settling .hda true (at' 200000#48 (rail fun c => { c with
        speed := .fresh 2000, geometry := { worked with hda := -100 }, clearTimer := some 2000, heads := [gone]
        passage := { c.passage with approachOpen := some 0#48, lastIndex := 1 } })))
    headRecords missed = ([2], [2]) ∧ headRecords (ran (.headDeparted .t1 1) missed) = ([1, 2], [1, 2]) := by decide +kernel

/-! ## The end of a passage (chapter 1) -/

/-- R16: where the clear-timer expiry is taken before a pulse of its instant, the pulse finds the passage closing. -/
theorem test_pulse_after_the_expiry :
    let closing := ran (.clearIntervalExpiry .t1) (pulsing .wao 900#48 (rail id))
    let ignored := ran (.wheelPulseAccepted .t1 .wao) closing
    closing.choicesNow = [.wheelPulseAccepted .t1 .wao] ∧ ignored.choicesNow = [.clearIntervalExpiry .t1]
    ∧ ((ignored.channel .t1).state, ((ran (.clearIntervalExpiry .t1) ignored).channel .t1).state) = (.passage, .idle)
    ∧ (ignored.channel .t1).passage.counts = ⟨0, 0, 0, 0⟩ := by decide +kernel

/-- R17: where the expiry is taken before an OFFLINE request of its instant, the passage is ABORTED, closed at the expiry. -/
theorem test_offline_after_the_expiry :
    ((ran (.setTrackMode 0#8 [1#8, 0#8]) (ran (.clearIntervalExpiry .t1) (rail id))).store.records.map fun r =>
      match r.body with
      | .passage p => some (p.outcome, p.closed)
      | .head _ => none) = [some (.aborted, 1000#48)] := by decide +kernel

/-! ## Cameras and strobes (chapters 6 and 7) -/

/-- The exposure table of R108. -/
theorem test_exposures : [(2000, 83291), (2000, 110000), (2000, 300), (100, 110000), (20000, 20000), (2000, 0)].map
      (fun (b, v) => Camera.exposureFor { Camera.reset with blur := b } v)
    = [(24, false), (18, false), (2000, true), (10, true), (1000, false), (2000, true)] := by decide +kernel

/-- R118: a full pulse of 500 µs is recharged in 300,000 µs and one of 24 µs in 62,000 µs. -/
theorem test_recharge : Strobe.reset.chargeTicks = 300000
    ∧ Strobe.chargeTicks { Strobe.reset with lastPulse := some 24 } = 62000 := by decide

/-- R119, R128: on waking, S0 charges first, for 300,000 ticks, and five strobes wait. -/
theorem test_pool_wakes : (fun (s : State) => (s.charger.map fun c => (c.strobe, c.completes), s.chargeQueue.length))
      (ran (.setTrackMode 0#8 [1#8, 1#8])
        (quiet.updChannel .t1 fun c => { c with geometryValid := true, geometry := worked })) = (some (0, 301000), 5) := by
  decide +kernel

/-- R128: S5's pulse ends and takes the free charger; S1 is cut at the same instant, joins with it, and goes first. -/
theorem test_joiners_of_one_instant : (fun (s : State) => (s.charger.map fun c => c.strobe, s.chargeQueue.map fun m => m.strobe))
      (ran (.inhibitInputEdge 0 false) (ran (.strobePulseEnd 5)
        { quiet with
          strobes := ((Vector.replicate 6 Strobe.reset).set 5 { Strobe.reset with state := .firing shot1 24 976 }).set 1
            { Strobe.reset with state := .firing shot1 24 990 } })) = (some 1, [5]) := by decide +kernel

/-- R123: INH0 falling, enabled and active-low, makes the inhibit active. -/
theorem test_inhibit : (ran (.inhibitInputEdge 0 false) quiet).inhibit = true := by decide +kernel

/-! ## Health, timebase, rehearsal, store (chapters 8 to 11) -/

/-- R134, R135: the twelfth fault in a row makes a sensor DEGRADED, the sixteenth EXCLUDED. -/
theorem test_health_states : (Health.fault { Health.reset with score := 88 }).state = .degraded
    ∧ (Health.fault { Health.reset with score := 120, state := .degraded }).state = .excluded := by decide

/-- The correction table of R153. -/
theorem test_corrections : [(-500 : Int), -51, -50, -2, -1, 1, 2, 50, 51, 500].map correctionOf
    = [50, 50, 50, 2, 0, 0, -2, -50, -50, -50] := by decide

/-- R150: of two seconds equally distant the later is taken. -/
theorem test_nearest_second : nearestSecond 1500000#48 = 2000000#48 ∧ nearestSecond 1499999#48 = 1000000#48 := by
  decide +kernel

/-- The body of the worked rehearsal of section 10.6. -/
def rehearsal : List Byte :=
  [1#8, 0#8] ++ le 4 50000 ++ le 2 2000 ++ [0#8, 4#8, 1#8] ++ le 3 0 ++ le 3 2500 ++ le 3 20000 ++ le 3 22500
    ++ le 3 8000 ++ le 2 400

/-- Section 10.6: accepted at 30,000,000, nominally from 32,000,000 to 34,850,200, with 32 wheel and 4 head edges. -/
theorem test_rehearse : (let s := ran (.rehearse 0#8 rehearsal) (at' 30000000#48 (idle .rehearsal));
    (fields s, (s.channel .t1).generator.schedule.length)) = (le 6 32000000 ++ le 6 34850200, 36) := by decide +kernel

/-- Section 10.6: HDA's interval runs from 3,120,000 to 3,128,000 ticks after acceptance. -/
theorem test_rehearsed_head : (((ran (.rehearse 0#8 rehearsal) (idle .rehearsal)).channel .t1).generator.schedule.filter
      fun e => e.input == .head .hda) = [{ offset := 3120000, input := .head .hda, leading := true },
        { offset := 3128000, input := .head .hda, leading := false }] := by decide +kernel

/-- A PASSAGE record, to fill a store with. -/
def someBody : RecordBody := .passage (passageRecord Channel.reset none 0#48)

/-- A store with `n` records from number 1 on. -/
def storeOf (n : Nat) : Store :=
  { Store.reset with
    records := (List.range n).map fun i => { number := i + 1, track := .t1, stored := 0#48, displaced := false, body := someBody }
    nextNumber := n + 1 }

/-- R168: with the default threshold of 1, a record stored into an empty store latches STORE_LEVEL. -/
theorem test_store_level : (quiet.offer .t1 someBody).attention.latched = 1#12 := by decide +kernel

/-- R186: the longest HEAD record, of 8 shots and 4 marks, has 225 bytes, a PASSAGE record 55. -/
theorem test_record_lengths :
    let head := headRecord Passage.reset { workedHead with
      shots := List.replicate 8 (untakenShot 1 0 none 0#48 .late), marks := List.replicate 4 ⟨1, 0#48⟩ } .missed
    let bytes := fun (body : RecordBody) => Record.bytes
      { number := 1, track := .t1, stored := 0#48, displaced := false, body := body }
    ((bytes (.head head)).length, (bytes someBody).length) = (225, 55) := by decide +kernel

/-- R169: at 32 records REPLACE displaces the oldest and keeps the count. -/
theorem test_replace : (let s := State.offer { quiet with store := { storeOf 32 with policy := .replace } } .t1 someBody;
    (s.store.records.length, s.store.records.head?.map fun r => r.number)) = (32, some 2) := by decide +kernel

/-- R174: with the store full under KEEP and the record released between the two closes, head 1 is lost. -/
theorem test_release_between_two_closes :
    let full := { departing with store := storeOf 32 }
    let s := ran (.headDeparted .t1 1) (ran (.releaseRecord 0#8 [1#8, 0#8]) (ran (.headDeparted .t1 2) full))
    headRecords s = ([2], [1, 2]) ∧ s.store.records.length = 32 ∧ s.attention.latched.getLsbD 1 = true := by decide +kernel

/-! ## Witnesses: states and operands that meet the hypotheses of the statements -/

/-- A store with `n` records and, behind them, that of head 2 of T1, which was offered at this instant (R72). -/
def storeBehind (n : Nat) : Store :=
  let record := headRecord { Passage.reset with number := 1 } { workedHead with index := 2 } .noShot
  { (storeOf n).append .t1 1000#48 false (.head record) with offered := [{ track := .t1, record := record }] }

/-- A reply of 72 bytes in transmission since tick 0; at 115,200 baud its last bit is sent at tick 6,250. -/
def replyingSince0 (restarts : Bool) (queue : List Request) (ticks : Nat) : State :=
  { quiet with
    ticks := ticks
    link := { quiet.link with
      queue := queue
      transmission := some
        { request := { kind := 0x02#8, tag := 0#8, body := [] }, bytes := List.replicate 72 0#8, started := 0,
          restarts := restarts } } }

/-- A request that no kind has the code of. -/
def strange : Request := { kind := 0x7F#8, tag := 0#8, body := [] }

/-- A body of 27 bytes for T1 with the positions at the ends of their ranges. -/
def edgeGeometry : List Byte :=
  le 1 1 ++ le 4 (-71000) ++ le 4 (-41000) ++ le 4 (-40000) ++ le 4 2000 ++ le 4 198000 ++ le 4 200000 ++ le 2 20

theorem linkIdle_quiet : quiet.LinkIdle := ⟨rfl, rfl⟩
theorem linkIdle_idle (m : Mode) : (idle m).LinkIdle := ⟨rfl, rfl⟩
theorem linkIdle_rail (f : Channel → Channel) : (rail f).LinkIdle := ⟨rfl, rfl⟩

theorem witness_step_runs : ∃ c rest, ({ quiet with pending := [.windowClose, .adjustedTick] } : State).pending = c :: rest :=
  ⟨_, _, rfl⟩

/-- Something due with an empty queue; nothing due, with nothing offered and with a record offered; the adjusted tick behind
another target. -/
theorem witness_time_passes :
    (∃ s : State, s.pending = [] ∧ s.dueEvents ≠ []) ∧ (State.reset.pending = [] ∧ State.reset.dueEvents = []
      ∧ State.reset.store.offered = [] ∧ ∀ c ∈ State.reset.tracker.corrections, c.target ≠ State.reset.localTime + 1#48)
    ∧ (∃ s : State, s.pending = [] ∧ s.dueEvents = [] ∧ s.store.offered ≠ []
      ∧ ∀ c ∈ s.tracker.corrections, c.target ≠ s.localTime + 1#48)
    ∧ ∃ s : State, ∃ (c : Correction) (ahead behind : List Correction),
      s.dueEvents = [] ∧ s.store.offered ≠ [] ∧ s.tracker.corrections = ahead ++ c :: behind ∧ c.target = s.localTime + 1#48
      ∧ ∀ d ∈ ahead, d.target ≠ c.target :=
  ⟨⟨{ quiet with attention := { Attention.reset with mode := .edge, attn := true, pulseEnds := some 1000 } }, rfl,
      by decide +kernel⟩,
    by decide +kernel,
    ⟨{ (rail fun c => { c with heads := [workedHead], clearTimer := none }) with store := storeBehind 31 }, rfl,
      by decide +kernel⟩,
    ⟨{ quiet with
        store := storeBehind 0, tracker := { Tracker.reset with corrections := [⟨900#48, true⟩, ⟨1001#48, false⟩] } },
      ⟨1001#48, false⟩, [⟨900#48, true⟩], [], by decide +kernel, by decide +kernel, rfl, rfl, by decide⟩⟩

/-- A body of 248 bytes behind a reply, with 3 requests waiting, and with 4. -/
theorem witness_requests_wait : (List.replicate 248 0#8).length ≤ 248
    ∧ ¬(replyingSince0 false [strange, strange, strange] 1).LinkIdle
    ∧ (replyingSince0 false [strange, strange, strange] 1).link.queue.length < 4
    ∧ ¬(replyingSince0 false [strange, strange, strange, strange] 1).LinkIdle
    ∧ 4 ≤ (replyingSince0 false [strange, strange, strange, strange] 1).link.queue.length :=
  ⟨by decide +kernel, fun h => (nomatch h.1), by decide, fun h => (nomatch h.1), by decide⟩

/-- An empty body and one of 248 bytes for SET TIME; one of 249 bytes. -/
theorem witness_wrong_length : quiet.LinkIdle ∧ ([] : List Byte).length ≠ RequestKind.requiredLength .setTime []
    ∧ (List.replicate 248 0#8).length ≤ 248
    ∧ (List.replicate 248 0#8).length ≠ RequestKind.requiredLength .setTime (List.replicate 248 0#8)
    ∧ 248 < (List.replicate 249 0#8).length :=
  ⟨linkIdle_quiet, by decide, by decide +kernel, by decide +kernel, by decide +kernel⟩

/-- A hunting receiver and bodies of 0 and of 248 bytes. -/
theorem witness_frame_bytes : quiet.link.receiver = .hunting ∧ ([] : List Byte).length ≤ 248
    ∧ (List.replicate 248 0xA7#8).length ≤ 248 := by decide +kernel

/-- A receiver inside a frame, its last byte a number of ticks ago. -/
def framed (taken : List Byte) (gap : Nat) : State :=
  { quiet with ticks := 3000, link := { quiet.link with receiver := .inFrame taken (3000 - gap) } }

/-- A receiver that hunts; gaps of 1,999, 2,000, 2,086 and 2,087 ticks at 115,200 baud, where a byte takes 87; a LEN of
248 and of 249; the last byte of an empty frame of no kind, with a right CRC and with a wrong one; and that frame
abandoned by a restart of this instant, its last byte 2,086 ticks behind. -/
theorem witness_receiver :
    let sum := crc [0#8, 0x7F#8, 0#8]
    let low : Byte := sum.setWidth 8
    let high : Byte := (sum >>> 8).setWidth 8
    quiet.link.receiver = .hunting
    ∧ (∀ gap ∈ [0, 1999, 2000, 2086, 2087], (framed [0#8] gap).link.receiver = .inFrame [0#8] (3000 - gap)
      ∧ (framed [0#8] gap).ticks - (3000 - gap) = gap)
    ∧ 2086 < 2000 + sendTicks quiet.link.baud 1 ∧ 2000 + sendTicks quiet.link.baud 1 ≤ 2087
    ∧ [] ++ [249#8] = 249#8 :: ([] : List Byte) ∧ 248 < (249#8 : Byte).toNat
    ∧ [] ++ [248#8] = 248#8 :: ([] : List Byte) ∧ (248#8 : Byte).toNat ≤ 248 ∧ ([] : List Byte).length ≠ (248#8 : Byte).toNat + 4
    ∧ [0#8, 0x7F#8, 0#8, low] ++ [high] = 0#8 :: (0x7F#8 :: 0#8 :: [] ++ [low, high])
    ∧ crc [0#8, 0x7F#8, 0#8] = (high ++ low : BitVec 16) ∧ crc [0#8, 0x7F#8, 0#8] ≠ (low ++ low : BitVec 16)
    ∧ (framed [0#8, 0x7F#8, 0#8, low] 0).LinkIdle ∧ (∀ k : RequestKind, k.code ≠ 0x7F#8)
    ∧ (∃ s : State, s.link.receiver = .abandoned [0#8, 0x7F#8, 0#8, low] 914 3000 ∧ 3000 = s.ticks
      ∧ s.ticks - 914 < 2000 + sendTicks s.link.baud 1)
    ∧ ([low] : List Byte) ≠ [high] :=
  ⟨rfl, by decide +kernel, by decide +kernel, by decide +kernel, rfl, by decide, rfl, by decide, by decide, rfl, by decide +kernel,
    by decide +kernel, ⟨rfl, rfl⟩, fun k => by cases k <;> decide,
    ⟨{ quiet with ticks := 3000, link := { quiet.link with receiver := .abandoned _ 914 3000 } }, rfl, rfl, by decide +kernel⟩,
    by decide +kernel⟩

/-- One tick before the end of a reply and at its end, with nothing waiting, and with a request of no kind waiting; the first
bit of its first byte and the last bit of its last one; an idle transmitter. -/
theorem witness_reply_sent : quiet.link.transmission = none ∧ ∃ x : Transmission,
    (replyingSince0 false [] 6249).link.transmission = some x ∧ (replyingSince0 false [strange] 6250).link.transmission = some x
    ∧ x.restarts = false ∧ (6249 - x.started) * baudRate 0#2 < x.bytes.length * 10 * 1000000
    ∧ x.bytes.length * 10 * 1000000 ≤ (6250 - x.started) * baudRate 0#2
    ∧ (replyingSince0 false [strange] 6250).link.queue = [strange] ∧ (∀ kind : RequestKind, kind.code ≠ strange.kind)
    ∧ (10 * 0 + 0) * 1000000 ≤ (0 - x.started) * baudRate 0#2 ∧ (8 - x.started) * baudRate 0#2 < (10 * 0 + 0 + 1) * 1000000
    ∧ 71 < x.bytes.length ∧ (10 * 71 + 9) * 1000000 ≤ (6249 - x.started) * baudRate 0#2
    ∧ (6249 - x.started) * baudRate 0#2 < (10 * 71 + 9 + 1) * 1000000 :=
  ⟨rfl, _, rfl, rfl, rfl, by decide +kernel, by decide +kernel, rfl, fun kind => by cases kind <;> decide, by decide +kernel⟩

/-- A RESTART reply that ends now, behind a receiver that hunts and one inside a frame, and a transmitter that is idle. -/
theorem witness_restart : quiet.LinkIdle
    ∧ (∀ r ∈ [Receiver.hunting, .inFrame [0#8] 6200], ∃ s : State, ∃ x : Transmission, s.link.receiver = r
      ∧ s.link.transmission = some x ∧ x.restarts = true ∧ x.started ≤ s.ticks
      ∧ x.bytes.length * 10 * 1000000 ≤ (s.ticks - x.started) * baudRate s.link.baud)
    ∧ ∀ x, quiet.link.transmission = some x → x.restarts = false :=
  ⟨linkIdle_quiet,
    fun r _ => ⟨(replyingSince0 true [] 6250).setReceiver r, _, rfl, rfl, rfl, Nat.zero_le _,
      (by decide +kernel : 72 * 10 * 1000000 ≤ (6250 - 0) * baudRate 0#2)⟩,
    fun _ h => (nomatch h)⟩

theorem witness_identify : quiet.LinkIdle ∧ [0#8] ≠ [] ∧ [0#8].length ≤ 248 := ⟨linkIdle_quiet, by decide, by decide⟩

/-- LEVEL mode and EDGE mode; a mask of 4,095 and mode 1. -/
theorem witness_attention : quiet.LinkIdle ∧ quiet.attention.mode = .level
    ∧ (∃ s : State, s.LinkIdle ∧ s.attention.mode = .edge)
    ∧ [0xFF#8, 0x0F#8, 1#8].length = 3 ∧ field [0xFF#8, 0x0F#8, 1#8] 0 2 < 4096 ∧ field [0xFF#8, 0x0F#8, 1#8] 2 1 ≤ 1 :=
  ⟨linkIdle_quiet, rfl, ⟨{ quiet with attention := { Attention.reset with mode := .edge } }, ⟨rfl, rfl⟩, rfl⟩, by decide,
    by decide, by decide⟩

/-- A latched event, and ones that are not, in both modes and with both masks; a pulse that ends now and one that does
not. -/
theorem witness_latch : ∃ a b c d : Attention,
    a.latched.getLsbD 11 = true ∧ b.latched.getLsbD 11 = false ∧ b.mode = .level
    ∧ c.latched.getLsbD 11 = false ∧ c.mode = .edge ∧ c.mask.getLsbD 11 = false
    ∧ d.latched.getLsbD 11 = false ∧ d.mode = .edge ∧ d.mask.getLsbD 11 = true
    ∧ c.pulseEnds = some 1000 ∧ 1000 ≤ quiet.ticks ∧ d.pulseEnds = some 1001 ∧ quiet.ticks < 1001 :=
  ⟨{ Attention.reset with latched := 0x800#12 }, Attention.reset,
    { Attention.reset with mode := .edge, pulseEnds := some 1000 },
    { Attention.reset with mode := .edge, mask := 0x800#12, pulseEnds := some 1001 }, by decide⟩

/-- Bodies at the ends of their ranges for an OFFLINE track, and a track number of 0. -/
theorem witness_track_settings : quiet.LinkIdle ∧ (quiet.channel .t1).state = .offline
    ∧ edgeGeometry.length = 27 ∧ field edgeGeometry 0 1 = trackCode .t1
    ∧ status (ran (.setTrackGeometry 0#8 edgeGeometry) quiet) = some 0#8
    ∧ status (ran (.setTrackTiming 0#8 (le 1 2 ++ le 4 120000 ++ le 2 3600)) quiet) = some 0#8
    ∧ status (ran (.setSpeedFilter 0#8 (le 1 2 ++ le 2 10000 ++ le 1 50)) quiet) = some 0#8
    ∧ status (ran (.setHeadLimits 0#8 (le 1 1 ++ le 2 100 ++ le 2 3000 ++ le 2 20000)) quiet) = some 0#8
    ∧ status (ran (.setHeadLimits 0#8 (le 1 0 ++ le 2 100 ++ le 2 3000 ++ le 2 20000)) quiet) = some 3#8 :=
  ⟨linkIdle_quiet, by decide +kernel⟩

/-- T1 OFFLINE, with valid geometry and a bound plan whose camera is its own: ready; without geometry: not. -/
theorem witness_enters_service : ∃ s : State, s.LinkIdle ∧ (s.channel .t1).state = .offline ∧ (s.channel .t1).mode = none
    ∧ (s.channel .t1).geometryValid = true ∧ (s.binding .t1 .ab).plan = some 0 ∧ Step.expose 0 (some 0) ∈ s.plans[(0 : Fin 4)]
    ∧ status (ran (.setTrackMode 0#8 [1#8, 1#8]) s) = some 0#8
    ∧ status (ran (.setTrackMode 0#8 [1#8, 3#8]) s) = some 3#8
    ∧ [1#8, 1#8].length = 2 ∧ field [1#8, 1#8] 0 1 = trackCode .t1 ∧ field [1#8, 1#8] 1 1 = Mode.live.code
    ∧ (quiet.channel .t1).state = .offline ∧ (quiet.channel .t1).mode = none ∧ ¬(quiet.channel .t1).geometryValid = true :=
  ⟨(withHead fun h => h).updChannel .t1 fun c => { c with state := .offline, mode := none, heads := [] }, ⟨rfl, rfl⟩,
    by decide +kernel⟩

/-- T1 in IDLE, DORMANT and PASSAGE, asked for the mode it has and for the other one. -/
theorem witness_in_service : (idle .live).LinkIdle ∧ ((idle .live).channel .t1).state = .idle
    ∧ (∃ s : State, s.LinkIdle ∧ (s.channel .t1).state = .dormant) ∧ (rail id).LinkIdle
    ∧ ((rail id).channel .t1).state = .passage ∧ ((rail id).channel .t1).mode = some .live
    ∧ ((rail id).channel .t1).mode ≠ some .rehearsal
    ∧ [1#8, 2#8].length = 2 ∧ field [1#8, 2#8] 0 1 = trackCode .t1 ∧ field [1#8, 2#8] 1 1 = Mode.rehearsal.code :=
  ⟨linkIdle_idle _, by decide,
    ⟨(idle .live).updChannel .t1 fun c => { c with state := .dormant, dormantTimer := none }, ⟨rfl, rfl⟩, by decide⟩,
    linkIdle_rail _, by decide⟩

/-- T1 in IDLE with a dormant delay that is over now, its camera EXPOSING with a window open, both for heads that have
closed; T1 OFFLINE. -/
theorem witness_quiet_track : (∃ s : State, s.LinkIdle ∧ (s.channel .t1).state = .idle
      ∧ (s.channel .t1).dormantTimer = some 1000 ∧ 1000 ≤ s.ticks
      ∧ (s.camera 0).track = some .t1 ∧ (s.camera 0).openShots.length = 2
      ∧ ∀ i, (s.camera i).track = some .t1 → ∀ r ∈ (s.camera i).openShots, s.shotHeadOpen r = false)
    ∧ (quiet.channel .t1).state = .offline ∧ [1#8, 0#8].length = 2 ∧ field [1#8, 0#8] 1 1 = 0 :=
  ⟨⟨{ idle .live with
      cameras := (Vector.replicate 8 Camera.reset).set 0
        { Camera.reset with track := some .t1, state := .exposing shot1 24, confirm := some ⟨{ shot1 with step := 2 }, 1000⟩ } },
      ⟨rfl, rfl⟩, by decide +kernel⟩, by decide⟩

/-- A taken shot of a step of the worked head, its result open. -/
def takenShot (step : Nat) : Shot :=
  { step := step, camera := 0, strobe := some 0, due := 976#48, start := some 976#48, exposure := some 24, outcome := .takenLit,
    unlit := none, confirmation := .unsettled, clamped := false, flashCut := false }

/-- A passage with one head, 29 records held and that of head 2 offered now; C0 works for the head's first shot and not
for its second. -/
theorem witness_offline_aborts : ∃ s : State, ∃ h : Head, s.LinkIdle ∧ (s.channel .t1).state = .passage
    ∧ s.InOrder .t1 ∧ (s.channel .t1).heads = [h]
    ∧ s.store.records.length + (s.channel .t1).heads.length + 1 = 32
    ∧ h.shots = [takenShot 1, takenShot 2] ∧ shot1 ∈ (s.camera 0).openShots
    ∧ (∀ k : Fin 8, { shot1 with step := 2 } ∉ (s.camera k).openShots)
    ∧ ∀ i, (s.camera i).track = some .t1 → ∀ r ∈ (s.camera i).openShots, r.track = .t1 :=
  ⟨{ withHead (fun h => { h with shots := [takenShot 1, takenShot 2] }) with
      store := storeBehind 29
      cameras := (Vector.replicate 8 Camera.reset).set 0
        { Camera.reset with track := some .t1, state := .exposing shot1 24 } },
    _, ⟨rfl, rfl⟩, rfl, ⟨by decide +kernel, by decide +kernel, by decide +kernel⟩, rfl, by decide +kernel⟩

theorem witness_reading : quiet.LinkIdle ∧ [1#8].length = 1 ∧ field [1#8] 0 1 = trackCode .t1 ∧ ¬(field [0#8] 0 1 = 1 ∨ field [0#8] 0 1 = 2)
    ∧ field [3#8] 0 1 = (3 : Fin 4).val ∧ 4 ≤ field [4#8] 0 1 :=
  ⟨linkIdle_quiet, by decide⟩

/-- A queue of S1, S2 and S0, and a timeline in order whose second entry's run names S0, all within 2^47 µs of its first due
time. -/
theorem witness_read_strobes : ∃ s : State, ∃ base : LocalTime, s.LinkIdle ∧ s.chargeQueue.length = 3 ∧ s.timeline.length = 2
    ∧ (∀ e ∈ s.timeline, (e.due - base).toNat < 2 ^ 47)
    ∧ (s.timeline.Pairwise fun a b => after a.due b.due = false)
    ∧ s.needTime 0 = some 1410059#48 ∧ s.needTime 1 = none
    ∧ ∃ h k, s.findHead .t1 1 = some h ∧ h.cursor = some k
      ∧ s.plans[k.plan].drop (0 + 1) = [.expose 0 (some 0)] ++ [.after 3000] :=
  ⟨{ withHead (fun h => { h with status := .scheduled }) with
      timeline := [{ entry0 1000#48 with track := .t2 }, entry0 1410059#48], chargeQueue := [⟨1, 5⟩, ⟨2, 4⟩, ⟨0, 6⟩] },
    1000#48, ⟨rfl, rfl⟩, by decide +kernel, by decide +kernel, by decide +kernel, by decide +kernel, by decide +kernel, by decide +kernel,
    _, _, rfl, rfl, rfl⟩

/-- Edges at low and high inputs of a track in LIVE mode, of one that is OFFLINE, with a count running and without. -/
theorem witness_input_edges :
    ((rail id).channel .t1).wheels.wao.level = false ∧ ((rail id).channel .t1).mode = some .live
    ∧ ((rail id).channel .t1).Counting
    ∧ ((pulsing .wao 900#48 (rail id)).channel .t1).wheels.wao.level = true
    ∧ ((pulsing .wao 900#48 (rail id)).channel .t1).wheels.wao.count ≠ none
    ∧ ((pulsing .wao 900#48 (rail id)).channel .t1).Counting
    ∧ (quiet.channel .t1).wheels.wao.level = false ∧ (quiet.channel .t1).mode ≠ some .live
    ∧ ((rail id).channel .t1).detectors.hda.pin ≠ true :=
  ⟨by decide, by decide, ⟨by decide, by decide⟩, by decide, by decide, ⟨by decide, by decide⟩, by decide, by decide,
    by decide⟩

/-- A pulse of the sensor `w` of T1 in LIVE mode whose count runs out now is to be accepted. -/
theorem accepts_pulsing (w : WheelSensor) (stamp : LocalTime) (s : State) (h : (s.channel .t1).mode = some .live)
    (k : s.ticks = 1000) :
    (pulsing w stamp s).Accepts .t1 w stamp
      ((pulsing w stamp s).updChannel .t1 fun c => { c with wheels := c.wheels.set w { c.wheels.get w with count := none } }) :=
  Or.inl ⟨h, ⟨1000, by cases w <;> rfl, k.ge⟩, rfl⟩

/-- An inner pulse on a quiet track; a pulse of an abnormal passage; a synthetic pulse that is not accepted yet; a pulse of a
closing passage with no head left and no command waiting. -/
theorem witness_pulses_ignored :
    (∃ s p : State, s.Accepts .t1 .wai 900#48 p ∧ (s.channel .t1).state = .idle)
    ∧ (∃ s p : State, s.Accepts .t1 .wao 900#48 p ∧ (s.channel .t1).Counting ∧ (s.channel .t1).passage.outcome ≠ .normal)
    ∧ (∃ s p : State, s.Accepts .t1 .wai 900#48 p ∧ (s.channel .t1).Counting
        ∧ ((s.channel .t1).pair .approach).state = .slipped ∧ ((s.channel .t1).pair .approach).queue = [])
    ∧ (∃ s : State, (∀ stamp d, ((s.channel .t1).wheels.get .wao).count = some (stamp, d) → s.ticks < d)
        ∧ ∀ x ∈ (s.channel .t1).synthetic, x.sensor = .wao → s.ticks < x.accepts)
    ∧ ∃ s p : State, s.Accepts .t1 .wao 900#48 p ∧ (s.channel .t1).state = .passage ∧ (s.channel .t1).passage.closed ≠ none
        ∧ (s.channel .t1).heads = [] ∧ s.pending = [] :=
  ⟨⟨_, _, accepts_pulsing .wai 900#48 (idle .live) rfl rfl, rfl⟩,
    ⟨_, _, accepts_pulsing .wao 900#48 (rail fun c => { c with passage := { c.passage with outcome := .reversed } }) rfl rfl,
      ⟨rfl, rfl⟩, by decide⟩,
    ⟨_, _, accepts_pulsing .wai 900#48 (rail fun c => { c with approach := ⟨.slipped, [], 2⟩ }) rfl rfl, ⟨rfl, rfl⟩, rfl, rfl⟩,
    ⟨quiet.updChannel .t1 fun c => { c with synthetic := [⟨.wao, 900#48, 1001⟩] }, fun _ _ h => (nomatch h), by decide⟩,
    ⟨_, _, accepts_pulsing .wao 900#48 (rail fun c => { c with
        clearTimer := none, closingSince := some 1000, passage := { c.passage with closed := some 1000#48 } }) rfl rfl, rfl,
      by decide, rfl, rfl⟩⟩

/-- Outer pulses from both sides on a quiet track, real and synthetic. -/
theorem witness_outer_pulse :
    (∃ s p : State, s.Accepts .t1 .wao 900#48 p ∧ (s.channel .t1).state = .idle)
    ∧ (∃ s p : State, s.Accepts .t1 .wbo 900#48 p ∧ (s.channel .t1).state = .idle)
    ∧ ∃ s p : State, s.Accepts .t1 .wao 900#48 p ∧ (s.channel .t1).state = .idle ∧ (s.channel .t1).mode = some .rehearsal :=
  ⟨⟨_, _, accepts_pulsing .wao 900#48 (idle .live) rfl rfl, rfl⟩,
    ⟨_, _, accepts_pulsing .wbo 900#48 (idle .live) rfl rfl, rfl⟩,
    ⟨(idle .rehearsal).updChannel .t1 fun c => { c with synthetic := [⟨.wai, 0#48, 0⟩, ⟨.wao, 900#48, 1000⟩] }, _,
      Or.inr ⟨rfl, ⟨.wao, 900#48, 1000⟩, [⟨.wai, 0#48, 0⟩], [], rfl, rfl, rfl, by decide, by decide, rfl⟩, rfl, rfl⟩⟩

/-- First-sensor pulses onto a queue of 31 and of 32 entries. -/
theorem witness_first_sensor : ∀ n ∈ [31, 32], ∃ s p : State, s.Accepts .t1 .wao 900#48 p ∧ (s.channel .t1).Tracking
    ∧ sensorRole (s.channel .t1).passage.direction .wao = (.approach, true)
    ∧ ((s.channel .t1).pair .approach).state ≠ .out ∧ ((s.channel .t1).pair .approach).queue.length = n := by
  intro n hn
  refine ⟨_, _, accepts_pulsing .wao 900#48 (rail fun c => { c with approach := ⟨.normal, List.replicate n 0#48, 0⟩ }) rfl rfl,
    ⟨⟨rfl, rfl⟩, rfl⟩, rfl, by simp [pulsing, rail, State.updChannel, State.channel, PerTrack.set, PerTrack.get, Channel.pair],
    by simp [pulsing, rail, State.updChannel, State.channel, PerTrack.set, PerTrack.get, Channel.pair]⟩

/-- Orphans on both pairs, with an open head for one of whose shots C0 works, 30 records held and that of head 2 offered
now; its entry and one of a head of the other track on the timeline. -/
theorem witness_orphan : (∃ s p : State, s.Accepts .t1 .wai 900#48 p ∧ (s.channel .t1).Tracking
      ∧ sensorRole (s.channel .t1).passage.direction .wai = (.approach, false)
      ∧ ((s.channel .t1).pair .approach).state = .normal ∧ ((s.channel .t1).pair .approach).queue = []
      ∧ s.InOrder .t1 ∧ s.store.records.length + (s.channel .t1).heads.length = 32
      ∧ (∃ h, s.findHead .t1 1 = some h ∧ h.shots = [takenShot 1, takenShot 2] ∧ shot1 ∈ (s.camera 0).openShots
        ∧ ∀ k : Fin 8, { shot1 with step := 2 } ∉ (s.camera k).openShots)
      ∧ s.timeline = [entry0 1410059#48, { entry0 1420000#48 with track := .t2 }])
    ∧ ∃ s p : State, s.Accepts .t1 .wbo 900#48 p ∧ (s.channel .t1).Tracking
      ∧ sensorRole (s.channel .t1).passage.direction .wbo = (.departure, false)
      ∧ ((s.channel .t1).pair .departure).state = .normal ∧ ((s.channel .t1).pair .departure).queue = [] :=
  ⟨⟨_, _, accepts_pulsing .wai 900#48
        { withHead (fun h => { h with status := .scheduled, shots := [takenShot 1, takenShot 2] }) with
          store := storeBehind 30
          timeline := [entry0 1410059#48, { entry0 1420000#48 with track := .t2 }]
          cameras := (Vector.replicate 8 Camera.reset).set 0
            { Camera.reset with track := some .t1, state := .exposing shot1 24 } } rfl rfl,
      ⟨⟨rfl, rfl⟩, rfl⟩, rfl, rfl, rfl, ⟨by decide +kernel, by decide +kernel, by decide +kernel⟩, by decide +kernel,
      ⟨_, rfl, rfl, by decide +kernel⟩, rfl⟩,
    ⟨_, _, accepts_pulsing .wbo 900#48 (rail id) rfl rfl, ⟨⟨rfl, rfl⟩, rfl⟩, rfl, rfl, rfl⟩⟩

/-- A match of a SLIPPED pair; a crawl match one microsecond above 50,000,000; an implausible match on the jump limit's edge
of a window of two. -/
theorem witness_no_estimate :
    (∃ s p : State, s.Accepts .t1 .wai 60000000#48 p ∧ (s.channel .t1).Tracking
      ∧ ((s.channel .t1).pair .approach).queue = [0#48] ∧ ((s.channel .t1).pair .approach).state = .slipped)
    ∧ (∃ s p : State, s.Accepts .t1 .wai 50000001#48 p ∧ (s.channel .t1).Tracking
      ∧ ((s.channel .t1).pair .approach).queue = [0#48] ∧ ((s.channel .t1).pair .approach).state = .normal
      ∧ (s.channel .t1).frame.spacing .approach * 1000000 < max 1 (span 0#48 50000001#48) * 300)
    ∧ ∃ s p : State, s.Accepts .t1 .wai 180000#48 p ∧ (s.channel .t1).Tracking
      ∧ ((s.channel .t1).pair .approach).queue = [0#48] ∧ ((s.channel .t1).pair .approach).state = .normal
      ∧ max 1 (span 0#48 180000#48) * 300 ≤ (s.channel .t1).frame.spacing .approach * 1000000
      ∧ (s.channel .t1).speed = .fresh 69444 ∧ 2 ≤ (s.channel .t1).window.length
      ∧ (s.channel .t1).jumpLimit * 69444 < (83333 - 69444) * 100 :=
  ⟨⟨_, _, accepts_pulsing .wai 60000000#48 (rail fun c => { c with approach := ⟨.slipped, [0#48], 2⟩ }) rfl rfl,
      ⟨⟨rfl, rfl⟩, rfl⟩, rfl, rfl⟩,
    ⟨_, _, accepts_pulsing .wai 50000001#48 (rail fun c => { c with approach := ⟨.normal, [0#48], 0⟩ }) rfl rfl,
      ⟨⟨rfl, rfl⟩, rfl⟩, rfl, rfl, by decide +kernel⟩,
    ⟨_, _, accepts_pulsing .wai 180000#48 (rail fun c => { c with approach := ⟨.normal, [0#48], 1⟩, speed := .fresh 69444, window := [69444, 69444] }) rfl rfl,
      ⟨⟨rfl, rfl⟩, rfl⟩, rfl, rfl, by decide +kernel⟩⟩

/-- A match at the crawl limit of 50,000,000, with no estimate; one in a full window, plausible. -/
theorem witness_plausible :
    (∃ s p : State, s.Accepts .t1 .wai 50000000#48 p ∧ (s.channel .t1).Tracking
      ∧ sensorRole (s.channel .t1).passage.direction .wai = (.approach, false)
      ∧ ((s.channel .t1).pair .approach).queue = [0#48] ∧ ((s.channel .t1).pair .approach).state = .normal
      ∧ max 1 (span 0#48 50000000#48) * 300 ≤ (s.channel .t1).frame.spacing .approach * 1000000
      ∧ (s.channel .t1).heads = [] ∧ (s.channel .t1).speed = .absent)
    ∧ ∃ s p : State, s.Accepts .t1 .wai 180000#48 p ∧ (s.channel .t1).Tracking
      ∧ ((s.channel .t1).pair .approach).queue = [0#48] ∧ ((s.channel .t1).pair .approach).state = .normal
      ∧ (s.channel .t1).heads = [] ∧ (s.channel .t1).window.length = 4 ∧ (s.channel .t1).speed = .fresh 69445
      ∧ (83333 - 69445) * 100 ≤ (s.channel .t1).jumpLimit * 69445 :=
  ⟨⟨_, _, accepts_pulsing .wai 50000000#48 (rail fun c => { c with approach := ⟨.normal, [0#48], 0⟩ }) rfl rfl,
      ⟨⟨rfl, rfl⟩, rfl⟩, rfl, rfl, rfl, by decide +kernel, rfl, rfl⟩,
    ⟨_, _, accepts_pulsing .wai 180000#48 (rail fun c => { c with approach := ⟨.normal, [0#48], 1⟩, speed := .fresh 69445, window := [69445, 69445, 69445, 69445] })
        rfl rfl,
      ⟨⟨rfl, rfl⟩, rfl⟩, rfl, rfl, rfl, rfl, rfl, by decide⟩⟩

/-- A match on a track with the worked head, timed, in FRESH and in STALE. -/
theorem witness_timed_heads : ∀ speed ∈ [Speed.fresh 83291, .stale 83291], ∃ s p : State, s.Accepts .t1 .wai 180000#48 p
    ∧ (s.channel .t1).Tracking ∧ ((s.channel .t1).pair .approach).queue = [0#48]
    ∧ ((s.channel .t1).pair .approach).state = .normal ∧ (s.channel .t1).speed = speed ∧ speed ≠ .absent
    ∧ (s.channel .t1).heads = [workedHead] ∧ workedHead.anchor.isSome = true ∧ (s.channel .t1).window.length ≤ 4
    ∧ (83333 - 83291) * 100 ≤ (s.channel .t1).jumpLimit * 83291 := by
  intro speed hs
  refine ⟨_, _, accepts_pulsing .wai 180000#48 ((withHead id).updChannel .t1 fun c =>
      { c with approach := ⟨.normal, [0#48], 0⟩, speed := speed }) rfl rfl,
    ⟨⟨rfl, rfl⟩, rfl⟩, rfl, rfl, rfl, ?_, rfl, rfl, (by decide : 3 ≤ 4),
    (by decide : (83333 - 83291) * 100 ≤ 20 * 83291)⟩
  simp only [List.mem_cons, List.not_mem_nil, or_false] at hs
  rcases hs with rfl | rfl <;> decide

/-- Three UNTIMED heads of T1: one of 399 mm whose crossing, at 83,333 mm/s, is past at 180,100, one of 399 mm whose crossing
lies ahead, and one of 83 mm. -/
def untimedHeads : List Head := [newHead 1 36000#48 4800, newHead 3 170000#48 4800, newHead 4 175000#48 1000]

/-- The first estimate, 83,333 mm/s, finds the three heads; no plan is bound, or P0 is; the counts of the passage are
full, and with those of the heads the store is. -/
theorem witness_untimed : ∀ plan ∈ [none, some (0 : Fin 4)], ∃ s p : State, s.Accepts .t1 .wai 180000#48 p ∧ (s.channel .t1).Tracking
    ∧ ((s.channel .t1).pair .approach).queue = [0#48] ∧ ((s.channel .t1).pair .approach).state = .normal
    ∧ (s.channel .t1).speed = .absent ∧ (s.channel .t1).window = [] ∧ (s.channel .t1).heads = untimedHeads
    ∧ s.InOrder .t1 ∧ s.store.records.length + (s.channel .t1).heads.length = 32
    ∧ (s.binding .t1 .ab).plan = plan ∧ (s.channel .t1).passage.accepted = 255 ∧ (s.channel .t1).passage.rejected = 255
    ∧ (s.channel .t1).passage.missed = 255 ∧ 0 < (s.channel .t1).frame.approachDistance
    ∧ ((s.channel .t1).lengthMin ≤ 83333 * 4800 / 1000000 ∧ 83333 * 4800 / 1000000 ≤ (s.channel .t1).lengthMax)
    ∧ 83333 * 1000 / 1000000 < (s.channel .t1).lengthMin
    ∧ after (later 36000#48 (ceilDiv (12000 * 1000 * 1000) 83333)) s.localTime = false
    ∧ after (later 170000#48 (ceilDiv (12000 * 1000 * 1000) 83333)) s.localTime = true
    ∧ after (later 170000#48 (ceilDiv (((12000 + 3000) * 1000 + 1 + 12000 * 1000) * 1000) 83333)) s.localTime = true
    ∧ ∀ i : Fin 12, s.health[i].goods ≤ 4294967295 ∧ s.health[i].faults ≤ 4294967295 := by
  intro plan hp
  simp only [List.mem_cons, List.not_mem_nil, or_false] at hp
  rcases hp with rfl | rfl <;>
  exact ⟨_, _, accepts_pulsing .wai 180000#48 (at' 180100#48 { (rail fun c => { c with
        approach := ⟨.normal, [0#48], 0⟩, heads := untimedHeads
        passage := { c.passage with accepted := 255, rejected := 255, missed := 255 } }) with
      store := storeBehind 28, plans := (withHead id).plans
      bindings := ⟨⟨{ plan := _, tolerance := 100 }, Binding.reset⟩, ⟨Binding.reset, Binding.reset⟩⟩ }) rfl rfl,
    ⟨⟨rfl, rfl⟩, rfl⟩, rfl, rfl, rfl, rfl, rfl, ⟨by decide +kernel, by decide +kernel, by decide +kernel⟩, by decide +kernel, rfl, rfl, rfl, rfl,
    by decide +kernel⟩

theorem witness_due_time : (0 : Nat) < (workedHead.anchor.map (·.speed)).getD 0 ∧ (-2147483648 : Int) < -2147483647
    ∧ (2147483647 : Int) ≤ 2147483647 := by decide

/-- The worked head, SCHEDULED at its AT wait, in a track whose staleness timer runs out now. -/
theorem witness_staleness : ∃ s : State, (s.channel .t1).Counting ∧ (s.channel .t1).staleTimer = some 1000 ∧ 1000 ≤ s.ticks
    ∧ (s.channel .t1).speed = .fresh 83291 ∧ ((s.channel .t1).heads.map fun h => h.index).Nodup
    ∧ (s.channel .t1).heads ≠ [] ∧ ∀ h ∈ (s.channel .t1).heads, h.status = .finished → h.confirmed = false ∧ h.departed = false :=
  ⟨{ (withHead fun h => { h with status := .scheduled }).updChannel .t1 (fun c => { c with staleTimer := some 1000 }) with
      timeline := [entry0 1410059#48] }, ⟨rfl, rfl⟩, rfl, by decide, rfl, by decide +kernel⟩

/-- Blocked starts at both detectors in use, with a head in reach and without one; a count that runs on. -/
theorem witness_blocked_start :
    (∃ s : State, s.DetectorRunsOut .t1 .hda false ∧ (s.channel .t1).Tracking ∧ (s.channel .t1).passage.approachInUse = true)
    ∧ (∃ s : State, s.DetectorRunsOut .t1 .hdb false ∧ ¬(s.channel .t1).Tracking)
    ∧ (∃ s : State, s.DetectorRunsOut .t1 .hdb false ∧ (s.channel .t1).Tracking
        ∧ (s.channel .t1).passage.departureInUse = true ∧ (s.channel .t1).speed ≠ .absent ∧ (s.channel .t1).heads = [])
    ∧ (∃ s : State, s.DetectorRunsOut .t1 .hdb false ∧ (s.channel .t1).Tracking
        ∧ (s.channel .t1).speed.estimate = some 83291 ∧ (s.channel .t1).heads = [workedHead]
        ∧ (∃ a, workedHead.anchor = some a ∧ workedHead.confirmed = false
          ∧ a.positionAt s.localTime ≤ (12000 + 3000) * 1000 ∧ (12000 - 3000) * 1000 ≤ a.positionAt s.localTime)
        ∧ workedHead.status ≠ .finished)
    ∧ ∃ s : State, ∀ n, ((s.channel .t1).detectors.get .hda).count = some n → s.ticks < n :=
  ⟨⟨settling .hda false (rail id), ⟨rfl, ⟨1000, rfl, by decide⟩, by decide⟩, ⟨⟨rfl, rfl⟩, rfl⟩, rfl⟩,
    ⟨settling .hdb false (idle .live), ⟨rfl, ⟨1000, rfl, by decide⟩, by decide⟩, fun h => (nomatch h.1.1)⟩,
    ⟨settling .hdb false (rail fun c => { c with speed := .stale 300 }), ⟨rfl, ⟨1000, rfl, by decide⟩, by decide⟩,
      ⟨⟨rfl, rfl⟩, rfl⟩, rfl, by decide, rfl⟩,
    ⟨settling .hdb false (at' 1578300#48 (withHead fun h => h)), ⟨rfl, ⟨1000, rfl, by decide⟩, by decide⟩, ⟨⟨rfl, rfl⟩, rfl⟩, rfl,
      rfl, ⟨_, rfl, rfl, by decide +kernel⟩, by decide⟩,
    ⟨quiet.updChannel .t1 fun c => { c with detectors := c.detectors.set .hda ⟨true, false, false, some 1001⟩ },
      fun n h => by injection h with h; subst h; decide⟩⟩

/-- A departure match of a FINISHED head, the only one, with no camera at work for it, 30 records held and that of
head 2 offered now. -/
theorem witness_closing_match : ∃ s : State, ∃ h : Head, s.DetectorRunsOut .t1 .hdb false ∧ (s.channel .t1).Tracking
    ∧ (s.channel .t1).passage.departureInUse = true ∧ (s.channel .t1).speed.estimate = some 83291
    ∧ (s.channel .t1).heads = [] ++ h :: [] ∧ s.InOrder .t1
    ∧ (∃ a, h.anchor = some a ∧ h.confirmed = false ∧ a.positionAt s.localTime ≤ (12000 + 3000) * 1000
      ∧ (12000 - 3000) * 1000 ≤ a.positionAt s.localTime)
    ∧ h.status = .finished ∧ s.headBusy .t1 1 = false ∧ s.store.records.length = 31 :=
  ⟨settling .hdb false (at' 1578300#48 { withHead (fun h => { h with status := .finished }) with store := storeBehind 30 }), _,
    ⟨rfl, ⟨1000, rfl, by decide⟩, by decide⟩, ⟨⟨rfl, rfl⟩, rfl⟩, rfl, rfl, rfl, ⟨by decide +kernel, by decide +kernel, by decide +kernel⟩, ⟨_, rfl, rfl, by decide +kernel⟩,
    rfl, by decide +kernel, by decide +kernel⟩

/-- Approach intervals that end now: with no estimate, of a length on the limit, below it, into a full list, and past head
index 255. -/
theorem witness_blocked_end : ∀ f ∈ ([
      fun c => { c with speed := .absent },
      fun c => { c with speed := .fresh 150000 },
      fun c => { c with speed := .stale 149999 },
      fun c => { c with heads := (List.range 8).map fun i => newHead (i + 1) 0#48 0 },
      fun c => { c with passage := { c.passage with lastIndex := 255 } }] : List (Channel → Channel)),
    let s := settling .hda true (rail fun c => f { c with passage := { c.passage with approachOpen := some 0#48 } })
    s.DetectorRunsOut .t1 .hda true ∧ (s.channel .t1).Tracking ∧ (s.channel .t1).passage.approachOpen = some 0#48
    ∧ span 0#48 s.localTime = 1000 := by
  intro f hf
  simp only [List.mem_cons, List.not_mem_nil, or_false] at hf
  rcases hf with rfl | rfl | rfl | rfl | rfl <;>
    exact ⟨⟨rfl, ⟨1000, rfl, by decide⟩, by decide⟩, ⟨⟨rfl, rfl⟩, rfl⟩, rfl, by decide +kernel⟩

/-- The worked interval: its crossing ahead, in FRESH and in STALE, without a plan; and one judged after its crossing. -/
theorem witness_valid_interval : ∃ s : State, s.DetectorRunsOut .t1 .hda true ∧ (s.channel .t1).Tracking
    ∧ (s.channel .t1).passage.approachOpen = some 1290000#48 ∧ (s.channel .t1).heads.length < 8
    ∧ (s.channel .t1).passage.lastIndex + 1 = 255 ∧ (s.channel .t1).lengthMin ≤ 83312 * 4800 / 1000000
    ∧ 83312 * span 1290000#48 s.localTime / 1000000 = 399 ∧ 399 ≤ (s.channel .t1).lengthMax
    ∧ 0 < (s.channel .t1).frame.approachDistance ∧ (s.channel .t1).speed = .fresh 83312
    ∧ after (later 1290000#48 (ceilDiv (12000 * 1000 * 1000) 83312)) s.localTime = true
    ∧ (s.binding .t1 .ab).plan = none
    ∧ after (later 1290000#48 (ceilDiv (12000 * 1000 * 1000) 83312)) 1434037#48 = false
    ∧ 150 ≤ 300 * span 1290000#48 1790000#48 / 1000000 :=
  ⟨settling .hda true (at' 1294800#48 (rail fun c => { c with speed := .fresh 83312, passage := { c.passage with approachOpen := some 1290000#48, lastIndex := 254 } })),
    ⟨rfl, ⟨1000, rfl, by decide⟩, by decide⟩, ⟨⟨rfl, rfl⟩, rfl⟩, rfl, by decide +kernel⟩

/-- The worked interval with a plan bound whose first wait, AT −2,000, lies ahead, in FRESH and in STALE; a wait at AT
−12,000, whose due time is the blocked start. -/
theorem witness_interval_with_a_plan :
    (∀ speed ∈ [Speed.fresh 83312, .stale 83312], ∃ s : State, s.DetectorRunsOut .t1 .hda true ∧ (s.channel .t1).Tracking
      ∧ (s.channel .t1).passage.approachOpen = some 1290000#48 ∧ (s.channel .t1).heads = []
      ∧ (s.channel .t1).passage.lastIndex + 1 = 255 ∧ (s.channel .t1).speed = speed
      ∧ 83312 * span 1290000#48 s.localTime / 1000000 = 399
      ∧ (s.binding .t1 .ab).plan = some 0 ∧ s.plans[(0 : Fin 4)] = .atPos (-2000) :: plan0.tail)
    ∧ after (later 1290000#48 (ceilDiv (12000 * 1000 * 1000) 83312)) 1294800#48 = true
    ∧ after (later 1290000#48 (ceilDiv (((12000 + 3000) * 1000 + 1 + 12000 * 1000) * 1000) 83312)) 1294800#48 = true
    ∧ after (later 1290000#48 (ceilDiv ((-2000 * 1000 + 12000 * 1000 : Int).toNat * 1000) 83312)) 1294800#48 = true
    ∧ ((-12000 : Int) * 1000 + 12000 * 1000 ≤ 0 ∧ after 1290000#48 1294800#48 = false) := by
  refine ⟨fun speed _ => ⟨settling .hda true (at' 1294800#48 { (rail fun c => { c with
        speed := speed, passage := { c.passage with approachOpen := some 1290000#48, lastIndex := 254 } }) with
      plans := (withHead id).plans, bindings := (withHead id).bindings }),
    ⟨rfl, ⟨1000, rfl, Nat.le_refl 1000⟩, fun e h => (nomatch h)⟩, ⟨⟨rfl, rfl⟩, rfl⟩, rfl, rfl, rfl, rfl, ?_, rfl, rfl⟩,
    by decide +kernel⟩
  exact (by decide +kernel : 83312 * span 1290000#48 1294800#48 / 1000000 = 399)

/-- An interval of 200,000 µs at 2,000 mm/s behind a detector 100 mm away closes after its crossing, with no open head
and with head 1 open; 31 records are held. -/
theorem witness_interval_missed : ∀ heads ∈ [[], [workedHead]], ∃ s : State, s.DetectorRunsOut .t1 .hda true
    ∧ (s.channel .t1).Tracking ∧ (s.channel .t1).passage.approachOpen = some 0#48 ∧ (s.channel .t1).speed = .fresh 2000
    ∧ (s.channel .t1).heads = heads ∧ s.InOrder .t1 ∧ (∀ h ∈ heads, h.index ≠ (s.channel .t1).passage.lastIndex + 1)
    ∧ (s.channel .t1).lengthMin ≤ 2000 * span 0#48 s.localTime / 1000000
    ∧ 2000 * span 0#48 s.localTime / 1000000 ≤ (s.channel .t1).lengthMax ∧ 0 < (s.channel .t1).frame.approachDistance
    ∧ after (later 0#48 (ceilDiv ((s.channel .t1).frame.approachDistance * 1000 * 1000) 2000)) s.localTime = false
    ∧ s.store.records.length = 31 := by
  intro heads hh
  simp only [List.mem_cons, List.not_mem_nil, or_false] at hh
  rcases hh with rfl | rfl <;>
  exact ⟨settling .hda true (at' 200000#48 { (rail fun c => { c with
        speed := .fresh 2000, geometry := { worked with hda := -100 }, heads := _
        passage := { c.passage with approachOpen := some 0#48, lastIndex := 1 } }) with store := storeOf 31 }),
    ⟨rfl, ⟨1000, rfl, by decide⟩, by decide⟩, ⟨⟨rfl, rfl⟩, rfl⟩, rfl, rfl, rfl, ⟨by decide +kernel, by decide +kernel, by decide +kernel⟩,
    by decide +kernel⟩

/-- The worked head at its crossing and at its departed instant, waiting for its plan, or FINISHED with 30 records held and
that of head 2 offered now; of two heads that depart now the second, with the store empty. -/
theorem witness_head_events : ∃ s u : State, ∃ h k : Head,
    s.findHead .t1 1 = some h ∧ h.crossed = false ∧ h.predicted = some 1434071#48 ∧ after 1434071#48 s.localTime = false
    ∧ u.findHead .t1 1 = some k ∧ k.departed = false ∧ k.departure = some 1614163#48 ∧ after 1614163#48 u.localTime = false
    ∧ (u.channel .t1).passage.closed = none ∧ k.status = .finished ∧ u.headBusy .t1 1 = false
    ∧ u.InOrder .t1 ∧ u.store.records.length = 31 ∧ after 1434071#48 1434070#48 = true
    ∧ departing.LinkIdle ∧ departing.store.records = [] ∧ departing.offeredOf .t1 = [] ∧ departing.InOrder .t1
    ∧ (departing.channel .t1).passage.closed = none ∧ departing.headBusy .t1 2 = false
    ∧ (departing.findHead .t1 2).map (fun h => (h.status, h.departed, h.departure)) = some (.finished, false, some 1000#48)
    ∧ after 1000#48 departing.localTime = false :=
  ⟨at' 1434071#48 (withHead fun h => h),
    at' 1614163#48 { withHead (fun h => { h with status := .finished }) with store := storeBehind 30 },
    _, _, rfl, rfl, rfl, by decide +kernel, rfl, rfl, rfl, by decide +kernel, rfl, rfl, by decide +kernel,
    ⟨by decide +kernel, by decide +kernel, by decide +kernel⟩, by decide +kernel, by decide, linkIdle_rail _, rfl, rfl,
    ⟨by decide +kernel, by decide +kernel, by decide +kernel⟩, rfl, by decide +kernel, by decide +kernel, by decide +kernel⟩

/-- The worked head and plan, at speed 83,291 with AT −2,000 ahead, and at speed 0. -/
theorem witness_first_wait : ∃ s : State, ∃ h : Head, ∃ a : Anchor, s.findHead .t1 1 = some h ∧ h.anchor = some a
    ∧ (s.binding .t1 (s.channel .t1).passage.direction).plan = some 0 ∧ s.plans[(0 : Fin 4)] = .atPos (-2000) :: plan0.tail
    ∧ 0 < a.speed ∧ ¬(-2000 * 1000 - a.position ≤ 0)
    ∧ after (later a.time (ceilDiv ((-2000 * 1000 - a.position).toNat * 1000) a.speed)) s.localTime = true
    ∧ ((withHead fun h => { h with anchor := some { time := 0#48, position := 0, speed := 0 } }).findHead .t1 1).isSome = true :=
  ⟨at' 1410058#48 (withHead fun h => h), workedHead, _, rfl, rfl, rfl, rfl, by decide, by decide, by decide +kernel, by decide +kernel⟩

/-- T1 with the worked head and another plan P0. -/
def planned (plan : List Step) (f : Head → Head) (s : State → State) : State :=
  s { withHead f with plans := (withHead f).plans.set 0 plan }

/-- The worked head meets AT −2,000 late by its tolerance of 100 µs, before a MARK, and by 101 µs, before an EXPOSE and a
MARK. -/
theorem witness_late_wait :
    (∃ s : State, ∃ a : Anchor, workedHead.anchor = some a ∧ s.findHead .t1 1 = some workedHead
      ∧ s.plans[(0 : Fin 4)] = .atPos (-2000) :: .mark :: .after 1 :: [] ∧ 0 < a.speed
      ∧ after (later a.time (ceilDiv ((-2000 * 1000 - a.position).toNat * 1000) a.speed)) s.localTime = false
      ∧ span (later a.time (ceilDiv ((-2000 * 1000 - a.position).toNat * 1000) a.speed)) s.localTime = 100
      ∧ (s.binding .t1 .ab).tolerance = 100)
    ∧ ∃ s : State, ∃ a : Anchor, workedHead.anchor = some a ∧ s.findHead .t1 1 = some workedHead
      ∧ s.plans[(0 : Fin 4)] = .atPos (-2000) :: .expose 0 none :: .mark :: .after 1000000 :: [] ∧ 0 < a.speed
      ∧ after (later a.time (ceilDiv ((-2000 * 1000 - a.position).toNat * 1000) a.speed)) s.localTime = false
      ∧ span (later a.time (ceilDiv ((-2000 * 1000 - a.position).toNat * 1000) a.speed)) s.localTime = 101
      ∧ (s.binding .t1 .ab).tolerance = 100 :=
  ⟨⟨planned [.atPos (-2000), .mark, .after 1] id (at' 1410159#48), _, rfl, rfl, rfl, by decide, by decide +kernel⟩,
    ⟨planned [.atPos (-2000), .expose 0 none, .mark, .after 1000000] id (at' 1410160#48), _, rfl, rfl, rfl, by decide,
      by decide +kernel⟩⟩

/-- An entry that is due now before EXPOSE and AFTER, for a READY camera and a READY strobe; and one that is not due. -/
theorem witness_entry_expiry : ∃ s : State, ∃ e : TimelineEntry, ∃ h : Head, ∃ k : Cursor,
    s.findEntry .t1 1 = some e ∧ after e.due s.localTime = false ∧ s.findHead .t1 1 = some h ∧ h.cursor = some k
    ∧ [Step.atPos (-2000)].length = e.step + 1
    ∧ s.plans[k.plan] = [.atPos (-2000)] ++ .expose 0 (some 0) :: .after 3000 :: []
    ∧ (s.camera 0).exposureMin ≤ (s.camera 0).exposureMax ∧ (s.camera 0).state = .ready ∧ (s.strobe 0).state = .ready
    ∧ after (1410060#48) s.localTime = true :=
  ⟨{ withHead (fun h => { h with status := .scheduled }) with timeline := [entry0 1410059#48], localTime := 1410059#48 },
    entry0 1410059#48, _, _, rfl, by decide +kernel, rfl, rfl, by decide, rfl, by decide, rfl, rfl, by decide⟩

/-- The worked head SCHEDULED at AT −2,000 of a plan, due now, with 30 records held and that of head 2 offered now. -/
def running (plan : List Step) (f : Head → Head) : State :=
  planned (.atPos (-2000) :: plan) (fun h => f { h with status := .scheduled }) fun s =>
    { s with timeline := [entry0 1410059#48], localTime := 1410059#48, store := storeBehind 30 }

/-- Runs of nothing, a MARK, an EXPOSE, and two EXPOSE steps of one camera. -/
def runs : List (List Step) := [[], [.mark], [.expose 0 (some 0)], [.expose 0 (some 0), .expose 0 none]]

/-- Those runs to an AFTER wait, to AT waits ahead and behind, and to the end of the plan, for a head that waits, for one at
anchor speed 0 and for one that is confirmed. -/
theorem witness_runs :
    let stopped := fun (h : Head) => { h with anchor := some { time := 1300280#48, position := -2000000, speed := 0 } }
    let confirmed := fun (h : Head) => { h with confirmed := true }
    ∀ run ∈ runs, ∀ f ∈ [id, stopped, confirmed],
      (∀ rest ∈ [[Step.after 10], [Step.atPos 0], [Step.atPos (-2500)], []],
        let s := running (run ++ rest) f
        s.findEntry .t1 1 = some (entry0 1410059#48) ∧ after 1410059#48 s.localTime = false
        ∧ s.findHead .t1 1 = some (f { workedHead with status := .scheduled })
        ∧ workedHead.cursor = some { plan := 0, tolerance := 100, step := 0 }
        ∧ s.plans[(0 : Fin 4)] = [.atPos (-2000)] ++ run ++ rest
        ∧ (∀ i : Fin 8, (s.camera i).exposureMin ≤ (s.camera i).exposureMax)
        ∧ (s.channel .t1).passage.closed = none ∧ s.store.records.length = 31
        ∧ (s.acts .t1 1 83291 1410059#48 run 1).headBusy .t1 1 = decide (2 ≤ runs.idxOf run)) := by
  decide +kernel

theorem witness_runs_act : (∀ run ∈ runs, ∀ x ∈ run, ¬x.IsWait) ∧ (∀ plan f, (∀ h, (f h).index = h.index) → (running plan f).InOrder .t1)
    ∧ ∀ a ∈ workedHead.anchor,
      (0 < a.speed ∧ after (later a.time (ceilDiv ((0 * 1000 - a.position).toNat * 1000) a.speed)) 1410059#48 = true)
      ∧ after (later a.time (ceilDiv ((-2500 * 1000 - a.position).toNat * 1000) a.speed)) 1410059#48 = false := by
  refine ⟨by simp [runs, Step.IsWait], fun plan f hf => ?_, by decide +kernel⟩
  have heads : ((running plan f).channel .t1).heads = [f { workedHead with status := .scheduled }] := rfl
  have offered : ((running plan f).offeredOf .t1).map (fun x => x.index) = [2] := rfl
  have first : (f { workedHead with status := .scheduled }).index = 1 := hf _
  refine ⟨by simp [heads], by simp [offered], fun x hx h hh => ?_⟩
  have at2 : x.index ∈ [2] := offered ▸ List.mem_map_of_mem hx
  simp only [heads, List.mem_singleton] at at2 hh
  rw [hh, first, at2]
  decide

/-- The worked head HELD, and SCHEDULED with an entry, at AT −2,000, standing before it, at speed 300; HELD with the position
just reached before a MARK; SCHEDULED at an AFTER wait. -/
theorem witness_moving_on :
    (∀ status ∈ [HeadStatus.held, .scheduled], ∃ s : State, ∃ h : Head, ∃ a : Anchor, ∃ k : Cursor,
      (s.channel .t1).passage.closed = none ∧ ((s.channel .t1).heads.map fun h => h.index).Nodup ∧ s.findHead .t1 1 = some h ∧ h.anchor = some a ∧ h.status = status
      ∧ h.cursor = some k ∧ s.plans[k.plan].drop k.step = .atPos (-2000) :: plan0.tail
      ∧ a.positionAt s.localTime < -2000 * 1000
      ∧ after (later s.localTime (ceilDiv ((-2000 * 1000 - a.positionAt s.localTime).toNat * 1000) 300)) s.localTime = true
      ∧ h.crossed = false ∧ h.departed = false ∧ s.timeline ≠ [])
    ∧ (∃ s : State, ∃ h : Head, ∃ a : Anchor, ∃ k : Cursor,
      (s.channel .t1).passage.closed = none ∧ ((s.channel .t1).heads.map fun h => h.index).Nodup ∧ s.findHead .t1 1 = some h ∧ h.anchor = some a ∧ h.status = .held
      ∧ h.cursor = some k ∧ s.plans[k.plan].drop k.step = .atPos (-2000) :: .mark :: .after 1 :: []
      ∧ -2000 * 1000 ≤ a.positionAt s.localTime ∧ h.crossed = false ∧ h.departed = false)
    ∧ ∃ s : State, ∃ h : Head, ∃ a : Anchor, ∃ k : Cursor,
      (s.channel .t1).passage.closed = none ∧ ((s.channel .t1).heads.map fun h => h.index).Nodup ∧ s.findHead .t1 1 = some h ∧ h.anchor = some a
      ∧ h.status = .scheduled ∧ h.cursor = some k ∧ s.plans[k.plan].drop k.step = .after 3000 :: []
      ∧ h.crossed = false ∧ h.departed = false := by
  refine ⟨fun status hs => ⟨{ withHead (fun h => { h with status := status }) with
        timeline := [entry0 1410059#48], localTime := 1300280#48 }, _, ⟨1300280#48, -11143553, 83291⟩, _, rfl, ?_, rfl, rfl, rfl, rfl,
        rfl, (by decide +kernel : Anchor.positionAt ⟨1300280#48, -11143553, 83291⟩ 1300280#48 < -2000 * 1000),
        (by decide +kernel : after (later 1300280#48 (ceilDiv ((-2000 * 1000
          - Anchor.positionAt ⟨1300280#48, -11143553, 83291⟩ 1300280#48).toNat * 1000) 300)) 1300280#48 = true), rfl, rfl, by simp⟩,
    ⟨planned [.atPos (-2000), .mark, .after 1] (fun h => { h with anchor := some ⟨1300280#48, -2000000, 0⟩ }) (at' 1300280#48), _, _,
      _, rfl, by decide +kernel, rfl, rfl, rfl, rfl, rfl, by decide +kernel, rfl, rfl⟩,
    ⟨withHead fun h => { h with status := .scheduled, cursor := some ⟨0, 100, 2⟩ }, _, _, _, rfl, by decide +kernel, rfl, rfl, rfl,
      rfl, rfl, rfl, rfl⟩⟩
  simp [withHead, rail, State.updChannel, State.channel, PerTrack.set, PerTrack.get]

/-- A plan in range and of good shape at P3, its unused bytes filled; bodies whose only step has no known kind, a position, a
delay, a camera, a presence or a strobe just out of range; bindings at tolerance 1,000. -/
theorem witness_plans : quiet.LinkIdle
    ∧ (∀ x ∈ plan0, match x with | .atPos p => -40000 ≤ p ∧ p ≤ 40000 | .after d => 1 ≤ d ∧ d ≤ 1000000 | _ => True)
    ∧ status (ran (.loadPlan 0#8 ([3#8, 3#8] ++ plan0.flatMap Step.bytes)) quiet) = some 0#8
    ∧ status (ran (.loadPlan 0#8 ([4#8, 3#8] ++ plan0.flatMap Step.bytes)) quiet) = some 3#8
    ∧ (let body := [3#8, 2#8] ++ (1#8 :: le 4 40000 ++ [9#8]) ++ [3#8, 7#8, 0#8, 9#8, 9#8, 9#8];
      body.length = 2 + 6 * 2 ∧ field body 1 1 = 2 ∧ SpellsStep body 0 (.atPos 40000) ∧ SpellsStep body 1 (.expose 7 none)
      ∧ status (ran (.loadPlan 0#8 body) quiet) = some 0#8)
    ∧ (∀ step ∈ [[0#8, 0#8, 0#8, 0#8, 0#8, 0#8], [5#8, 0#8, 0#8, 0#8, 0#8, 0#8], 1#8 :: le 4 40001 ++ [0#8],
        1#8 :: le 4 (-40001) ++ [0#8], 2#8 :: le 4 0 ++ [0#8], 2#8 :: le 4 1000001 ++ [0#8],
        [3#8, 8#8, 0#8, 0#8, 0#8, 0#8], [3#8, 7#8, 2#8, 0#8, 0#8, 0#8], [3#8, 7#8, 1#8, 6#8, 0#8, 0#8]],
      ([0#8, 1#8] ++ step).length = 2 + 6 * 1 ∧ field ([0#8, 1#8] ++ step) 1 1 = 1
      ∧ status (ran (.loadPlan 0#8 ([0#8, 1#8] ++ step)) quiet) = some 3#8)
    ∧ status (ran (.bindPlan 0#8 ([2#8, 1#8, 0#8, 9#8] ++ toBytes 2 1000)) quiet) = some 0#8
    ∧ status (ran (.bindPlan 0#8 ([2#8, 1#8, 1#8, 0#8] ++ toBytes 2 1000)) quiet) = some 3#8 :=
  ⟨linkIdle_quiet, by simp [plan0], by decide +kernel, by decide +kernel,
    ⟨by decide, by decide, ⟨by decide, by decide⟩, ⟨by decide, by decide, by decide⟩, by decide +kernel⟩, by decide +kernel⟩

/-- C0 at the end of its exposure, of its recovery and of its warm-up. -/
theorem witness_camera_timers : ∃ a b c : Camera,
    a.state = .exposing shot1 24 ∧ a.lastExposure = some 976 ∧ 976 + 24 ≤ quiet.ticks
    ∧ b.state = .recovering ∧ b.lastExposure = some 0 ∧ 0 + b.recovery ≤ quiet.ticks
    ∧ c.state = .warming 0 ∧ 0 + c.warmUp * 1000 ≤ quiet.ticks ∧ ∀ e, c.lastExposure = some e → e + c.recovery ≤ quiet.ticks :=
  ⟨{ Camera.reset with state := .exposing shot1 24, lastExposure := some 976 },
    { Camera.reset with state := .recovering, lastExposure := some 0, recovery := 1000 },
    { Camera.reset with state := .warming 0, warmUp := 1, lastExposure := some 0, recovery := 1000 }, rfl, rfl, by decide, rfl,
    rfl, by decide, rfl, by decide, fun e h => by injection h with h; subst h; decide⟩

/-- T1 with the worked head and C0 in a state, with a window of shot 1 that runs out now after a run of misses. -/
def awaiting (state : CameraState) (run : Nat) (f : Head → Head) : State :=
  { withHead f with
    cameras := (Vector.replicate 8 Camera.reset).set 0
      { Camera.reset with state := state, confirm := some ⟨shot1, 1000⟩, noReturnRun := run } }

/-- C0 with a window that runs out now, after 1 and after 2 misses, RECOVERING, READY and EXPOSING for another shot, for
the shot of an open head that waits for it; no window. -/
theorem witness_windows : ∃ s u v : State, ∃ w : ConfirmWindow,
    (s.camera 0).confirm = some w ∧ w.closes ≤ s.ticks ∧ (s.camera 0).noReturnRun + 1 < 3 ∧ (s.camera 1).confirm = none
    ∧ (u.camera 0).confirm = some w ∧ (u.camera 0).noReturnRun + 1 = 3 ∧ (u.camera 0).state = .recovering
    ∧ (v.camera 0).confirm = some w ∧ (v.camera 0).noReturnRun + 1 = 3
    ∧ (v.camera 0).state = .exposing { shot1 with step := 2 } 24
    ∧ ((awaiting .ready 2 id).camera 0).confirm = some w ∧ ((awaiting .ready 2 id).camera 0).noReturnRun + 1 = 3
    ∧ ((awaiting .ready 2 id).camera 0).state.code = 2
    ∧ (s.channel w.shot.track).state = .passage ∧ (s.channel w.shot.track).passage.number = w.shot.passage
    ∧ (s.channel w.shot.track).passage.closed = none ∧ (s.findHead w.shot.track w.shot.index).isSome = true
    ∧ s.store.records.length < 32 :=
  ⟨awaiting .recovering 1 (fun h => { h with status := .finished, departed := true }), awaiting .recovering 2 id,
    awaiting (.exposing { shot1 with step := 2 } 24) 2 id, ⟨shot1, 1000⟩, by decide +kernel⟩

/-- A result for a head that is gone; for an open one that waits for its plan; for a FINISHED and departed one whose
last shot it settles, with 30 records held and that of head 2 offered now; for the last head of a passage that closes
since this instant and since an earlier one, with 29 and one. -/
theorem witness_hand_over : (quiet.channel shot1.track).state ≠ .passage
    ∧ (∃ s : State, ∃ g : Head, s.findHead .t1 1 = some g ∧ g.status ≠ .finished ∧ (s.channel .t1).state = .passage
      ∧ (s.channel .t1).passage.number = shot1.passage ∧ (s.channel .t1).passage.closed = none)
    ∧ (∃ s : State, ∃ h : Head, s.findHead .t1 1 = some h ∧ h.status = .finished ∧ h.departed = true
      ∧ (s.channel .t1).state = .passage ∧ (s.channel .t1).passage.closed = none
      ∧ s.headBusy .t1 1 = false ∧ (s.channel .t1).passage.number = shot1.passage ∧ s.InOrder .t1
      ∧ s.store.records.length = 31)
    ∧ ∀ since ∈ [999, 1000], ∃ s : State, ∃ h : Head, (s.channel .t1).state = .passage
      ∧ (s.channel .t1).passage.number = shot1.passage ∧ (s.channel .t1).closingSince = some since ∧ s.ticks = 1000
      ∧ s.findHead .t1 1 = some h ∧ (s.channel .t1).passage.closed = some 900#48 ∧ (s.channel .t1).heads = [h]
      ∧ s.headBusy .t1 1 = false ∧ s.InOrder .t1 ∧ s.store.records.length + 2 = 32 :=
  ⟨by decide, ⟨withHead id, _, rfl, by decide, rfl, rfl, rfl⟩,
    ⟨{ withHead (fun h => { h with status := .finished, departed := true }) with store := storeBehind 30 }, _, rfl, rfl, rfl, rfl, rfl,
      by decide +kernel, rfl, ⟨by decide +kernel, by decide +kernel, by decide +kernel⟩, by decide +kernel⟩,
    fun since _ => ⟨(State.updChannel { withHead (fun h => { h with status := .finished }) with store := storeBehind 29 } .t1 fun c =>
        { c with closingSince := some since, passage := { c.passage with closed := some 900#48 } }), _, rfl, rfl, rfl, rfl, rfl,
      rfl, rfl, by rfl, ⟨(by decide : [1].Pairwise (· < ·)), (by decide : [2].Pairwise (· < ·)),
      List.forall_mem_singleton.2 (List.forall_mem_singleton.2 (by decide : 1 ≠ 2))⟩,
      (by decide +kernel : (storeBehind 29).records.length + 2 = 32)⟩⟩

/-- A store of PASSAGE records holds no head's. -/
theorem holds_storeOf (n : Nat) (s : State) (h : s.store = storeOf n) (idle : s.link.transmission = none) (p : Passage)
    (k : Head) (status : FinalStatus) : ¬s.Holds .t1 p k status := by
  rintro ⟨r, hr | ⟨x, sent, -⟩, x, -, body, -⟩
  · simp only [h, storeOf, List.mem_map] at hr
    obtain ⟨i, -, rfl⟩ := hr
    exact nomatch body
  · exact nomatch idle ▸ sent

/-- A passage that closes since this instant or an earlier one, with heads 1 and 2, whose windows, at C1 and C0, run out
now, with 29 records held. -/
theorem witness_two_windows : ∀ since ∈ [999, 1000], ∃ s : State, ∃ g h : Head, ∃ w v : ConfirmWindow,
    (s.channel .t1).closingSince = some since ∧ s.ticks = 1000
    ∧ (s.channel .t1).state = .passage ∧ (s.channel .t1).passage.closed = some 900#48 ∧ (s.channel .t1).heads = [g, h]
    ∧ s.InOrder .t1 ∧ s.store.records.length + 3 = 32 ∧ (∀ p k status, ¬s.Holds .t1 p k status)
    ∧ (s.camera 1).confirm = some w ∧ w.closes ≤ s.ticks ∧ (s.camera 1).noReturnRun + 1 < 3 ∧ (s.camera 1).state = .recovering
    ∧ w.shot.track = .t1 ∧ w.shot.passage = (s.channel .t1).passage.number ∧ w.shot.index = g.index
    ∧ (s.camera 0).confirm = some v ∧ v.closes ≤ s.ticks ∧ (s.camera 0).noReturnRun + 1 < 3 ∧ (s.camera 0).state = .recovering
    ∧ v.shot.track = .t1 ∧ v.shot.passage = (s.channel .t1).passage.number ∧ v.shot.index = h.index
    ∧ ∀ m, ∀ r ∈ (s.camera m).openShots, (r.index = g.index → m = 1) ∧ (r.index = h.index → m = 0) := by
  intro since hs
  simp only [List.mem_cons, List.not_mem_nil, or_false] at hs
  rcases hs with rfl | rfl <;>
  exact ⟨{ (rail fun c => { c with
        closingSince := some _
        heads := [{ workedHead with status := .finished }, { workedHead with index := 2, status := .finished }]
        passage := { c.passage with closed := some 900#48, lastIndex := 2 } }) with
      store := storeOf 29
      cameras := ((Vector.replicate 8 Camera.reset).set 0
        { Camera.reset with state := .recovering, confirm := some ⟨{ shot1 with index := 2 }, 1000⟩ }).set 1
        { Camera.reset with state := .recovering, confirm := some ⟨shot1, 1000⟩ } },
    _, _, ⟨shot1, 1000⟩, ⟨{ shot1 with index := 2 }, 1000⟩, rfl, rfl, rfl, rfl, rfl, ⟨by decide, by decide, by decide⟩, by decide +kernel, holds_storeOf 29 _ rfl rfl, by decide +kernel⟩

/-- An open passage with heads 1 and 2, FINISHED, one departed and one confirmed, that wait for the returns of shots of
C1 and C0, with 30 records held. -/
theorem witness_two_returns : ∃ s : State, ∃ g h : Head, ∃ w v : ConfirmWindow,
    (s.channel .t1).Counting ∧ (s.channel .t1).heads = [g, h] ∧ s.InOrder .t1
    ∧ g.status = .finished ∧ g.departed = true ∧ h.status = .finished ∧ h.confirmed = true
    ∧ s.store.records.length + 2 = 32 ∧ (∀ p k status, ¬s.Holds .t1 p k status)
    ∧ (s.camera 1).confirm = some w ∧ (s.camera 1).state = .recovering
    ∧ w.shot.track = .t1 ∧ w.shot.passage = (s.channel .t1).passage.number ∧ w.shot.index = g.index
    ∧ (s.camera 0).confirm = some v ∧ (s.camera 0).state = .recovering
    ∧ v.shot.track = .t1 ∧ v.shot.passage = (s.channel .t1).passage.number ∧ v.shot.index = h.index
    ∧ ∀ m, ∀ r ∈ (s.camera m).openShots, (r.index = g.index → m = 1) ∧ (r.index = h.index → m = 0) :=
  ⟨{ (rail fun c => { c with
        heads := [{ workedHead with status := .finished, departed := true },
          { workedHead with index := 2, status := .finished, confirmed := true }]
        passage := { c.passage with lastIndex := 2 } }) with
      store := storeOf 30
      cameras := ((Vector.replicate 8 Camera.reset).set 0
        { Camera.reset with state := .recovering, confirm := some ⟨{ shot1 with index := 2 }, 2000⟩ }).set 1
        { Camera.reset with state := .recovering, confirm := some ⟨shot1, 2000⟩ } },
    _, _, ⟨shot1, 2000⟩, ⟨{ shot1 with index := 2 }, 2000⟩, ⟨rfl, rfl⟩, rfl, ⟨by decide, by decide, by decide⟩, rfl, rfl, rfl, rfl, by decide +kernel,
    holds_storeOf 30 _ rfl rfl, by decide +kernel⟩

/-- SET CAMERA with a window and an exposure that fill the recovery interval; RESET CAMERA of a FAILED camera; SET STROBE at
the ends of its ranges. -/
theorem witness_camera_requests : quiet.LinkIdle
    ∧ status (ran (.setCamera 0#8 (le 1 7 ++ le 1 2 ++ le 2 100 ++ le 2 2 ++ le 2 5000 ++ le 4 1000000 ++ le 2 10000 ++ le 4 100000)) quiet)
      = some 0#8
    ∧ status (ran (.setCamera 0#8 (le 1 7 ++ le 1 2 ++ le 2 100 ++ le 2 2 ++ le 2 990 ++ le 4 1000 ++ le 2 0 ++ le 4 10)) quiet) = some 0#8
    ∧ status (ran (.setCamera 0#8 (le 1 7 ++ le 1 2 ++ le 2 100 ++ le 2 2 ++ le 2 991 ++ le 4 1000 ++ le 2 0 ++ le 4 10)) quiet) = some 3#8
    ∧ status (ran (.setStrobe 0#8 (le 1 5 ++ le 4 1000000 ++ le 2 4000 ++ le 2 2000)) quiet) = some 0#8
    ∧ (∃ s : State, s.LinkIdle ∧ (s.camera 0).state = .failed ∧ [0#8].length = 1 ∧ field [0#8] 0 1 = (0 : Fin 8).val
      ∧ (s.camera 0).track = some .t1 ∧ (s.channel .t1).state = .passage) :=
  ⟨linkIdle_quiet, by decide +kernel, by decide +kernel, by decide +kernel, by decide +kernel,
    ⟨{ rail id with cameras := (Vector.replicate 8 Camera.reset).set 0 { Camera.reset with track := some .t1, state := .failed } },
      ⟨rfl, rfl⟩, rfl, rfl, rfl, rfl, rfl⟩⟩

/-- S1 at the end of its pulse with the charger busy and with it free; a charge that completes now, with S1 the only member
and with S1 ahead of S2. -/
theorem witness_charge : ∃ s u : State, ∃ c : Charge,
    (s.strobe 1).state = .firing shot1 24 976 ∧ 976 + 24 ≤ s.ticks ∧ s.charger = some c ∧ c.completes ≤ s.ticks
    ∧ s.chargeQueue = [⟨2, 5⟩] ++ ⟨3, 4⟩ :: [⟨4, 4⟩]
    ∧ (∀ k ∈ ([⟨2, 5⟩] ++ [⟨4, 4⟩] : List QueueMember), s.chargesBefore ⟨3, 4⟩ k = true ∧ s.chargesBefore k ⟨3, 4⟩ = false)
    ∧ (3 : Fin 6) ≠ c.strobe
    ∧ (u.strobe 1).state = .firing shot1 24 976 ∧ u.charger = none ∧ u.chargeQueue = []
    ∧ ∀ y : Fin 6, y ≠ 1 → (u.strobe y).state = .off :=
  ⟨{ quiet with
      strobes := (Vector.replicate 6 Strobe.reset).set 1 { Strobe.reset with state := .firing shot1 24 976, sfire := true }
      charger := some ⟨0, 1000, none⟩, chargeQueue := [⟨2, 5⟩, ⟨3, 4⟩, ⟨4, 4⟩] },
    { quiet with
      strobes := (Vector.replicate 6 Strobe.reset).set 1 { Strobe.reset with state := .firing shot1 24 976, sfire := true } },
    ⟨0, 1000, none⟩, rfl, by decide, rfl, by decide, rfl, by decide +kernel, by decide, rfl, rfl, rfl, by decide +kernel⟩

/-- S1 at the end of its pulse, the charger free: another pulse ends now; and S2, which joined before it, stands ahead. -/
theorem witness_pulse_ends : ∃ s u : State,
    (s.strobe 1).state = .firing shot1 24 976 ∧ s.charger = none
    ∧ (∃ y r p n, y ≠ 1 ∧ (s.strobe y).state = .firing r p n ∧ n + p ≤ s.ticks)
    ∧ (u.strobe 1).state = .firing shot1 24 976 ∧ u.charger = none
    ∧ (⟨2, 5⟩ : QueueMember) ∈ u.chargeQueue ++ [⟨1, u.ticks⟩]
    ∧ (∀ k ∈ u.chargeQueue ++ [⟨1, u.ticks⟩], k ≠ ⟨2, 5⟩ → u.chargesBefore ⟨2, 5⟩ k = true ∧ u.chargesBefore k ⟨2, 5⟩ = false)
    ∧ ∀ y : Fin 6, y ≠ 1 → (u.strobe y).state = .off :=
  ⟨{ quiet with
      strobes := ((Vector.replicate 6 Strobe.reset).set 1 { Strobe.reset with state := .firing shot1 24 976 }).set 4
        { Strobe.reset with state := .firing shot1 10 990 } },
    { quiet with
      strobes := (Vector.replicate 6 Strobe.reset).set 1 { Strobe.reset with state := .firing shot1 24 976, sfire := true }
      chargeQueue := [⟨2, 5⟩] },
    rfl, rfl, ⟨4, shot1, 10, 990, by decide, rfl, by decide⟩, rfl, rfl, by decide +kernel⟩

/-- T1 with S1 FIRING, and a charger. -/
def flashing (charger : Option Charge) (queue : List QueueMember) : State :=
  { quiet with
    strobes := ((Vector.replicate 6 Strobe.reset).set 1 { Strobe.reset with state := .firing shot1 24 990, sfire := true }).set 0
      { Strobe.reset with state := .charging }
    charger := charger, chargeQueue := queue }

/-- An edge that leaves the inhibit as it is, and one that cuts a firing strobe: while the charger works for one that joined
before, while it works for S0, which joined at this instant, and while it is free; a body of 8 bytes. -/
theorem witness_inhibit :
    let v := quiet.inhibits.set 0 { quiet.inhibits[0] with level := false }
    (∃ i : Fin 4, v[i].enabled = true ∧ v[i].level = v[i].activeHigh)
    ∧ (∀ i : Fin 4, ¬(quiet.inhibits[i].enabled = true ∧ quiet.inhibits[i].level = quiet.inhibits[i].activeHigh))
    ∧ (∀ c ∈ [none, some ⟨0, 2000, none⟩, some ⟨0, 2000, some 999⟩, some ⟨0, 2000, some 1000⟩],
      (flashing c []).LinkIdle ∧ (flashing c []).inhibit = false ∧ (flashing c []).inhibits = quiet.inhibits
      ∧ ((flashing c []).strobe 1).state = .firing shot1 24 990
      ∧ ∀ x, (flashing c []).charger = some x → ((flashing c []).strobe x.strobe).state = .charging)
    ∧ (∀ k ∈ ([⟨0, 1000⟩, ⟨1, 1000⟩] : List QueueMember), k ≠ ⟨0, 1000⟩ →
      (flashing (some ⟨0, 2000, some 1000⟩) []).chargesBefore ⟨0, 1000⟩ k = true
      ∧ (flashing (some ⟨0, 2000, some 1000⟩) []).chargesBefore k ⟨0, 1000⟩ = false)
    ∧ (List.replicate 8 (1#8 : Byte)).length = 8 ∧ (∀ b ∈ List.replicate 8 (1#8 : Byte), b.toNat ≤ 1) := by
  refine ⟨⟨0, by decide +kernel⟩, by decide +kernel, fun c hc => ⟨⟨rfl, rfl⟩, rfl, rfl, rfl, ?_⟩, by decide +kernel, rfl, by decide⟩
  simp only [List.mem_cons, List.not_mem_nil, or_false] at hc
  rcases hc with rfl | rfl | rfl | rfl <;> intro x hx <;> cases hx <;> rfl

/-- A store of three records: the middle one is 2; no record is 65,535; the store empty. -/
theorem witness_records : quiet.LinkIdle ∧ quiet.store.records = []
    ∧ (∃ ahead record behind, (storeOf 3).records = ahead ++ record :: behind ∧ record.number = 2 ∧ behind ≠ [])
    ∧ ((storeOf 3).records.map fun r => r.number).Nodup ∧ (∀ r ∈ (storeOf 3).records, r.number ≠ 65535)
    ∧ field [0xFF#8, 0xFF#8] 0 2 = 65535 ∧ field [2#8, 0#8] 0 2 = 2 :=
  ⟨linkIdle_quiet, rfl, ⟨[_], _, [_], rfl, rfl, by decide⟩, by decide +kernel⟩

theorem witness_store_and_health : quiet.LinkIdle ∧ status (ran (.setStore 0#8 [1#8, 32#8]) quiet) = some 0#8
    ∧ status (ran (.setStore 0#8 [1#8, 33#8]) quiet) = some 3#8 ∧ status (ran (.setHealth 0#8 [1#8]) quiet) = some 0#8
    ∧ field [11#8] 0 1 = (11 : Fin 12).val ∧ 12 ≤ field [12#8] 0 1 := ⟨linkIdle_quiet, by decide +kernel⟩

/-- Good stores with 31 records, on the threshold, and with 32 under both policies; the empty one; one of 32 whose oldest and
whose second record RELEASE RECORD names, the newcomer having another number; SET STORE with the figures at their ends. -/
theorem witness_offers : ∃ a b c : Store, a.Good ∧ a.records.length = 31 ∧ a.records.length + 1 = a.threshold
    ∧ b.Good ∧ b.records.length = 32 ∧ b.policy = .keep ∧ c.Good ∧ c.records.length = 32 ∧ c.policy = .replace
    ∧ quiet.LinkIdle ∧ quiet.store.Good ∧ quiet.store.records = []
    ∧ (∃ r behind, c.records = [] ++ r :: behind ∧ field [1#8, 0#8] 0 2 = r.number
      ∧ ∀ x ∈ (State.offer { quiet with store := c } .t1 someBody).store.records, x.number ≠ r.number)
    ∧ (∃ r behind, c.records = c.records.take 1 ++ r :: behind ∧ field [2#8, 0#8] 0 2 = r.number)
    ∧ field [0#8, 1#8] 0 1 = 0 ∧ field [0#8, 1#8] 1 1 = 1 ∧ field [1#8, 32#8] 0 1 = 1 ∧ field [1#8, 32#8] 1 1 = 32 := by
  refine ⟨{ storeOf 31 with threshold := 32 }, storeOf 32, { storeOf 32 with policy := .replace }, ?_⟩
  simp only [Store.Good, RecordNumber]
  refine ⟨by decide +kernel, by decide +kernel, by decide +kernel, by decide +kernel, by decide +kernel, by decide +kernel,
    by decide +kernel, by decide +kernel, by decide +kernel, linkIdle_quiet, by decide +kernel, rfl,
    ⟨_, _, rfl, rfl, by decide +kernel⟩, ⟨_, _, rfl, rfl⟩, by decide⟩

/-- Scores at the ends of the three ranges. -/
theorem witness_scores : ∀ n ∈ [0, 87, 88, 95, 96, 119, 120, 127, 128, 255],
    ({ Health.reset with score := n, state := healthOfScore n } : Health).state
      = (if 128 ≤ n then .excluded else if 96 ≤ n then .degraded else .normal) := by decide

/-- A closing passage with no head left, NORMAL with an agreed count, with none, and REVERSED, with 31 records held and
its last step to come; a passage with no head whose clear interval runs out now; and a track that is not in PASSAGE. -/
theorem witness_clear :
    (∀ f ∈ ([(fun p => { p with counts := ⟨8, 8, 7, 8⟩ }), (fun p => { p with counts := ⟨8, 8, 7, 7⟩ }),
        (fun p => { p with outcome := .reversed })] : List (Passage → Passage)), ∃ s : State,
      (s.channel .t1).state = .passage ∧ (s.channel .t1).passage.closed = some 1000#48 ∧ (s.channel .t1).heads = []
      ∧ s.store.records.length = 31 ∧ (s.channel .t1).closingSince = some s.ticks)
    ∧ (((rail id).channel .t1).Counting ∧ ((rail id).channel .t1).clearTimer = some 1000 ∧ 1000 ≤ (rail id).ticks
      ∧ ((rail id).channel .t1).heads = [])
    ∧ ¬(quiet.channel .t1).Counting
    ∧ ¬((quiet.channel .t1).state = .passage ∧ (quiet.channel .t1).passage.closed ≠ none ∧ (quiet.channel .t1).heads = []) := by
  refine ⟨fun f hf => ⟨{ (rail fun c => { c with
        clearTimer := none, closingSince := some 1000, passage := f { c.passage with closed := some 1000#48 } }) with
      store := storeOf 31 }, rfl, ?_, rfl, (by decide +kernel : (storeOf 31).records.length = 31), rfl⟩,
    ⟨⟨rfl, rfl⟩, rfl, by decide, rfl⟩, fun h => (nomatch h.1), by decide⟩
  simp only [List.mem_cons, List.not_mem_nil, or_false] at hf
  rcases hf with rfl | rfl | rfl <;> rfl

/-- The clear interval runs out on the worked head, SCHEDULED with its entry and FINISHED but waiting for a shot of C0,
beside an UNTIMED head, with 29 records held, one behind the first head's, and full counts; the approach detector in use is
BLOCKED. -/
theorem witness_clear_heads : ∀ works ∈ [false, true], ∃ s : State, (s.channel .t1).Counting
    ∧ (s.channel .t1).clearTimer = some 1000 ∧ 1000 ≤ s.ticks
    ∧ ((s.channel .t1).detectors.get .hda).blocked = true ∧ (s.channel .t1).passage.rehearsal = false
    ∧ (s.channel .t1).passage.approachInUse = true
    ∧ s.InOrder .t1 ∧ s.store.records.length + (s.channel .t1).heads.length = 32
    ∧ (s.channel .t1).passage.captured = 255 ∧ (s.channel .t1).passage.missed = 255
    ∧ s.headBusy .t1 1 = works ∧ s.headBusy .t1 3 = false ∧ s.timeline ≠ [] := by
  intro works _
  refine ⟨settling .hda true { (rail fun c => { c with
        heads := [{ workedHead with status := .scheduled }, newHead 3 900#48 50]
        passage := { c.passage with captured := 255, missed := 255, lastIndex := 3 } }) with
      store := storeBehind 29, timeline := [entry0 1410059#48]
      cameras := (Vector.replicate 8 Camera.reset).set 0
        { Camera.reset with state := .recovering, confirm := if works then some ⟨shot1, 1001⟩ else none } },
    ⟨rfl, rfl⟩, rfl, Nat.le_refl 1000, rfl, rfl, rfl, ⟨(by decide : [1, 3].Pairwise (· < ·)), (by decide : [2].Pairwise (· < ·)),
      List.forall_mem_singleton.2 (List.forall_mem_cons.2 ⟨(by decide : 1 ≠ 2), List.forall_mem_singleton.2 (by decide : 3 ≠ 2)⟩)⟩,
    (by decide +kernel : (storeBehind 29).records.length + 2 = 32), rfl, rfl, ?_, ?_, List.cons_ne_nil _ _⟩
  · cases works <;> decide +kernel
  · cases works <;> decide +kernel

/-- An IDLE track with a count of WAO that runs out at a tick. -/
def counting (d : Nat) : State :=
  (idle .live).updChannel .t1 fun c => { c with wheels := c.wheels.set .wao { level := true, count := some (900#48, d) } }

theorem traffic_of_a_running_count : (counting 1001).SomeTraffic ∧ ¬(counting 1000).SomeTraffic := by
  refine ⟨⟨.t1, .inr ⟨.inl rfl, .inl ⟨.wao, _, .inl rfl, rfl, by decide⟩⟩⟩, ?_⟩
  rintro ⟨t, h | ⟨-, ⟨w, n, hw, hn, lt⟩ | ⟨p, hp, -⟩⟩⟩
  · cases t <;> exact (nomatch h)
  · rcases hw with rfl | rfl
    · cases t <;> cases hn
      exact absurd lt (by decide)
    · cases t <;> cases hn
  · cases t <;> exact (nomatch hp)

/-- R147, R157: SET TIME and a stepping REF edge, taken before the outer pulse whose count runs out at that instant,
leave the open time as far behind local time as its leading edge was. -/
theorem test_passage_on_the_new_run :
    let opened := fun (s : State) =>
      let u := ran (.wheelPulseAccepted .t1 .wao) s
      ((u.channel .t1).state, u.localTime, (u.channel .t1).passage.opened)
    opened (ran (.setTime 0#8 (le 4 5)) (counting 1000)) = (.passage, 5001000#48, 5000900#48)
    ∧ opened (ran (.refEdge true) { counting 1000 with tracker := { Tracker.reset with enabled := true, state := .search } })
      = (.passage, 0#48, -100#48)
    ∧ status (ran (.setTime 0#8 (le 4 5)) (ran (.wheelPulseAccepted .t1 .wao) (counting 1000))) = some 4#8 := by decide +kernel

/-- An outer pulse of an IDLE track that is accepted now. -/
theorem witness_opening : ∃ stamp p, (counting 1000).Accepts .t1 .wao stamp p ∧ ((counting 1000).channel .t1).state = .idle :=
  ⟨_, _, .inl ⟨rfl, ⟨1000, rfl, by decide⟩, rfl⟩, rfl⟩

/-- Seconds of 281,474,975 and one more; a track in PASSAGE; a count of an outer input that runs on, and one that runs out
now. -/
theorem witness_time : quiet.LinkIdle ∧ status (ran (.setTime 0#8 (le 4 281474975)) quiet) = some 0#8
    ∧ status (ran (.setTime 0#8 (le 4 281474976)) quiet) = some 3#8 ∧ (rail id).LinkIdle
    ∧ status (ran (.setTime 0#8 (le 4 0)) (rail id)) = some 4#8
    ∧ (counting 1001).LinkIdle ∧ status (ran (.setTime 0#8 (le 4 0)) (counting 1001)) = some 4#8
    ∧ (counting 1000).LinkIdle ∧ status (ran (.setTime 0#8 (le 4 0)) (counting 1000)) = some 0#8
    ∧ status (ran (.setReference 0#8 [1#8, 1#8]) quiet) = some 0#8 :=
  ⟨linkIdle_quiet, by decide +kernel, by decide +kernel, linkIdle_rail _, by decide +kernel, ⟨rfl, rfl⟩, by decide +kernel, ⟨rfl, rfl⟩,
    by decide +kernel, by decide +kernel⟩

/-- A LOCKED tracker 500 µs and 501 µs after its second, unseen, after no miss and after one; one in SEARCH, with a
count of an outer input that runs on, and with one that runs out now. -/
theorem witness_reference : ∃ k : Tracker, k.state = .locked ∧ k.seen = false ∧ k.falling = false ∧ k.misses = 0
    ∧ timeDiff 1000500#48 k.window = 500 ∧ 500 < timeDiff 1000501#48 k.window ∧ timeDiff 999500#48 k.window = -500
    ∧ ({ k with misses := 1 } : Tracker).misses = 1
    ∧ ∃ searching : Tracker, searching.state = .search
      ∧ ({ counting 1001 with tracker := searching } : State).SomeTraffic
      ∧ ¬({ counting 1000 with tracker := searching } : State).SomeTraffic :=
  ⟨{ Tracker.reset with enabled := true, state := .locked, window := 1000000#48 }, rfl, rfl, rfl, rfl, by decide +kernel,
    by decide +kernel, by decide +kernel, rfl, { Tracker.reset with enabled := true, state := .search }, rfl,
    traffic_of_a_running_count.1, traffic_of_a_running_count.2⟩

/-- The worked rehearsal on an idle generator; the last edge of a schedule, due now; one that is not due. -/
theorem witness_rehearsal : (idle .rehearsal).LinkIdle ∧ rehearsal.length = 11 + 3 * field rehearsal 9 1 + 5 * field rehearsal 10 1
    ∧ field rehearsal 0 1 = trackCode .t1 ∧ field rehearsal 1 1 = directionCode .ab
    ∧ status (ran (.rehearse 0#8 rehearsal) (idle .rehearsal)) = some 0#8
    ∧ status (ran (.rehearse 0#8 rehearsal) (idle .live)) = some 4#8
    ∧ ∃ s : State, ∃ e : SyntheticEdge, (s.channel .t1).generator.schedule = [e]
      ∧ (s.channel .t1).generator.acceptedAt + e.offset = s.ticks :=
  ⟨linkIdle_idle _, by decide +kernel, by decide +kernel, by decide +kernel, by decide +kernel, by decide +kernel,
    (idle .rehearsal).updChannel .t1 fun c => { c with generator := ⟨[⟨400, .head .hda, true⟩], 600, false⟩ },
    ⟨400, .head .hda, true⟩, rfl, by decide⟩

/-! ### States away from the reset that meet the invariants -/

theorem witness_tracks : (rail id).BothTracks Channel.QueuesGood ∧ (rail id).BothTracks Channel.SpeedsGood
    ∧ (rail id).BothTracks Channel.TimersGood ∧ (rail id).BothTracks Channel.InputsGood := by
  simp only [State.BothTracks, Channel.QueuesGood, AxlePair.Good, Channel.SpeedsGood, Channel.TimersGood, Channel.InputsGood,
    SpeedInRange]
  refine ⟨⟨by decide, by decide⟩, ⟨?_, ?_⟩, ⟨by decide, by decide⟩, ⟨by decide, by decide⟩⟩ <;>
    exact ⟨by decide, fun _ h => (nomatch h), fun _ h => (nomatch h), fun _ h => (nomatch h)⟩

/-- The worked head SCHEDULED with its entry, and the record of head 2 offered at this instant. -/
theorem witness_heads : ∃ s : State, s.timeline ≠ [] ∧ s.store.offered ≠ [] ∧ s.BothTracks Channel.HeadsGood ∧ s.TimelineGood
    ∧ s.OfferedGood .t1 ∧ s.OfferedGood .t2 := by
  refine ⟨State.updChannel { withHead (fun h => { h with status := .scheduled }) with
      timeline := [entry0 1410059#48], store := storeBehind 31 } .t1 fun c =>
        { c with passage := { c.passage with lastIndex := 2 } }, by decide, by decide +kernel, ?_⟩
  simp only [State.BothTracks, Channel.HeadsGood, State.TimelineGood, State.EntryOwned, State.HeadsEntered, State.OfferedGood]
  decide +kernel

/-- One step from a good state with a scheduled head, and the same for the cameras of an awake track. -/
theorem witness_cameras : ∃ s : State, (s.camera 0).powered = true ∧ s.CamerasGood := by
  refine ⟨withHead fun h => h, by decide +kernel, fun i => ⟨?_, ?_⟩⟩
  · simp only [Camera.Good, Camera.SettingsGood]
    refine ⟨by revert i; decide +kernel, by revert i; decide +kernel, by revert i; decide +kernel, by revert i; decide +kernel,
      by revert i; decide +kernel, by revert i; decide +kernel, fun shot e h => ?_⟩
    revert h
    match i with
    | 0 | 1 | 2 | 3 | 4 | 5 | 6 | 7 => exact fun h => (nomatch h)
  · simp only [State.CameraFollowsTrack]
    revert i
    decide +kernel

/-- The pool awake: S0 on the charger, the other strobes in the queue. -/
theorem witness_strobes : ∃ s : State, s.charger.isSome = true ∧ s.StrobesGood := by
  refine ⟨State.powerUpPool (idle .live), by decide +kernel, ?_⟩
  simp only [State.StrobesGood, State.StrobeGood, State.ChargerPinsGood]
  decide +kernel

theorem witness_shared_units : ∃ s : State, s.HealthGood ∧ s.store.Good ∧ s.link.Good ∧ s.attention.Good ∧ s.tracker.Good
    ∧ s.store.records.length = 32 ∧ s.link.queue.length = 1 ∧ s.attention.attn = true ∧ s.tracker.state = .locked := by
  refine ⟨{ replyingSince0 false [strange] 5 with
      store := storeOf 32
      attention := { Attention.reset with latched := 1#12, attn := true }
      tracker := { Tracker.reset with enabled := true, state := .locked, misses := 1 } }, ?_⟩
  simp only [State.HealthGood, Health.Good, Store.Good, RecordNumber, Link.Good, Attention.Good, Tracker.Good]
  decide +kernel

/-- A track in PASSAGE with no command waiting, whose step is a tick, a plain one and an adjusted one. -/
theorem witness_passage :
    (∃ s t : State, s.SomePassage ∧ s.pending = [] ∧ step s = .next t ∧ t.ticks = s.ticks + 1
      ∧ ∀ c ∈ s.tracker.corrections, c.target ≠ s.localTime + 1#48)
    ∧ ∃ s t : State, s.SomePassage ∧ s.pending = [] ∧ step s = .next t ∧ t.ticks = s.ticks + 1
      ∧ ∃ c ∈ s.tracker.corrections, c.target = s.localTime + 1#48 :=
  ⟨⟨rail fun c => { c with clearTimer := some 2000 }, _, ⟨.t1, rfl⟩, rfl, rfl, by decide +kernel⟩,
    ⟨{ (rail fun c => { c with clearTimer := some 2000 }) with
        tracker := { Tracker.reset with corrections := [⟨1001#48, false⟩] } },
      _, ⟨.t1, rfl⟩, rfl, rfl, by decide +kernel⟩⟩

end Sys2Proof.Tests
end

section
/-! Proofs: what goes on with the heads of a track leaves the rest of its channel alone. -/

namespace Sys2Proof.Machine

variable {s u v : State}

/-! ## Both tracks -/

theorem State.bothTracks_iff {good : Channel → Prop} : s.BothTracks good ↔ ∀ t, good (s.channel t) :=
  ⟨fun h t => by cases t; exacts [h.1, h.2], fun h => ⟨h .t1, h .t2⟩⟩

theorem State.channel_eq (h : u.channels = s.channels) (t : TrackId) : u.channel t = s.channel t := by
  simp only [State.channel, h]

theorem State.updChannel_same (s : State) (t : TrackId) (f : Channel → Channel) :
    (s.updChannel t f).channel t = f (s.channel t) := by simp

theorem State.updChannel_other (s : State) {t k : TrackId} (f : Channel → Channel) (h : k ≠ t) :
    (s.updChannel t f).channel k = s.channel k := by simp [h]

/-! ## Operations that leave the channels alone -/

@[simp] theorem latchSome_channels (s : State) (e : Option Event) : (s.latchSome e).channels = s.channels := by
  cases e <;> rfl

@[simp] theorem fault_channels (s : State) (i : Fin 12) : (s.fault i).channels = s.channels := by simp [State.fault]

@[simp] theorem good_channels (s : State) (i : Fin 12) : (s.good i).channels = s.channels := by simp [State.good]

@[simp] theorem faultUnlessRehearsal_channels (s : State) (t : TrackId) (i : Fin 12) :
    (s.faultUnlessRehearsal t i).channels = s.channels := by
  unfold State.faultUnlessRehearsal
  split <;> simp

@[simp] theorem goodUnlessRehearsal_channels (s : State) (t : TrackId) (i : Fin 12) :
    (s.goodUnlessRehearsal t i).channels = s.channels := by
  unfold State.goodUnlessRehearsal
  split <;> simp

@[simp] theorem agree_channels (s : State) (i : Fin 12) : (s.agree i).channels = s.channels := by
  unfold State.agree
  dsimp only
  split <;> simp

@[simp] theorem reportSensor_channels (s : State) (t : TrackId) (agreed : Option Nat) (counts : PerSensor Nat)
    (w : WheelSensor) : (s.reportSensor t agreed counts w).channels = s.channels := by
  unfold State.reportSensor
  dsimp only
  split <;> split <;> (try split) <;> simp

/-- A fold whose every step keeps the channels keeps them. -/
theorem foldl_channels {α : Type} (f : State → α → State) (h : ∀ s x, (f s x).channels = s.channels) (l : List α)
    (s : State) : (l.foldl f s).channels = s.channels := by
  induction l generalizing s with
  | nil => rfl
  | cons x rest ih => exact (ih _).trans (h s x)

@[simp] theorem reportClose_channels (s : State) (t : TrackId) : (s.reportClose t).channels = s.channels := by
  unfold State.reportClose
  dsimp only
  split
  · exact foldl_channels _ (fun s w => reportSensor_channels s t _ _ w) _ s
  · rfl

@[simp] theorem stuckTest_channels (s : State) (t : TrackId) (d : Detector) : (s.stuckTest t d).channels = s.channels := by
  unfold State.stuckTest
  split <;> simp

@[simp] theorem powerUpCameras_channels (s : State) (t : TrackId) : (s.powerUpCameras t).channels = s.channels :=
  foldl_channels (fun s i => s.updCamera i fun c => c.powerUp s.ticks) (fun _ _ => rfl) _ s

@[simp] theorem startCharge_channels (s : State) (joins : Option Nat) : (s.startCharge joins).channels = s.channels := by
  obtain ⟨h, -⟩ | ⟨_, _, -, -, h⟩ := startCharge_cases s joins
  · rw [h]
  · rw [h]; rfl

@[simp] theorem joinOffStrobes_channels (l : List (Fin 6)) (s : State) : (s.joinOffStrobes l).channels = s.channels := by
  induction l generalizing s with
  | nil => rfl
  | cons x rest ih =>
    refine (ih _).trans ?_
    split <;> rfl

@[simp] theorem wakePool_channels (s : State) (awake : Bool) : (s.wakePool awake).channels = s.channels := by
  unfold State.wakePool
  split
  · rfl
  · simp [State.powerUpPool]

@[simp] theorem restPool_channels (s : State) : s.restPool.channels = s.channels := by
  unfold State.restPool
  split <;> rfl

@[simp] theorem requestExposure_channels (s : State) (i : Fin 8) (shot : ShotRef) (a : CameraAnswer) :
    (s.requestExposure i shot a).channels = s.channels := by cases a <;> rfl

@[simp] theorem fireFor_channels (s : State) (strobe : Option (Fin 6)) (t : TrackId) (shot : ShotRef) (exposure : Nat) :
    (s.fireFor strobe t shot exposure).channels = s.channels := by
  unfold State.fireFor
  split
  · rfl
  · split <;> rfl

/-! ## What goes on with the heads of a track -/

/-- `d` is `c` but for the heads and the counts that a passage keeps of them. -/
def Channel.Tended (c d : Channel) : Prop :=
  ∃ heads accepted rejected dropped captured missed lost lastIndex,
    d = { c with
      heads := heads
      passage := { c.passage with
        accepted := accepted, rejected := rejected, dropped := dropped, captured := captured, missed := missed,
        lost := lost, lastIndex := lastIndex } }

theorem Channel.Tended.refl (c : Channel) : c.Tended c := ⟨_, _, _, _, _, _, _, _, rfl⟩

theorem Channel.Tended.trans {c d e : Channel} (h : c.Tended d) (k : d.Tended e) : c.Tended e := by
  obtain ⟨_, _, _, _, _, _, _, _, rfl⟩ := h
  obtain ⟨_, _, _, _, _, _, _, _, rfl⟩ := k
  exact ⟨_, _, _, _, _, _, _, _, rfl⟩

/-- Both channels are tended at most. -/
def State.Tends (s u : State) : Prop := ∀ t, (s.channel t).Tended (u.channel t)

theorem State.Tends.trans (h : s.Tends u) (k : u.Tends v) : s.Tends v := fun t => (h t).trans (k t)

theorem State.Tends.of_eq (h : u.channels = s.channels) : s.Tends u := fun t => State.channel_eq h t ▸ .refl _

theorem State.Tends.refl (s : State) : s.Tends s := .of_eq rfl

theorem updChannel_tends {t : TrackId} {f : Channel → Channel} (h : (s.channel t).Tended (f (s.channel t))) :
    s.Tends (s.updChannel t f) := by
  intro k
  by_cases same : k = t
  · subst same
    rw [State.updChannel_same]
    exact h
  · rw [State.updChannel_other s f same]
    exact .refl _

theorem updHead_tends (s : State) (t : TrackId) (n : Nat) (f : Head → Head) : s.Tends (s.updHead t n f) :=
  updChannel_tends ⟨_, _, _, _, _, _, _, _, rfl⟩

theorem countLost_tends (s : State) (t : TrackId) (body : RecordBody) : s.Tends (s.countLost t body) := by
  cases body with
  | head x => exact updChannel_tends ⟨_, _, _, _, _, _, _, _, rfl⟩
  | passage x => exact .refl s

theorem offer_tends (s : State) (t : TrackId) (body : RecordBody) : s.Tends (s.offer t body) := by
  unfold State.offer
  dsimp only
  split
  · split <;> exact .of_eq rfl
  · split
    · exact (countLost_tends s t body).trans (.of_eq rfl)
    · exact .of_eq rfl

theorem countClosed_tended (c : Channel) (status : FinalStatus) (n : Nat) :
    c.Tended (Channel.removeHead { c with passage := c.passage.countClosed status } n) :=
  by cases status <;> exact ⟨_, _, _, _, _, _, _, _, rfl⟩

theorem offerInOrder_tends (s : State) (w : OfferedRecord) : s.Tends (s.offerInOrder w) :=
  (State.Tends.of_eq (by rfl)).trans (offer_tends _ w.track _)

theorem closeHead_tends (s : State) (t : TrackId) (n : Nat) (cause : CloseCause) : s.Tends (s.closeHead t n cause) := by
  unfold State.closeHead
  split
  · exact .refl s
  · exact State.Tends.trans (u := (s.dropEntry t n).updChannel t _)
      (updChannel_tends (s := s.dropEntry t n) (countClosed_tended _ _ n)) (offerInOrder_tends _ _)

theorem offerPassage_tends (s : State) (t : TrackId) (agreed : Option Nat) : s.Tends (s.offerPassage t agreed) :=
  (State.Tends.of_eq (by rfl)).trans (offer_tends _ t _)

theorem settleResult_tends (s : State) (r : ShotRef) (result : Confirmation) : s.Tends (s.settleResult r result) := by
  obtain ⟨-, h⟩ | ⟨-, h⟩ := settleResult_cases s r result
  · rw [h]; exact .refl s
  · rw [h]; exact updHead_tends s _ _ _

theorem flashCut_tends (s : State) (r : ShotRef) : s.Tends (s.flashCut r) := by
  unfold State.flashCut
  split
  · exact updHead_tends s _ _ _
  · exact .refl s

/-! ## What the work on heads is made of

Plans, timing and re-anchoring work on the heads of a track in a few ways only. What relates a state to the one after each
of these relates it to the one after any such work. -/

/-- A relation of states that holds across every part of the work on heads. -/
structure Tending (R : State → State → Prop) : Prop where
  refl : ∀ s, R s s
  trans : ∀ {s u v}, R s u → R u v → R s v
  head : ∀ s t n f, R s (s.updHead t n f)
  close : ∀ s t n cause, R s (s.closeHead t n cause)
  timeline : ∀ s timeline, R s { s with timeline := timeline }
  expose : ∀ s i shot speed, (s.camera i).state = .ready →
    R s (s.updCamera i fun c => c.expose shot ((s.camera i).exposureFor speed).1 s.ticks)
  fire : ∀ s x shot exposure, s.inhibit = false → (s.strobe x).state = .ready →
    R s (s.updStrobe x fun y => y.fire shot exposure s.ticks)
  fault : ∀ s i, R s (s.fault i)
  good : ∀ s i, R s (s.good i)
  accepted : ∀ s t, R s (s.updPassage t Passage.countAccepted)
  rejected : ∀ s t, R s (s.updPassage t fun p => { p with rejected := satSucc top8 p.rejected })
  dropped : ∀ s t, R s (s.updPassage t fun p => { p with dropped := satSucc top8 p.dropped })
  remove : ∀ s t n, R s (s.updChannel t fun c => c.removeHead n)
  enter : ∀ s t start duration, R s (s.updChannel t fun c => c.enterHead start duration)

namespace Tending

variable {R : State → State → Prop} (k : Tending R)
include k

theorem faultUnlessRehearsal (s : State) (t : TrackId) (i : Fin 12) : R s (s.faultUnlessRehearsal t i) := by
  unfold State.faultUnlessRehearsal
  split
  · exact k.refl s
  · exact k.fault s i

theorem goodUnlessRehearsal (s : State) (t : TrackId) (i : Fin 12) : R s (s.goodUnlessRehearsal t i) := by
  unfold State.goodUnlessRehearsal
  split
  · exact k.refl s
  · exact k.good s i

theorem closeTest (s : State) (t : TrackId) (n : Nat) : R s (s.closeTest t n) := by
  obtain h | ⟨_, -, -, h⟩ := closeTest_cases s t n
  · rw [h]; exact k.refl s
  · rw [h]; exact k.close s t n _

theorem closeHeads (t : TrackId) (cause : CloseCause) (l : List Nat) (s : State) : R s (s.closeHeads t cause l) := by
  induction l generalizing s with
  | nil => exact k.refl s
  | cons n rest ih => exact k.trans (k.close s t n cause) (ih _)

theorem closeTests (t : TrackId) (l : List Nat) (s : State) : R s (s.closeTests t l) := by
  induction l generalizing s with
  | nil => exact k.refl s
  | cons n rest ih => exact k.trans (k.closeTest s t n) (ih _)

theorem schedule (s : State) (t : TrackId) (n step : Nat) (kind : WaitKind) (due : LocalTime) :
    R s (s.schedule t n step kind due) := k.trans (k.head s t n _) (k.timeline _ _)

theorem finishPlan (s : State) (t : TrackId) (n step : Nat) : R s (s.finishPlan t n step) :=
  k.trans (k.head s t n _) (k.closeTest _ t n)

/-- A strobe fires where nothing keeps it dark, and otherwise nothing happens (R121). -/
theorem fireFor (s : State) (strobe : Option (Fin 6)) (t : TrackId) (shot : ShotRef) (exposure : Nat) :
    R s (s.fireFor strobe t shot exposure) := by
  unfold State.fireFor
  split
  · exact k.refl s
  · next x =>
    split
    · next lit =>
      have ready : s.inhibit = false ∧ (s.strobe x).state = .ready := by
        unfold State.unlitReason at lit
        split at lit
        · simp at lit
        · split at lit
          · simp at lit
          · split at lit <;> simp_all
      exact k.fire s x shot exposure ready.1 ready.2
    · exact k.refl s

/-- A camera that answers that an exposure is taken is READY (R107). -/
theorem runExpose (s : State) (t : TrackId) (h : Head) (step : Nat) (camera : Fin 8) (strobe : Option (Fin 6))
    (due : LocalTime) : R s (s.runExpose t h step camera strobe due) := by
  unfold State.runExpose
  dsimp only
  split
  · next exposure clamped taken =>
    have ready : (s.camera camera).state = .ready ∧ ((s.camera camera).exposureFor h.anchorSpeed).1 = exposure := by
      unfold Camera.answer at taken
      split at taken <;> simp_all
    refine k.trans (k.trans ?_ (k.fireFor _ _ _ _ _)) (k.head _ t _ _)
    rw [← ready.2]
    exact k.expose s camera _ _ ready.1
  all_goals exact k.head s t _ _

theorem runPlan (t : TrackId) (n : Nat) (steps : List Step) (step : Nat) (run : Run) (s : State) :
    R s (runPlan t n steps step run s) := by
  induction steps generalizing step run s with
  | nil => exact k.finishPlan s t n step
  | cons x rest ih =>
    cases x with
    | atPos p =>
      unfold Machine.runPlan
      split
      · exact k.refl s
      · split
        · exact k.head s t n _
        · split
          · exact k.schedule s t n step _ _
          · exact ih _ _ _
    | after d => exact k.schedule s t n step _ _
    | expose camera strobe =>
      unfold Machine.runPlan
      split
      · exact k.refl s
      · refine k.trans ?_ (ih _ _ _)
        split
        · exact k.head s t n _
        · exact k.runExpose s t _ step camera strobe _
    | mark =>
      unfold Machine.runPlan
      refine k.trans ?_ (ih _ _ _)
      split
      · exact k.refl s
      · exact k.head s t n _

theorem startPlan (s : State) (t : TrackId) (n : Nat) : R s (s.startPlan t n) := by
  unfold State.startPlan
  dsimp only
  split
  · exact k.head s t n _
  · exact k.trans (k.head s t n _) (k.runPlan _ _ _ _ _ _)

theorem retime (s : State) (t : TrackId) (n : Nat) : R s (s.retime t n) := by
  unfold State.retime
  split
  · exact k.refl s
  · split
    · exact k.refl s
    · split
      · exact k.trans (k.timeline s _) (k.runPlan _ _ _ _ _ (s.dropEntry t n))
      · exact k.refl s

theorem expireEntry (s : State) (t : TrackId) (n : Nat) (e : TimelineEntry) : R s (s.expireEntry t n e) :=
  k.trans (k.timeline s _) (k.runPlan _ _ _ _ _ (s.dropEntry t n))

theorem firstTiming (s : State) (t : TrackId) (n estimate : Nat) : R s (s.firstTiming t n estimate) := by
  unfold State.firstTiming
  dsimp only
  split
  · exact k.refl s
  · have anchored := fun h i => k.trans (k.head s t n h) (k.goodUnlessRehearsal _ t i)
    split
    · exact k.trans (anchored _ _) (k.close _ _ _ _)
    · exact k.trans (k.trans (anchored _ _) (k.startPlan _ _ _)) (k.closeTest _ _ _)

theorem rejectInterval (s : State) (t : TrackId) : R s (s.rejectInterval t) :=
  k.trans (k.rejected s t) (k.faultUnlessRehearsal _ _ _)

theorem judgeUntimed (s : State) (t : TrackId) (n estimate : Nat) : R s (s.judgeUntimed t n estimate) := by
  unfold State.judgeUntimed
  split
  · exact k.refl s
  · split
    · exact k.trans (k.accepted s t) (k.firstTiming _ _ _ _)
    · exact k.trans (k.remove s t n) (k.rejectInterval _ t)

theorem judgeAll (t : TrackId) (estimate : Nat) (l : List Nat) (s : State) : R s (s.judgeAll t estimate l) := by
  induction l generalizing s with
  | nil => exact k.refl s
  | cons n rest ih => exact k.trans (k.judgeUntimed s t n estimate) (ih _)

theorem reanchorHead (s : State) (t : TrackId) (speed n : Nat) : R s (s.reanchorHead t speed n) :=
  k.trans (k.trans (k.head s t n _) (k.retime _ _ _)) (k.closeTest _ _ _)

theorem reanchorAll (t : TrackId) (speed : Nat) (l : List Nat) (s : State) : R s (s.reanchorAll t speed l) := by
  induction l generalizing s with
  | nil => exact k.refl s
  | cons n rest ih => exact k.trans (k.reanchorHead s t speed n) (ih _)

theorem judgeDeparture (s : State) (t : TrackId) : R s (s.judgeDeparture t) := by
  unfold State.judgeDeparture
  dsimp only
  split
  · exact k.refl s
  · split
    · exact k.faultUnlessRehearsal s t _
    · exact k.trans (k.trans (k.head s t _ _) (k.goodUnlessRehearsal _ _ _)) (k.closeTest _ _ _)

theorem dropInterval (s : State) (t : TrackId) : R s (s.dropInterval t) := by
  unfold State.dropInterval
  dsimp only
  split
  · exact k.trans (k.dropped s t) (k.faultUnlessRehearsal _ _ _)
  · exact k.dropped s t

theorem judgeInterval (s : State) (t : TrackId) (start : LocalTime) : R s (s.judgeInterval t start) := by
  unfold State.judgeInterval
  dsimp only
  split
  · split
    · exact k.rejectInterval s t
    · split
      · exact k.dropInterval s t
      · exact k.trans (k.trans (k.enter s t _ _) (k.accepted _ _)) (k.firstTiming _ _ _ _)
  · split
    · exact k.dropInterval s t
    · exact k.enter s t _ _

end Tending

/-- The work on heads tends the channels. -/
theorem tending_tends : Tending State.Tends where
  refl := .refl
  trans := .trans
  head := updHead_tends
  close := closeHead_tends
  timeline _ _ := .of_eq rfl
  expose _ _ _ _ _ := .of_eq rfl
  fire _ _ _ _ _ _ := .of_eq rfl
  fault s i := .of_eq (fault_channels s i)
  good s i := .of_eq (good_channels s i)
  accepted _ _ := updChannel_tends ⟨_, _, _, _, _, _, _, _, rfl⟩
  rejected _ _ := updChannel_tends ⟨_, _, _, _, _, _, _, _, rfl⟩
  dropped _ _ := updChannel_tends ⟨_, _, _, _, _, _, _, _, rfl⟩
  remove _ _ _ := updChannel_tends ⟨_, _, _, _, _, _, _, _, rfl⟩
  enter _ _ _ _ := updChannel_tends ⟨_, _, _, _, _, _, _, _, rfl⟩

end Sys2Proof.Machine
end

section
/-! Proofs: the updates that a channel is changed by, and the invariants of a track that each of them keeps. -/

namespace Sys2Proof.Machine

/-! ## What can happen to a channel

`Channel.Turn` lists the updates of one channel that a command is made of, each with what holds when it is made. Every
command changes a channel by such turns alone (`Channel.Turns`), so an invariant of a channel needs one proof for each. -/

/-- One update of a channel. -/
inductive Channel.Turn (c : Channel) : Channel → Prop where
  | tended {d : Channel} (h : c.Tended d) : Turn c d
  | noted (overspeed : Bool) (approachOpen : Option LocalTime) :
    Turn c { c with passage := { c.passage with overspeed := overspeed, approachOpen := approachOpen } }
  | configured (valid : Bool) (geometry : Geometry) (debounce interval delay stale jump low high margin : Nat) :
    Turn c { c with
      geometryValid := valid, geometry := geometry, debounce := debounce, clearInterval := interval, dormantDelay := delay,
      staleLimit := stale, jumpLimit := jump, lengthMin := low, lengthMax := high, margin := margin }
  | reset : Turn c c.afterReset
  | moved (ticks : Nat) (delta : LocalTime) : Turn c (c.moved ticks delta)
  | wheel (w : WheelSensor) (x : WheelInput) (h : x.count.isSome → c.mode = some .live) : Turn c (c.setWheel w x)
  | detector (d : Detector) (x : DetectorInput)
    (h : c.mode = none → (c.detectors.get d).count = none → x.blocked = (c.detectors.get d).blocked ∧ x.count = none) :
    Turn c { c with detectors := c.detectors.set d x }
  | dropped (p : SyntheticPulse) : Turn c (c.dropPulse p)
  | rehearsed (g : Generator) (h : c.mode = some .rehearsal) : Turn c { c with generator := g }
  | delivered (e : SyntheticEdge) (now : LocalTime) (ticks : Nat) (h : c.generator.schedule ≠ []) :
    Turn c (c.deliver e now ticks)
  | idles (m : Mode) (ticks : Nat) (h : c.state ≠ .passage) : Turn c ((c.takeMode m).enterIdle ticks)
  | sleeps (h : c.state = .idle) : Turn c { c with state := .dormant, dormantTimer := none }
  | opens (s : State) (t : TrackId) (d : Direction) (stamp : LocalTime) (h : c.state = .idle ∨ c.state = .dormant) :
    Turn c (s.openChannel t d stamp c)
  | counted (w : WheelSensor) (ticks : Nat) (h : c.counting = true) : Turn c (c.countPulse w ticks)
  | queued (r : PairRole) (stamp : LocalTime) (room : (c.pair r).queue.length < Config.axleQueueMax)
    (used : (c.pair r).state ≠ .out) (h : c.counting = true) :
    Turn c (c.updPair r fun p => { p with queue := p.queue ++ [stamp] })
  | taken (r : PairRole) (entry : LocalTime) (rest : List LocalTime) (h : (c.pair r).queue = entry :: rest) :
    Turn c (c.updPair r fun p => { p with queue := rest })
  | trusted (r : PairRole) : Turn c (c.updPair r fun p => { p with implausible := 0 })
  | distrusted (r : PairRole) : Turn c (c.updPair r AxlePair.distrust)
  | reduced (outcome : PassageOutcome) : Turn c (c.reduce outcome)
  | speeds (v ticks : Nat) (range : SpeedInRange v) (h : c.tracking = true) : Turn c (c.takeSpeed v ticks)
  | freezes : Turn c { c with speed := c.speed.freeze, staleTimer := none }
  | beginsClose (now : LocalTime) (ticks : Nat) (h : c.counting = true) : Turn c (c.beginClose now ticks)
  | closes (ticks : Nat) (h : c.closing = true) : Turn c (c.endPassage.enterIdle ticks)
  | leaves (d : Channel) (h : d.passage.estimates = c.passage.estimates) : Turn c d.leaveService

/-- Updates one after another. -/
abbrev Channel.Turns : Channel → Channel → Prop := Relation.ReflTransGen Channel.Turn

/-- What every turn keeps, turns keep. -/
theorem Channel.Turns.keep {good : Channel → Prop} (turn : ∀ c d : Channel, c.Turn d → good c → good d) {c d : Channel}
    (h : c.Turns d) (start : good c) : good d := by
  induction h with
  | refl => exact start
  | tail _ last ih => exact turn _ _ last ih

theorem Channel.closing_iff {c : Channel} : c.closing = true ↔ c.state = .passage ∧ c.passage.closed ≠ none := by
  simp [Channel.closing, ← Option.isSome_iff_ne_none]

theorem Channel.counting_iff {c : Channel} : c.counting = true ↔ c.Counting := by
  simp [Channel.counting, Channel.Counting]

theorem Channel.tracking_iff {c : Channel} : c.tracking = true ↔ c.Tracking := by
  simp [Channel.tracking, Channel.Tracking, Channel.counting_iff]

/-! ## The queues (R28, R33) -/

/-- An empty queue is good. -/
theorem AxlePair.Good.of_nil {p : AxlePair} {inPassage : Prop} (h : p.queue = []) : p.Good inPassage :=
  ⟨by simp [h], fun _ => h, fun _ => h⟩

/-- A pair with an update of its queue keeps to the bounds where the queue does. -/
theorem Channel.queuesGood_updPair {c : Channel} {r : PairRole} {f : AxlePair → AxlePair} (h : c.QueuesGood)
    (new : (c.pair r).Good (c.state = .passage) → (f (c.pair r)).Good (c.state = .passage)) :
    (c.updPair r f).QueuesGood := by
  cases r
  · exact ⟨new h.1, h.2⟩
  · exact ⟨h.1, new h.2⟩

theorem Channel.Turn.queuesGood {c d : Channel} (turn : c.Turn d) (h : c.QueuesGood) : d.QueuesGood := by
  cases turn with
  | tended k =>
    obtain ⟨_, _, _, _, _, _, _, _, rfl⟩ := k
    exact h
  | noted | configured | moved | wheel | detector | dropped | rehearsed | counted | speeds | freezes | beginsClose => exact h
  | reset => exact ⟨.of_nil rfl, .of_nil rfl⟩
  | delivered e now ticks k =>
    unfold Channel.deliver Channel.applyEdge
    split
    · split <;> exact h
    · exact h
  | idles m ticks k =>
    obtain ⟨⟨-, outside, -⟩, -, outside', -⟩ := h
    unfold Channel.takeMode
    split <;> exact ⟨.of_nil (outside k), .of_nil (outside' k)⟩
  | sleeps k =>
    obtain ⟨⟨-, outside, -⟩, -, outside', -⟩ := h
    exact ⟨.of_nil (outside (by simp [k])), .of_nil (outside' (by simp [k]))⟩
  | opens | reduced | closes | leaves => exact ⟨.of_nil rfl, .of_nil rfl⟩
  | queued r stamp room used k =>
    refine Channel.queuesGood_updPair h fun _ => ⟨?_, ?_, fun out => absurd out used⟩
    · simpa using Nat.succ_le_of_lt room
    · exact fun outside => absurd (Channel.counting_iff.mp k).1 outside
  | taken r entry rest k =>
    refine Channel.queuesGood_updPair h fun ⟨bound, outside, out⟩ => ⟨?_, ?_, ?_⟩
    · simp only [k, List.length_cons] at bound
      exact Nat.le_of_succ_le bound
    · simp_all
    · simp_all
  | trusted r => exact Channel.queuesGood_updPair h id
  | distrusted r =>
    refine Channel.queuesGood_updPair h fun ⟨bound, outside, out⟩ => ⟨bound, outside, fun k => out ?_⟩
    revert k
    simp only [AxlePair.distrust]
    split <;> simp

/-! ## The speeds (R43) -/

theorem mem_enterWindow {speed : Speed} {window : List Nat} {v x : Nat} (h : x ∈ enterWindow speed window v) :
    x ∈ window ∨ x = v := by
  unfold enterWindow at h
  split at h
  · exact .inr (by simpa using h)
  all_goals
    obtain old | new := List.mem_append.mp h
    · exact .inl (List.mem_of_mem_drop old)
    · exact .inr (by simpa using new)

theorem length_enterWindow (speed : Speed) (window : List Nat) (v : Nat) :
    (enterWindow speed window v).length ≤ 4 ∧ enterWindow speed window v ≠ [] := by
  unfold enterWindow
  split <;> simp <;> omega

/-- The mean of speeds in range is in range. -/
theorem windowEstimate_range {window : List Nat} (some : window ≠ []) (h : ∀ v ∈ window, SpeedInRange v) :
    SpeedInRange (windowEstimate window) := by
  have positive : 0 < window.length := List.length_pos_iff.mpr some
  have low : window.length * Config.crawlSpeed ≤ window.sum := by
    simpa using List.card_nsmul_le_sum window Config.crawlSpeed fun v k => (h v k).1
  have high : window.sum ≤ window.length * Config.topSpeed := by
    simpa using List.sum_le_card_nsmul window Config.topSpeed fun v k => (h v k).2
  unfold windowEstimate
  exact ⟨(Nat.le_div_iff_mul_le positive).mpr (by rwa [Nat.mul_comm]), Nat.div_le_of_le_mul high⟩

theorem widen_range {range : Option (Nat × Nat)} {v : Nat} (k : SpeedInRange v)
    (h : ∀ e ∈ range, SpeedInRange e.1 ∧ SpeedInRange e.2 ∧ e.1 ≤ e.2) :
    ∀ e ∈ widen range v, SpeedInRange e.1 ∧ SpeedInRange e.2 ∧ e.1 ≤ e.2 := by
  cases range with
  | none => simpa [widen] using k
  | some r =>
    obtain ⟨⟨_, _⟩, ⟨_, _⟩, _⟩ := h r rfl
    simp only [widen, Option.mem_def, Option.some.injEq, forall_eq', SpeedInRange] at *
    omega

theorem Speed.freeze_estimate (speed : Speed) : speed.freeze.estimate = speed.estimate := by cases speed <;> rfl

/-- A channel whose speeds are gone has good speeds where the range of its estimates is good. -/
theorem Channel.speedsGood_of_none {c d : Channel} (h : d.SpeedsGood) (window : c.window = []) (speed : c.speed = .absent)
    (estimates : c.passage.estimates = d.passage.estimates) : c.SpeedsGood := by
  obtain ⟨-, -, -, range⟩ := h
  refine ⟨by simp [window], by simp [window], by simp [speed, Speed.estimate], ?_⟩
  rwa [estimates]

theorem Channel.Turn.speedsGood {c d : Channel} (turn : c.Turn d) (h : c.SpeedsGood) : d.SpeedsGood := by
  cases turn with
  | tended k =>
    obtain ⟨_, _, _, _, _, _, _, _, rfl⟩ := k
    exact h
  | noted | configured | moved | wheel | detector | dropped | rehearsed | sleeps | counted | reduced | beginsClose => exact h
  | reset => simp [Channel.SpeedsGood, Channel.afterReset, Channel.reset, Speed.estimate, Passage.reset]
  | opens => simp [Channel.SpeedsGood, State.openChannel, Speed.estimate, State.freshPassage]
  | delivered e now ticks k =>
    unfold Channel.deliver Channel.applyEdge
    split
    · split <;> exact h
    · exact h
  | idles m ticks k =>
    unfold Channel.takeMode
    split <;> exact h
  | queued r | taken r | trusted r | distrusted r => cases r <;> exact h
  | speeds v ticks range k =>
    obtain ⟨-, window, -, estimates⟩ := h
    obtain ⟨few, some⟩ := length_enterWindow c.speed c.window v
    have entered : ∀ x ∈ enterWindow c.speed c.window v, SpeedInRange x := fun x k => by
      obtain old | rfl := mem_enterWindow k
      exacts [window x old, range]
    have estimate := windowEstimate_range some entered
    refine ⟨few, entered, ?_, widen_range estimate estimates⟩
    simpa [Channel.takeSpeed, Speed.estimate] using estimate
  | freezes =>
    obtain ⟨few, window, estimate, range⟩ := h
    exact ⟨few, window, by rwa [Speed.freeze_estimate], range⟩
  | closes ticks k => exact Channel.speedsGood_of_none h rfl rfl rfl
  | leaves d k => exact Channel.speedsGood_of_none h rfl rfl k

/-! ## Timers and inputs (R1, R6, R11, R14, R24, R38, R46) -/

/-- Mode, timers and inputs of a track are good. -/
def Channel.ServiceGood (c : Channel) : Prop := c.TimersGood ∧ c.InputsGood

theorem Channel.atRest_inputsGood {c : Channel} (w : c.wheels = c.inputsAtRest.wheels)
    (d : c.detectors = c.inputsAtRest.detectors) (p : c.synthetic = []) (g : c.generator = c.generator.cleared) :
    c.InputsGood := by
  refine ⟨fun x _ => ?_, fun k => ?_, fun _ x _ => ?_⟩
  · rw [w]
    cases x <;> simp [Channel.inputsAtRest, PerSensor.get, WheelInput.atRest]
  · rw [g] at k
    simp [p, Generator.cleared] at k
  · rw [d]
    cases x <;> exact ⟨rfl, rfl⟩

theorem Channel.takeMode_mode (c : Channel) (m : Mode) : (c.takeMode m).mode = some m := by
  unfold Channel.takeMode
  split <;> simp_all

theorem Channel.takeMode_inputsGood {c : Channel} (m : Mode) (h : c.InputsGood) : (c.takeMode m).InputsGood := by
  unfold Channel.takeMode
  split
  · exact h
  · exact Channel.atRest_inputsGood rfl rfl rfl rfl

/-- A mode is taken without an effect on state, timers and speed. -/
theorem Channel.takeMode_keeps (c : Channel) (m : Mode) :
    (c.takeMode m).state = c.state ∧ (c.takeMode m).clearTimer = c.clearTimer ∧ (c.takeMode m).closingSince = c.closingSince
    ∧ (c.takeMode m).staleTimer = c.staleTimer ∧ (c.takeMode m).speed = c.speed ∧ (c.takeMode m).passage = c.passage
    ∧ (c.takeMode m).dormantDelay = c.dormantDelay ∧ (c.takeMode m).heads = c.heads := by
  unfold Channel.takeMode
  split <;> simp [Channel.inputsAtRest]

/-- What the timers of a track outside PASSAGE are. -/
theorem Channel.TimersGood.quiet {c : Channel} (h : c.TimersGood) (k : c.state ≠ .passage) :
    c.clearTimer = none ∧ c.closingSince = none ∧ c.staleTimer = none ∧ c.speed = .absent := by
  obtain ⟨-, clear, closing, -, stale, speed⟩ := h
  exact ⟨Option.not_isSome_iff_eq_none.mp fun x => k (clear.mp x).1,
    Option.not_isSome_iff_eq_none.mp fun x => k (closing.mp x).1,
    Option.not_isSome_iff_eq_none.mp fun x => k (stale x).1, speed k⟩

theorem Channel.Turn.timersGood {c d : Channel} (turn : c.Turn d) (h : c.TimersGood) : d.TimersGood := by
  have all := h
  obtain ⟨mode, clear, closing, dormant, stale, speed⟩ := h
  cases turn with
  | tended k =>
    obtain ⟨_, _, _, _, _, _, _, _, rfl⟩ := k
    exact all
  | noted | configured | moved | wheel | detector | dropped | rehearsed => exact all
  | queued r | taken r | trusted r | distrusted r => cases r <;> exact all
  | delivered e now ticks k =>
    unfold Channel.deliver Channel.applyEdge
    split
    · split <;> exact all
    · exact all
  | reset => simp [Channel.TimersGood, Channel.afterReset, Channel.reset]
  | leaves => simp [Channel.TimersGood, Channel.leaveService, Channel.inputsAtRest, Channel.endPassage]
  | idles m ticks k =>
    obtain ⟨noClear, noClose, noStale, absent⟩ := all.quiet k
    obtain ⟨-, c1, c2, c3, c4, c5, -, -⟩ := Channel.takeMode_keeps c m
    simp [Channel.TimersGood, Channel.enterIdle, Channel.takeMode_mode, *]
  | sleeps k =>
    obtain ⟨noClear, noClose, noStale, absent⟩ := all.quiet (by simp [k])
    simp_all [Channel.TimersGood]
  | opens s t d stamp k =>
    have outside : c.state ≠ .passage := by rcases k with k | k <;> simp [k]
    have service : c.mode ≠ none := fun none => by rcases k with k | k <;> simp_all
    obtain ⟨-, noClose, -, -⟩ := all.quiet outside
    simp [Channel.TimersGood, State.openChannel, State.freshPassage, service, noClose]
  | counted w ticks k =>
    obtain ⟨inPassage, notClosing⟩ := Channel.counting_iff.mp k
    simp_all [Channel.TimersGood, Channel.countPulse]
  | reduced outcome => simp_all [Channel.TimersGood, Channel.reduce, Channel.emptyQueues]
  | speeds v ticks range k =>
    obtain ⟨⟨inPassage, notClosing⟩, normal⟩ := Channel.tracking_iff.mp k
    simp_all [Channel.TimersGood, Channel.takeSpeed, Speed.code]
  | freezes =>
    refine ⟨mode, clear, closing, dormant, by simp, fun k => ?_⟩
    simp [speed k, Speed.freeze]
  | beginsClose now ticks k =>
    obtain ⟨inPassage, notClosing⟩ := Channel.counting_iff.mp k
    simp_all [Channel.TimersGood, Channel.beginClose]
  | closes ticks k =>
    obtain ⟨inPassage, -⟩ := Channel.closing_iff.mp k
    simp_all [Channel.TimersGood, Channel.endPassage, Channel.enterIdle, Channel.emptyQueues]

/-- The inputs are good where they, the mode and the generator are those of a channel with good inputs. -/
theorem Channel.InputsGood.of_same {c d : Channel} (h : c.InputsGood) (wheels : d.wheels = c.wheels)
    (detectors : d.detectors = c.detectors) (synthetic : d.synthetic = c.synthetic) (generator : d.generator = c.generator)
    (mode : d.mode = c.mode) : d.InputsGood := by
  unfold Channel.InputsGood at *
  rwa [wheels, detectors, synthetic, generator, mode]

theorem Channel.Turn.inputsGood {c d : Channel} (turn : c.Turn d) (h : c.InputsGood) : d.InputsGood := by
  have all := h
  obtain ⟨wheels, generator, detectors⟩ := h
  cases turn with
  | tended k =>
    obtain ⟨_, _, _, _, _, _, _, _, rfl⟩ := k
    exact all
  | noted | configured | sleeps | opens | counted | reduced | speeds | freezes | beginsClose | closes => exact all
  | queued r | taken r | trusted r | distrusted r => cases r <;> exact all
  | reset =>
    refine Channel.atRest_inputsGood (c := c.afterReset) rfl rfl rfl rfl
  | leaves d => exact Channel.atRest_inputsGood rfl rfl rfl rfl
  | idles m ticks k => exact Channel.takeMode_inputsGood m all
  | moved ticks delta =>
    refine ⟨fun w k => ?_, fun k => generator ?_, detectors⟩
    · have counts : ((c.moved ticks delta).wheels.get w).count.isSome = (c.wheels.get w).count.isSome := by
        cases w <;> simp [Channel.moved, PerSensor.get, WheelInput.moved]
      rw [counts]
      exact wheels w k
    · simpa [Channel.moved] using k
  | wheel w x k =>
    refine ⟨fun v _ => ?_, generator, detectors⟩
    simp only [Channel.setWheel, PerSensor.get_set]
    split
    · exact k
    · exact wheels v (mem_allSensors v)
  | detector e x k =>
    refine ⟨wheels, generator, fun none f _ => ?_⟩
    simp only [PerDetector.get_set]
    split
    · obtain ⟨clear, idle⟩ := detectors none e (mem_allDetectors e)
      obtain ⟨same, noCount⟩ := k none idle
      exact ⟨same.trans clear, noCount⟩
    · exact detectors none f (mem_allDetectors f)
  | dropped p =>
    refine ⟨wheels, fun k => generator (k.imp_left fun some none => some ?_), detectors⟩
    simp [Channel.dropPulse, none]
  | rehearsed g k => exact ⟨wheels, fun _ => k, detectors⟩
  | delivered e now ticks k =>
    have rehearses : c.mode = some .rehearsal := generator (.inr (.inl k))
    unfold Channel.deliver Channel.applyEdge
    split
    · split <;> exact ⟨wheels, fun _ => rehearses, detectors⟩
    · exact ⟨wheels, fun _ => rehearses, fun none => by simp [rehearses] at none⟩

theorem Channel.Turn.serviceGood {c d : Channel} (turn : c.Turn d) (h : c.ServiceGood) : d.ServiceGood :=
  ⟨turn.timersGood h.1, turn.inputsGood h.2⟩

end Sys2Proof.Machine
end

section
/-! Proofs: an invariant of the part, command by command. -/

namespace Sys2Proof.Machine

/-! ## Invariants, command by command

`Steady good` lists what it takes for every step to keep a property: one field for each command that has an effect of its
own, and a few for what the link commands are made of. -/

/-- Every next state of an outcome has a property. -/
def Stays (good : State → Prop) (o : Host.Outcome State Fault Refusal) : Prop := ∀ u, o = .next u → good u

theorem Stays.next {good : State → Prop} {u : State} (h : good u) : Stays good (.next u) := by
  rintro _ ⟨⟩
  exact h

/-- A property that every part of a step keeps. -/
structure Steady (good : State → Prop) : Prop where
  queue : ∀ s pending choices, good s → good { s with pending := pending, choices := choices }
  link : ∀ s link, good s → good { s with link := link }
  attention : ∀ s attention, good s → good { s with attention := attention }
  advance : ∀ s, good s → good s.advance
  handled : ∀ k body s, good s → good (handle k body s).state
  restart : ∀ s, good s → good s.restart
  pinReset : ∀ straps s, good s → good (s.pinReset straps)
  wheelLeadingEdge : ∀ t w s, good s → Stays good (execWheelLeadingEdge t w s)
  wheelTrailingEdge : ∀ t w s, good s → Stays good (execWheelTrailingEdge t w s)
  wheelPulseAccepted : ∀ t w s, good s → Stays good (execWheelPulseAccepted t w s)
  headDetectorEdge : ∀ t d high s, good s → Stays good (execHeadDetectorEdge t d high s)
  blockedStart : ∀ t d s, good s → Stays good (execBlockedStart t d s)
  blockedEnd : ∀ t d s, good s → Stays good (execBlockedEnd t d s)
  headCrosses : ∀ t n s, good s → Stays good (execHeadCrosses t n s)
  headDeparted : ∀ t n s, good s → Stays good (execHeadDeparted t n s)
  timelineEntryExpiry : ∀ t n s, good s → Stays good (execTimelineEntryExpiry t n s)
  triggerRelease : ∀ i s, good s → Stays good (execTriggerRelease i s)
  cdoneEdge : ∀ i s, good s → Stays good (execCdoneEdge i s)
  confirmationWindowExpiry : ∀ i s, good s → Stays good (execConfirmationWindowExpiry i s)
  recoveryEnd : ∀ i s, good s → Stays good (execRecoveryEnd i s)
  warmUpEnd : ∀ i s, good s → Stays good (execWarmUpEnd i s)
  strobePulseEnd : ∀ x s, good s → Stays good (execStrobePulseEnd x s)
  inhibitInputEdge : ∀ i high s, good s → Stays good (execInhibitInputEdge i high s)
  chargeCompletion : ∀ s, good s → Stays good (execChargeCompletion s)
  clearIntervalExpiry : ∀ t s, good s → Stays good (execClearIntervalExpiry t s)
  dormantDelayExpiry : ∀ t s, good s → Stays good (execDormantDelayExpiry t s)
  stalenessExpiry : ∀ t s, good s → Stays good (execStalenessExpiry t s)
  refEdge : ∀ rising s, good s → Stays good (execRefEdge rising s)
  windowClose : ∀ s, good s → Stays good (execWindowClose s)
  rehearsalEdgeDelivery : ∀ t s, good s → Stays good (execRehearsalEdgeDelivery t s)

namespace Steady

variable {good : State → Prop} (k : Steady good) {s : State}
include k

theorem process (q : Request) (h : good s) : good (s.process q) := by
  refine k.link _ _ ?_
  unfold answer
  split
  · exact h
  · split
    · exact k.handled _ _ s h
    · exact h

theorem receive (q : Request) (h : good s) : good (s.receive q) := by
  unfold State.receive
  split
  · exact k.process q h
  · split
    · exact k.link s _ h
    · exact k.attention s _ h

theorem submit (kind : RequestKind) (tag : Byte) (body : List Byte) (h : good s) : good (s.submit kind tag body) := by
  unfold State.submit
  split
  · exact k.receive _ h
  · exact h

theorem completeFrame (taken : List Byte) (h : good s) : good (s.completeFrame taken) := by
  have hunting := k.link s { s.link with receiver := .hunting } h
  unfold State.completeFrame
  dsimp only
  split
  · exact k.receive _ hunting
  · exact hunting

theorem takeByte (taken : List Byte) (h : good s) : good (s.takeByte taken) := by
  unfold State.takeByte
  split
  · exact h
  · split
    · exact k.link s _ h
    · split
      · exact k.completeFrame _ h
      · exact k.link s _ h

theorem rxByte (value : Byte) (stopHigh : Bool) (h : good s) : Stays good (execRxByte value stopHigh s) := by
  have hunt : good (s.hunt value stopHigh) := k.link s _ h
  refine .next ?_
  split
  · exact hunt
  · split
    · exact hunt
    · split
      · exact k.takeByte _ h
      · exact k.link s _ h
  · split
    · exact k.completeFrame _ h
    · exact hunt

theorem endReply (h : good s) : good s.endReply := by
  have idle := k.link s { s.link with transmission := none } h
  unfold State.endReply State.takeNext
  split
  · exact idle
  · exact k.process _ (k.link _ _ idle)

theorem replySent (h : good s) : Stays good (execReplySent s) := by
  refine .next ?_
  split
  · split
    · exact k.restart s h
    · exact k.endReply h
  · exact h

/-- Every command keeps the property. -/
theorem exec (c : Instr) (h : good s) : Stays good (exec c s) := by
  cases c
  case restartTakesEffect =>
    refine .next ?_
    split
    · exact k.restart s h
    · exact h
  case pinReset straps => exact .next (k.pinReset straps s h)
  case rxByte value stopHigh => exact k.rxByte value stopHigh h
  case frameGapTimeout =>
    refine .next ?_
    split
    · exact k.link s _ h
    · exact h
  case replySent => exact k.replySent h
  case attnPulseEnd =>
    refine .next ?_
    split
    · exact k.attention s _ h
    · exact h
  case wheelLeadingEdge t w => exact k.wheelLeadingEdge t w s h
  case wheelTrailingEdge t w => exact k.wheelTrailingEdge t w s h
  case wheelPulseAccepted t w => exact k.wheelPulseAccepted t w s h
  case headDetectorEdge t d high => exact k.headDetectorEdge t d high s h
  case blockedStart t d => exact k.blockedStart t d s h
  case blockedEnd t d => exact k.blockedEnd t d s h
  case headCrosses t n => exact k.headCrosses t n s h
  case headDeparted t n => exact k.headDeparted t n s h
  case timelineEntryExpiry t n => exact k.timelineEntryExpiry t n s h
  case triggerRelease i => exact k.triggerRelease i s h
  case cdoneEdge i => exact k.cdoneEdge i s h
  case confirmationWindowExpiry i => exact k.confirmationWindowExpiry i s h
  case recoveryEnd i => exact k.recoveryEnd i s h
  case warmUpEnd i => exact k.warmUpEnd i s h
  case strobePulseEnd x => exact k.strobePulseEnd x s h
  case inhibitInputEdge i high => exact k.inhibitInputEdge i high s h
  case chargeCompletion => exact k.chargeCompletion s h
  case clearIntervalExpiry t => exact k.clearIntervalExpiry t s h
  case dormantDelayExpiry t => exact k.dormantDelayExpiry t s h
  case stalenessExpiry t => exact k.stalenessExpiry t s h
  case refEdge rising => exact k.refEdge rising s h
  case windowClose => exact k.windowClose s h
  case adjustedTick =>
    refine .next ?_
    split
    · exact k.advance s h
    · exact h
  case rehearsalEdgeDelivery t => exact k.rehearsalEdgeDelivery t s h
  all_goals exact .next (k.submit _ _ _ h)

/-- Every step keeps the property. -/
theorem step (h : good s) : Stays good (step s) := by
  unfold Machine.step
  split
  · exact k.exec _ (k.queue s _ s.choices h)
  · refine .next ?_
    obtain ⟨-, idle⟩ | ⟨e, -, n, idle⟩ := idle_cases s
    · rw [idle]
      exact k.advance s h
    · rw [idle]
      exact k.queue s _ _ h

theorem kept : Kept good := fun _ u h next => k.step h u next

end Steady

end Sys2Proof.Machine
end

section
/-! Proofs: the operations of the tracks change channels by those updates. -/

namespace Sys2Proof.Machine

variable {s u v : State}

/-! ## Every command changes channels by turns -/

/-- Each channel goes from `s` to `u` by turns. -/
def State.Turns (s u : State) : Prop := ∀ t, (s.channel t).Turns (u.channel t)

theorem State.Turns.trans (h : s.Turns u) (k : u.Turns v) : s.Turns v := fun t => (h t).trans (k t)

theorem State.Tends.turns (h : s.Tends u) : s.Turns u := fun t => .single (.tended (h t))

theorem State.Turns.of_eq (h : u.channels = s.channels) : s.Turns u := (State.Tends.of_eq h).turns

theorem State.Turns.refl (s : State) : s.Turns s := .of_eq rfl

theorem State.Turns.next (h : s.Turns u) : Stays s.Turns (.next u) := Stays.next h

/-- What every turn keeps of a channel, turns keep of both tracks. -/
theorem State.Turns.keep {good : Channel → Prop} (turn : ∀ c d : Channel, c.Turn d → good c → good d) (h : s.Turns u)
    (start : s.BothTracks good) : u.BothTracks good :=
  State.bothTracks_iff.mpr fun t => (h t).keep turn (State.bothTracks_iff.mp start t)

theorem updChannel_turns {t : TrackId} {f : Channel → Channel} (h : (s.channel t).Turn (f (s.channel t))) :
    s.Turns (s.updChannel t f) := by
  intro k
  by_cases same : k = t
  · subst same
    rw [State.updChannel_same]
    exact .single h
  · rw [State.updChannel_other s f same]

/-- A channel that is tended goes on closing, counting or tracking. -/
theorem Channel.Tended.keeps {c d : Channel} (h : c.Tended d) :
    d.closing = c.closing ∧ d.counting = c.counting ∧ d.tracking = c.tracking ∧ d.awake = c.awake ∧ d.state = c.state
    ∧ d.passage.closed = c.passage.closed ∧ d.passage.number = c.passage.number
    ∧ d.passage.estimates = c.passage.estimates := by
  obtain ⟨_, _, _, _, _, _, _, _, rfl⟩ := h
  exact ⟨rfl, rfl, rfl, rfl, rfl, rfl, rfl, rfl⟩

/-! ### Passages and cameras -/

/-- Before its last update, the close of a passage tends the channels. -/
theorem closeRecord_tends (s : State) (t : TrackId) (agreed : Option Nat) :
    s.Tends ((s.reportClose t).offerPassage t agreed) :=
  (State.Tends.of_eq (reportClose_channels s t)).trans (offerPassage_tends _ t agreed)

theorem completeClose_turns {t : TrackId} (h : (s.channel t).closing = true) : s.Turns (s.completeClose t) := by
  have before := closeRecord_tends s t (s.channel t).passage.agreed
  refine before.turns.trans (updChannel_turns (.closes _ ?_))
  rw [(before t).keeps.1]
  exact h

theorem settleClose_turns (s : State) (t : TrackId) : s.Turns (s.settleClose t) := by
  obtain h | ⟨closing, -, -, h⟩ := settleClose_cases s t
  · rw [h]; exact .refl s
  · rw [h]; exact completeClose_turns closing

theorem testHead_turns (s : State) (t : TrackId) (n : Nat) : s.Turns (s.testHead t n) :=
  (tending_tends.closeTest s t n).turns.trans (settleClose_turns _ t)

theorem testShotHead_turns (s : State) (r : ShotRef) : s.Turns (s.testShotHead r) := by
  unfold State.testShotHead
  split
  · exact testHead_turns s _ _
  · exact .refl s

theorem handOver_turns (s : State) (r : ShotRef) (result : Confirmation) : s.Turns (s.handOver r result) :=
  (settleResult_tends s r result).turns.trans (testShotHead_turns _ r)

theorem handOverBoth_turns (s : State) (a b : ShotRef) (first second : Confirmation) :
    s.Turns (s.handOverBoth a first b second) :=
  (((settleResult_tends s a first).trans (settleResult_tends _ b second)).turns.trans (testShotHead_turns _ a)).trans
    (testShotHead_turns _ b)

theorem abortWindow_turns (s : State) (i : Fin 8) : s.Turns (s.abortWindow i) := by
  unfold State.abortWindow
  split
  · exact (State.Turns.of_eq rfl).trans (handOver_turns (s.updCamera i _) _ _)
  · exact .refl s

theorem cutCamera_turns (s : State) (i : Fin 8) : s.Turns (s.cutCamera i) := by
  unfold State.cutCamera
  dsimp only
  split
  · exact (State.Turns.of_eq rfl).trans (handOver_turns (s.updCamera i _) _ _)
  · exact .of_eq rfl

theorem removePower_turns (s : State) (i : Fin 8) : s.Turns (s.removePower i) := by
  unfold State.removePower
  split
  · exact (abortWindow_turns s i).trans (cutCamera_turns _ i)
  · exact .refl s

/-- A fold whose every step makes turns makes turns. -/
theorem State.Turns.foldl {α : Type} (f : State → α → State) (h : ∀ (s : State) x, s.Turns (f s x)) (l : List α)
    (s : State) : s.Turns (l.foldl f s) := by
  induction l generalizing s with
  | nil => exact .refl s
  | cons x rest ih => exact (h s x).trans (ih _)

theorem powerDownTrack_turns (s : State) (t : TrackId) : s.Turns (s.powerDownTrack t) :=
  (State.Turns.foldl (fun s i => s.removePower i) removePower_turns _ s).trans (.of_eq (restPool_channels _))

theorem failCamera_turns (s : State) (i : Fin 8) (shot : ShotRef) : s.Turns (s.failCamera i shot) := by
  unfold State.failCamera
  refine State.Turns.trans ?_ (.of_eq (State.latch_channels _ _))
  split
  · exact (State.Turns.of_eq rfl).trans (handOverBoth_turns (s.updCamera i _) _ _ _ _)
  · exact (State.Turns.of_eq rfl).trans (handOver_turns (s.updCamera i _) _ _)

theorem expireWindow_turns (s : State) (i : Fin 8) (shot : ShotRef) : s.Turns (s.expireWindow i shot) := by
  have missed : s.Turns (s.updCamera i Camera.missReturn) := .of_eq rfl
  unfold State.expireWindow
  dsimp only
  split
  · exact missed.trans (failCamera_turns _ i shot)
  · exact missed.trans (handOver_turns _ _ _)

/-! ### Strobes -/

theorem cutStrobe_turns (s : State) (x : Fin 6) : s.Turns (s.cutStrobe x) := by
  unfold State.cutStrobe
  split
  · exact (State.Turns.of_eq rfl).trans (flashCut_tends (s.joinQueue x _) _).turns
  · exact .refl s

theorem reopenChoice_channels (s : State) : s.reopenChoice.channels = s.channels := by
  obtain ⟨h, -⟩ | ⟨c, -, -, h⟩ := reopenChoice_cases s
  · rw [h]
  · rw [h]; rfl

theorem cutFiring_turns (s : State) : s.Turns s.cutFiring := by
  unfold State.cutFiring
  split
  · exact ((State.Turns.of_eq (reopenChoice_channels s)).trans
      (.foldl (fun s x => s.cutStrobe x) cutStrobe_turns _ _)).trans (.of_eq (startCharge_channels _ _))
  · exact .refl s

theorem reformInhibit_turns (s : State) : s.Turns s.reformInhibit := by
  have formed : s.Turns { s with inhibit := formInhibit s.inhibits } := .of_eq rfl
  unfold State.reformInhibit
  dsimp only
  split
  · exact formed.trans (cutFiring_turns _)
  · exact formed

/-! ### Wheel pulses -/

theorem openPassage_channels (s : State) (t : TrackId) (d : Direction) (stamp : LocalTime) :
    (s.openPassage t d stamp).channels = (s.updChannel t (s.openChannel t d stamp)).channels := by
  unfold State.openPassage
  dsimp only
  rw [wakePool_channels]
  split
  · exact powerUpCameras_channels _ _
  · rfl

theorem newEstimate_turns {t : TrackId} {v : Nat} (range : SpeedInRange v) (h : (s.channel t).tracking = true) :
    s.Turns (s.newEstimate t v) := by
  have taken : s.Turns (s.updChannel t fun c => c.takeSpeed v s.ticks) := updChannel_turns (.speeds v s.ticks range h)
  have reanchored := fun e l => taken.trans (tending_tends.reanchorAll t e l _).turns
  unfold State.newEstimate
  dsimp only
  split
  · exact (reanchored _ _).trans (tending_tends.judgeAll _ _ _ _).turns
  · exact reanchored _ _

/-- The speed of a match that is no crawl match lies in range (R39). -/
theorem axleSpeed_range {spacing dt : Nat} (positive : 1 ≤ dt) (h : ¬isCrawl spacing dt = true) :
    SpeedInRange (axleSpeed spacing dt) := by
  simp only [isCrawl, decide_eq_true_eq, not_lt] at h
  have fast : Config.crawlSpeed ≤ rawSpeed spacing dt :=
    (Nat.le_div_iff_mul_le positive).mpr (by rwa [Nat.mul_comm])
  exact ⟨le_min (by decide) fast, min_le_left _ _⟩

theorem Channel.updPair_tracking (c : Channel) (r : PairRole) (f : AxlePair → AxlePair) :
    (c.updPair r f).tracking = c.tracking := by cases r <;> rfl

theorem judgeMatch_turns {t : TrackId} (r : PairRole) {dt : Nat} (positive : 1 ≤ dt)
    (h : (s.channel t).tracking = true) : s.Turns (s.judgeMatch t r dt) := by
  unfold State.judgeMatch
  dsimp only
  split
  · exact .refl s
  · next notCrawl =>
    have noted : s.Turns (s.updPassage t fun p => p.noteSpeed ((s.channel t).frame.spacing r) dt) :=
      updChannel_turns (.noted _ _)
    refine noted.trans ?_
    split
    · unfold State.plausibleMatch
      dsimp only
      refine State.Turns.trans ?_ (.of_eq (goodUnlessRehearsal_channels _ _ _))
      refine State.Turns.trans ?_ (.of_eq (goodUnlessRehearsal_channels _ _ _))
      refine (updChannel_turns (.trusted r)).trans (newEstimate_turns (axleSpeed_range positive notCrawl) ?_)
      rw [State.updChannel_same, Channel.updPair_tracking]
      rw [State.updPassage, State.updChannel_same]
      exact h
    · exact updChannel_turns (.distrusted r)

theorem orphan_turns (s : State) (t : TrackId) (r : PairRole) : s.Turns (s.orphan t r) :=
  ((updChannel_turns (.reduced _)).trans (tending_tends.closeHeads t .cancelled _ _).turns).trans (.of_eq rfl)

theorem Channel.counting_of_tracking {c : Channel} (h : c.tracking = true) : c.counting = true :=
  Channel.counting_iff.mpr (Channel.tracking_iff.mp h).1

theorem pairPulse_turns {t : TrackId} (w : WheelSensor) (stamp : LocalTime) (h : (s.channel t).tracking = true) :
    s.Turns (s.pairPulse t w stamp) := by
  unfold State.pairPulse
  dsimp only
  split
  · exact .refl s
  · next used =>
    split
    · unfold State.firstSensorPulse
      split
      · next room => exact updChannel_turns (.queued _ stamp room used (Channel.counting_of_tracking h))
      · exact .of_eq (by simp)
    · unfold State.secondSensorPulse
      dsimp only
      split
      · split
        · exact orphan_turns s t _
        · exact .refl s
      · next entry rest queue =>
        have taken := updChannel_turns (f := fun c => c.updPair _ fun p => { p with queue := rest })
          (.taken _ entry rest queue)
        split
        · refine taken.trans (judgeMatch_turns _ (Nat.le_max_left 1 _) ?_)
          rw [State.updChannel_same, Channel.updPair_tracking]
          exact h
        · exact taken

theorem takePulse_turns {t : TrackId} (w : WheelSensor) (stamp : LocalTime) (h : (s.channel t).counting = true) :
    s.Turns (s.takePulse t w stamp) := by
  have counted : s.Turns (s.updChannel t fun c => c.countPulse w s.ticks) := updChannel_turns (.counted w _ h)
  unfold State.takePulse
  dsimp only
  split
  · next normal =>
    refine counted.trans (pairPulse_turns w stamp ?_)
    rw [State.updChannel_same]
    exact Channel.tracking_iff.mpr ⟨Channel.counting_iff.mp h, normal⟩
  · exact counted

theorem openingPulse_turns {t : TrackId} (w : WheelSensor) (stamp : LocalTime)
    (h : (s.channel t).state = .idle ∨ (s.channel t).state = .dormant) : s.Turns (s.openingPulse t w stamp) := by
  unfold State.openingPulse
  split
  · next d _ =>
    have opened : s.Turns (s.updChannel t (s.openChannel t d stamp)) := updChannel_turns (.opens s t d stamp h)
    refine (opened.trans (.of_eq (openPassage_channels s t d stamp))).trans (takePulse_turns w stamp ?_)
    rw [State.channel_eq (openPassage_channels s t d stamp), State.updChannel_same]
    rfl
  · exact .refl s

theorem disposePulse_turns (s : State) (t : TrackId) (w : WheelSensor) (stamp : LocalTime) :
    s.Turns (s.disposePulse t w stamp) := by
  unfold State.disposePulse
  split
  · exact .refl s
  · exact openingPulse_turns w stamp (.inl ‹_›)
  · exact openingPulse_turns w stamp (.inr ‹_›)
  · split
    · exact takePulse_turns w stamp ‹_›
    · exact .refl s

/-! ### Detectors, timers and track modes -/

theorem disposeStart_turns (s : State) (t : TrackId) (d : Detector) : s.Turns (s.disposeStart t d) := by
  unfold State.disposeStart
  dsimp only
  split
  · exact .refl s
  · split
    · split
      · exact updChannel_turns (.noted _ _)
      · exact .refl s
    · split
      · exact (tending_tends.judgeDeparture s t).turns
      · exact .refl s

theorem disposeEnd_turns (s : State) (t : TrackId) (d : Detector) : s.Turns (s.disposeEnd t d) := by
  unfold State.disposeEnd
  dsimp only
  split
  · split
    · exact State.Turns.trans (u := s.updPassage t _) (updChannel_turns (.noted _ _)) (tending_tends.judgeInterval _ t _).turns
    · exact .refl s
  · exact .refl s

/-- The end of a detector's count settles it. -/
theorem settleDetector_turns {t : TrackId} {d : Detector} (blocked : Bool) (h : s.detectorDue t d = true) :
    s.Turns (s.updChannel t fun c => c.settleDetector d blocked) := by
  refine updChannel_turns (.detector d _ fun _ none => ?_)
  simp [State.detectorDue, timerDue, none] at h

theorem beginClose_turns {t : TrackId} (h : (s.channel t).counting = true) : s.Turns (s.beginClose t) := by
  have same : (allDetectors.foldl (fun s d => s.stuckTest t d) s).channels = s.channels :=
    foldl_channels _ (fun s d => stuckTest_channels s t d) _ s
  unfold State.beginClose
  generalize allDetectors.foldl (fun s d => s.stuckTest t d) s = tested at same ⊢
  have begun : tested.Turns (tested.updChannel t fun c => c.beginClose s.localTime s.ticks) :=
    updChannel_turns (.beginsClose _ _ (by rwa [State.channel_eq same]))
  exact ((State.Turns.of_eq same).trans begun).trans
    ((State.Turns.of_eq (State.dropEntries_channels _ t)).trans (tending_tends.closeTests t _ _).turns)

theorem wakeTrack_turns {t : TrackId} (m : Mode) (h : (s.channel t).state ≠ .passage) : s.Turns (s.wakeTrack t m) := by
  have idles : s.Turns (s.updChannel t fun c => (c.takeMode m).enterIdle s.ticks) := updChannel_turns (.idles m _ h)
  exact idles.trans (.of_eq (by simp [State.wakeTrack]))

theorem goInService_turns (s : State) (t : TrackId) (m : Mode) : s.Turns (s.goInService t m).state := by
  unfold State.goInService
  split
  · next offline =>
    split
    · exact wakeTrack_turns m (by simp [offline])
    · exact .refl s
  · next idle => exact updChannel_turns (.idles m s.ticks (by simp [idle]))
  · next dormant => exact wakeTrack_turns m (by simp [dormant])
  · split <;> exact .refl s

theorem leaveService_turns {t : TrackId} {c : Channel} (estimates : (s.channel t).passage.estimates = c.passage.estimates)
    (same : (u.channel t) = c) (others : ∀ k, k ≠ t → (u.channel k).Turns (s.channel k)) : u.Turns (s.leaveService t) := by
  refine State.Turns.trans (u := s.updChannel t Channel.leaveService) (fun k => ?_) (powerDownTrack_turns _ t)
  by_cases h : k = t
  · subst h
    rw [State.updChannel_same, same]
    exact .single (.leaves _ estimates)
  · rw [State.updChannel_other s _ h]
    exact others k h

theorem goOffline_turns (s : State) (t : TrackId) : s.Turns (s.goOffline t) := by
  have leaves : s.Turns (s.leaveService t) := leaveService_turns rfl rfl fun _ _ => .refl
  unfold State.goOffline
  split
  · exact .refl s
  · exact leaves
  · exact leaves
  · have aborted : (s.updChannel t fun c => c.beginAbort s.localTime).Tends (s.abortPassage t) :=
      (tending_tends.closeHeads t .cancelled _ _).trans (offerPassage_tends _ t _)
    refine leaveService_turns ?_ rfl fun k other => ?_
    · obtain ⟨-, -, -, -, -, -, -, estimates⟩ := (aborted t).keeps
      rw [estimates, State.updChannel_same]
      rfl
    · have tended := aborted k
      rw [State.updChannel_other s _ other] at tended
      exact .single (.tended tended)

theorem setLocalTime_turns (s : State) (now : LocalTime) : s.Turns (s.setLocalTime now) := by
  intro t
  cases t <;> exact .single (.moved _ _)

theorem deliver_turns {t : TrackId} {e : SyntheticEdge} (h : s.edgeDue t = some e) : s.Turns (s.deliver t e) := by
  have delivered : s.Turns (s.updChannel t fun c => c.deliver e s.localTime s.ticks) := by
    refine updChannel_turns (.delivered e _ _ fun none => ?_)
    simp [State.edgeDue, Generator.dueEdge, none] at h
  unfold State.deliver
  dsimp only
  split
  · exact delivered.trans (.of_eq rfl)
  · exact delivered

end Sys2Proof.Machine
end

section
/-! Proofs: every command changes channels by those updates (O55). -/

namespace Sys2Proof.Machine

variable {s u v : State}

/-! ### Requests -/

/-- `u` differs from `s` in settings and blocks that no track and no camera reads as a request is handled. -/
def Settings (s u : State) : Prop :=
  ∃ tracker plans bindings strobes health autoRejoin store attention,
    u = { s with
      tracker := tracker, plans := plans, bindings := bindings, strobes := strobes, health := health
      autoRejoin := autoRejoin, store := store, attention := attention }

theorem Settings.refl (s : State) : Settings s s := ⟨_, _, _, _, _, _, _, _, rfl⟩

theorem Settings.channels (h : Settings s u) : u.channels = s.channels := by
  obtain ⟨_, _, _, _, _, _, _, _, rfl⟩ := h
  rfl

theorem Settings.cameras (h : Settings s u) : u.cameras = s.cameras := by
  obtain ⟨_, _, _, _, _, _, _, _, rfl⟩ := h
  rfl

/-- The requests that have an effect on tracks, on cameras or on the inhibit. -/
def RequestKind.reaching : List RequestKind :=
  [.setTrackGeometry, .setTrackTiming, .setTrackMode, .setSpeedFilter, .setHeadLimits, .setCamera, .resetCamera, .setInhibit,
    .setTime, .rehearse]

theorem handle_settings {k : RequestKind} (body : List Byte) (s : State) (h : k ∉ RequestKind.reaching) :
    Settings s (handle k body s).state := by
  cases k with
  | setTrackGeometry | setTrackTiming | setTrackMode | setSpeedFilter | setHeadLimits | setCamera | resetCamera | setInhibit
  | setTime | rehearse => simp [RequestKind.reaching] at h
  | identify | restart | readCameras | readStrobes | readHealth | readTime => exact .refl s
  | readEvents => exact ⟨_, _, _, _, _, _, _, _, rfl⟩
  | setAttention =>
    simp only [handle, handleSetAttention]
    split <;> exact ⟨_, _, _, _, _, _, _, _, rfl⟩
  | readTrack =>
    simp only [handle, handleReadTrack]
    split <;> exact .refl s
  | setStrobe =>
    simp only [handle, handleSetStrobe]
    split
    · exact .refl s
    · split
      · exact .refl s
      · split <;> exact ⟨_, _, _, _, _, _, _, _, rfl⟩
  | loadPlan =>
    simp only [handle, handleLoadPlan]
    split
    · split
      · exact .refl s
      · split <;> exact ⟨_, _, _, _, _, _, _, _, rfl⟩
    · exact .refl s
  | bindPlan =>
    simp only [handle, handleBindPlan]
    split
    · split
      · exact .refl s
      · split <;> exact ⟨_, _, _, _, _, _, _, _, rfl⟩
    · exact .refl s
  | readPlan =>
    simp only [handle, handleReadPlan]
    split <;> exact .refl s
  | fetchRecord =>
    simp only [handle, handleFetchRecord]
    split <;> exact .refl s
  | releaseRecord =>
    simp only [handle, handleReleaseRecord]
    split
    · exact .refl s
    · split <;> exact ⟨_, _, _, _, _, _, _, _, rfl⟩
  | setStore =>
    simp only [handle, handleSetStore]
    split <;> exact ⟨_, _, _, _, _, _, _, _, rfl⟩
  | rejoinSensor =>
    simp only [handle, handleRejoinSensor]
    split <;> exact ⟨_, _, _, _, _, _, _, _, rfl⟩
  | setHealth =>
    simp only [handle, handleSetHealth]
    split <;> exact ⟨_, _, _, _, _, _, _, _, rfl⟩
  | setReference =>
    simp only [handle, handleSetReference]
    split <;> exact ⟨_, _, _, _, _, _, _, _, rfl⟩

theorem handleSetCamera_channels (body : List Byte) (s : State) :
    (handleSetCamera body s).state.channels = s.channels := by
  unfold handleSetCamera
  split
  · rfl
  · split
    · rfl
    · split <;> rfl

theorem handleResetCamera_channels (body : List Byte) (s : State) :
    (handleResetCamera body s).state.channels = s.channels := by
  unfold handleResetCamera
  split <;> rfl

/-- What the four configuration requests of a track have in common: a setting in range is stored in an OFFLINE track
(R8, R21, R55, R76). -/
def storeSettings (t : Option TrackId) (ok : Bool) (f : Channel → Channel) (s : State) : Answer :=
  match t with
  | none => refuse s .badValue
  | some t =>
    if !ok then refuse s .badValue
    else if (s.channel t).state != .offline then refuse s .wrongState
    else accept (s.updChannel t f) []

theorem handleSetTrackGeometry_eq (body : List Byte) (s : State) :
    handleSetTrackGeometry body s
      = storeSettings (trackOfCode (field body 0 1)) ((geometryOf body).ok && inRange 20 5000 (field body 25 2))
          (fun c => { c with geometryValid := true, geometry := geometryOf body, debounce := field body 25 2 }) s := rfl

theorem handleSetTrackTiming_eq (body : List Byte) (s : State) :
    handleSetTrackTiming body s
      = storeSettings (trackOfCode (field body 0 1)) (inRange 1000 120000 (field body 1 4) && field body 5 2 ≤ 3600)
          (fun c => { c with clearInterval := field body 1 4, dormantDelay := field body 5 2 }) s := rfl

theorem handleSetSpeedFilter_eq (body : List Byte) (s : State) :
    handleSetSpeedFilter body s
      = storeSettings (trackOfCode (field body 0 1)) (inRange 50 10000 (field body 1 2) && inRange 5 50 (field body 3 1))
          (fun c => { c with staleLimit := field body 1 2, jumpLimit := field body 3 1 }) s := rfl

theorem handleSetHeadLimits_eq (body : List Byte) (s : State) :
    handleSetHeadLimits body s
      = storeSettings (trackOfCode (field body 0 1))
          (inRange 100 2000 (field body 1 2) && inRange (field body 1 2) 3000 (field body 3 2)
            && inRange 500 20000 (field body 5 2))
          (fun c => { c with lengthMin := field body 1 2, lengthMax := field body 3 2, margin := field body 5 2 }) s := rfl

theorem storeSettings_turns (t : Option TrackId) (ok : Bool) {f : Channel → Channel} (h : ∀ c : Channel, c.Turn (f c))
    (s : State) : s.Turns (storeSettings t ok f s).state := by
  unfold storeSettings
  split
  · exact .refl s
  · split
    · exact .refl s
    · split
      · exact .refl s
      · exact updChannel_turns (h _)

theorem handleSetTrackMode_turns (body : List Byte) (s : State) : s.Turns (handleSetTrackMode body s).state := by
  unfold handleSetTrackMode
  split
  · exact goOffline_turns s _
  · exact goInService_turns s _ _
  · exact goInService_turns s _ _
  · exact .refl s

theorem handleSetInhibit_turns (body : List Byte) (s : State) : s.Turns (handleSetInhibit body s).state := by
  unfold handleSetInhibit
  split
  · exact (State.Turns.of_eq rfl).trans (reformInhibit_turns { s with inhibits := configureInhibits body s.inhibits })
  · exact .refl s

theorem handleSetTime_turns (body : List Byte) (s : State) : s.Turns (handleSetTime body s).state := by
  unfold handleSetTime
  dsimp only
  split
  · exact .refl s
  · split
    · exact .refl s
    · exact (setLocalTime_turns s _).trans (.of_eq (by rfl))

theorem handleRehearse_turns (body : List Byte) (s : State) : s.Turns (handleRehearse body s).state := by
  unfold handleRehearse
  dsimp only
  split
  · split
    · exact .refl s
    · split
      · exact .refl s
      · next rehearses =>
        split
        · exact .refl s
        · split
          · exact .refl s
          · exact updChannel_turns (.rehearsed _ (by simpa using rehearses))
  · exact .refl s

theorem handle_turns (k : RequestKind) (body : List Byte) (s : State) : s.Turns (handle k body s).state := by
  cases k with
  | setTrackGeometry =>
    rw [handle, handleSetTrackGeometry_eq]
    exact storeSettings_turns _ _ (fun _ => .configured _ _ _ _ _ _ _ _ _ _) s
  | setTrackTiming =>
    rw [handle, handleSetTrackTiming_eq]
    exact storeSettings_turns _ _ (fun _ => .configured _ _ _ _ _ _ _ _ _ _) s
  | setTrackMode => exact handleSetTrackMode_turns body s
  | setSpeedFilter =>
    rw [handle, handleSetSpeedFilter_eq]
    exact storeSettings_turns _ _ (fun _ => .configured _ _ _ _ _ _ _ _ _ _) s
  | setHeadLimits =>
    rw [handle, handleSetHeadLimits_eq]
    exact storeSettings_turns _ _ (fun _ => .configured _ _ _ _ _ _ _ _ _ _) s
  | setInhibit => exact handleSetInhibit_turns body s
  | setTime => exact handleSetTime_turns body s
  | rehearse => exact handleRehearse_turns body s
  | setCamera => exact .of_eq (handleSetCamera_channels body s)
  | resetCamera => exact .of_eq (handleResetCamera_channels body s)
  | _ => exact .of_eq (handle_settings body s (by simp [RequestKind.reaching])).channels

theorem advance_channels (s : State) : s.advance.channels = s.channels := by
  unfold State.advance State.tick
  split <;> rfl

/-- Both resets put every channel at its reset values. -/
theorem common_turns (s : State) (baud : BitVec 2) : s.Turns (s.common baud) := by
  intro t
  cases t <;> exact .single .reset

/-! ### Every command -/

theorem State.Turns.stays {o : Host.Outcome State Fault Refusal} (h : s.Turns u) (k : Stays u.Turns o) : Stays s.Turns o :=
  fun v next => h.trans (k v next)

theorem execWheelLeadingEdge_turns (t : TrackId) (w : WheelSensor) (s : State) :
    Stays s.Turns (execWheelLeadingEdge t w s) := by
  refine State.Turns.next ?_
  split
  · exact .refl s
  · refine updChannel_turns (.wheel w _ fun counts => ?_)
    by_contra other
    simp [State.startCount, Channel.live, other] at counts

theorem execWheelTrailingEdge_turns (t : TrackId) (w : WheelSensor) (s : State) :
    Stays s.Turns (execWheelTrailingEdge t w s) := by
  refine State.Turns.next ?_
  have low : s.Turns (s.updChannel t fun c => c.setWheel w { level := false, count := none }) :=
    updChannel_turns (.wheel w _ (by simp))
  dsimp only
  split
  · exact .refl s
  · split
    · refine low.trans (.of_eq ?_)
      unfold State.chatter
      split <;> simp
    · exact low

theorem execWheelPulseAccepted_turns (t : TrackId) (w : WheelSensor) (s : State) :
    Stays s.Turns (execWheelPulseAccepted t w s) := by
  refine State.Turns.next ?_
  dsimp only
  split
  · split
    · next p _ =>
      have dropped : s.Turns (s.updChannel t fun c => c.dropPulse p) := updChannel_turns (.dropped p)
      exact dropped.trans (disposePulse_turns _ t w _)
    · exact .refl s
  · split
    · have taken : s.Turns (s.updChannel t fun c => c.setWheel w { c.wheels.get w with count := none }) :=
        updChannel_turns (.wheel w _ (by simp))
      exact taken.trans (disposePulse_turns _ t w _)
    · exact .refl s

theorem execHeadDetectorEdge_turns (t : TrackId) (d : Detector) (high : Bool) (s : State) :
    Stays s.Turns (execHeadDetectorEdge t d high s) := by
  refine State.Turns.next ?_
  by_cases same : ((s.channel t).detectors.get d).pin = high
  · refine updChannel_turns ?_
    simp only [same, if_true]
    exact .tended (.refl _)
  · refine updChannel_turns ?_
    simp only [same, if_false]
    exact .detector d _ fun none noCount => by simp [none, noCount]

theorem execBlockedStart_turns (t : TrackId) (d : Detector) (s : State) : Stays s.Turns (execBlockedStart t d s) := by
  refine State.Turns.next ?_
  split
  · next due =>
    exact (settleDetector_turns true (Bool.and_eq_true_iff.mp due).1).trans (disposeStart_turns _ t d)
  · exact .refl s

theorem execBlockedEnd_turns (t : TrackId) (d : Detector) (s : State) : Stays s.Turns (execBlockedEnd t d s) := by
  refine State.Turns.next ?_
  split
  · next due =>
    exact (settleDetector_turns false (Bool.and_eq_true_iff.mp due).1).trans (disposeEnd_turns _ t d)
  · exact .refl s

theorem execHeadCrosses_turns (t : TrackId) (n : Nat) (s : State) : Stays s.Turns (execHeadCrosses t n s) := by
  refine State.Turns.next ?_
  split
  · split
    · exact (updHead_tends s t n _).turns
    · exact .refl s
  · exact .refl s

theorem execHeadDeparted_turns (t : TrackId) (n : Nat) (s : State) : Stays s.Turns (execHeadDeparted t n s) := by
  refine State.Turns.next ?_
  split
  · split
    · exact (updHead_tends s t n _).turns.trans (testHead_turns _ t n)
    · exact .refl s
  · exact .refl s

theorem execTimelineEntryExpiry_turns (t : TrackId) (n : Nat) (s : State) :
    Stays s.Turns (execTimelineEntryExpiry t n s) := by
  refine State.Turns.next ?_
  split
  · split
    · exact (tending_tends.expireEntry s t n _).turns
    · exact .refl s
  · exact .refl s

theorem execTriggerRelease_turns (i : Fin 8) (s : State) : Stays s.Turns (execTriggerRelease i s) := by
  refine State.Turns.next (.of_eq ?_)
  split <;> rfl

theorem execCdoneEdge_turns (i : Fin 8) (s : State) : Stays s.Turns (execCdoneEdge i s) := by
  refine State.Turns.next ?_
  split
  · exact (State.Turns.of_eq rfl).trans (handOver_turns (s.updCamera i _) _ _)
  · exact .refl s

theorem execConfirmationWindowExpiry_turns (i : Fin 8) (s : State) :
    Stays s.Turns (execConfirmationWindowExpiry i s) := by
  refine State.Turns.next ?_
  split
  · split
    · exact expireWindow_turns s i _
    · exact .refl s
  · exact .refl s

theorem execRecoveryEnd_turns (i : Fin 8) (s : State) : Stays s.Turns (execRecoveryEnd i s) := by
  refine State.Turns.next (.of_eq ?_)
  split <;> rfl

theorem execWarmUpEnd_turns (i : Fin 8) (s : State) : Stays s.Turns (execWarmUpEnd i s) := State.Turns.next (.of_eq rfl)

theorem execStrobePulseEnd_turns (x : Fin 6) (s : State) : Stays s.Turns (execStrobePulseEnd x s) := by
  refine State.Turns.next (.of_eq ?_)
  split
  · split
    · dsimp only
      split
      · rfl
      · exact startCharge_channels _ _
    · rfl
  · rfl

theorem execInhibitInputEdge_turns (i : Fin 4) (high : Bool) (s : State) :
    Stays s.Turns (execInhibitInputEdge i high s) := by
  have seen : s.Turns { s with inhibits := updateAt s.inhibits i fun x => { x with level := high } } := .of_eq rfl
  exact (seen.trans (reformInhibit_turns _)).next

theorem execChargeCompletion_turns (s : State) : Stays s.Turns (execChargeCompletion s) := by
  refine State.Turns.next (.of_eq ?_)
  split
  · split
    · exact startCharge_channels _ _
    · rfl
  · rfl

theorem execClearIntervalExpiry_turns (t : TrackId) (s : State) : Stays s.Turns (execClearIntervalExpiry t s) := by
  obtain ⟨due, out⟩ | ⟨-, finished, out⟩ | ⟨-, -, out⟩ := execClearIntervalExpiry_cases t s
  · exact out ▸ (beginClose_turns (Bool.and_eq_true_iff.mp due).1).next
  · exact out ▸ (completeClose_turns (Bool.and_eq_true_iff.mp finished).1).next
  · exact out ▸ (State.Turns.refl s).next

theorem execDormantDelayExpiry_turns (t : TrackId) (s : State) : Stays s.Turns (execDormantDelayExpiry t s) := by
  refine State.Turns.next ?_
  split
  · next due =>
    have idle : (s.channel t).state = .idle := of_decide_eq_true (Bool.and_eq_true_iff.mp due).1
    have sleeps : s.Turns (s.updChannel t fun c => { c with state := .dormant, dormantTimer := none }) :=
      updChannel_turns (.sleeps idle)
    exact sleeps.trans (powerDownTrack_turns _ t)
  · exact .refl s

theorem execStalenessExpiry_turns (t : TrackId) (s : State) : Stays s.Turns (execStalenessExpiry t s) := by
  refine State.Turns.next ?_
  split
  · have freezes : s.Turns (s.updChannel t fun c => { c with speed := c.speed.freeze, staleTimer := none }) :=
      updChannel_turns .freezes
    exact freezes.trans (tending_tends.reanchorAll t 0 _ _).turns
  · exact .refl s

theorem execRefEdge_turns (rising : Bool) (s : State) : Stays s.Turns (execRefEdge rising s) := by
  have judged : s.Turns s.judgeEdge := by
    unfold State.judgeEdge
    split
    · exact .refl s
    · exact (setLocalTime_turns s (nearestSecond s.localTime)).trans (.of_eq (by rfl))
  refine State.Turns.next ?_
  split
  · exact .refl s
  · split
    · exact .refl s
    · exact judged
    · refine .of_eq ?_
      unfold State.measureEdge
      split <;> rfl
    · exact judged

theorem execWindowClose_turns (s : State) : Stays s.Turns (execWindowClose s) := by
  refine State.Turns.next (.of_eq ?_)
  split
  · unfold State.closeWindow State.missWindow
    split
    · rfl
    · dsimp only
      split <;> rfl
  · rfl

theorem execRehearsalEdgeDelivery_turns (t : TrackId) (s : State) : Stays s.Turns (execRehearsalEdgeDelivery t s) := by
  refine State.Turns.next ?_
  split
  · exact deliver_turns ‹_›
  · exact .refl s

theorem steady_turns (s : State) : Steady s.Turns where
  queue _ _ _ h := h
  link _ _ h := h
  attention _ _ h := h
  advance u h := h.trans (.of_eq (advance_channels u))
  handled k body u h := h.trans (handle_turns k body u)
  restart u h := h.trans ((common_turns u u.link.baud).trans (.of_eq rfl))
  pinReset straps u h := h.trans (common_turns u straps)
  wheelLeadingEdge t w u h := h.stays (execWheelLeadingEdge_turns t w u)
  wheelTrailingEdge t w u h := h.stays (execWheelTrailingEdge_turns t w u)
  wheelPulseAccepted t w u h := h.stays (execWheelPulseAccepted_turns t w u)
  headDetectorEdge t d high u h := h.stays (execHeadDetectorEdge_turns t d high u)
  blockedStart t d u h := h.stays (execBlockedStart_turns t d u)
  blockedEnd t d u h := h.stays (execBlockedEnd_turns t d u)
  headCrosses t n u h := h.stays (execHeadCrosses_turns t n u)
  headDeparted t n u h := h.stays (execHeadDeparted_turns t n u)
  timelineEntryExpiry t n u h := h.stays (execTimelineEntryExpiry_turns t n u)
  triggerRelease i u h := h.stays (execTriggerRelease_turns i u)
  cdoneEdge i u h := h.stays (execCdoneEdge_turns i u)
  confirmationWindowExpiry i u h := h.stays (execConfirmationWindowExpiry_turns i u)
  recoveryEnd i u h := h.stays (execRecoveryEnd_turns i u)
  warmUpEnd i u h := h.stays (execWarmUpEnd_turns i u)
  strobePulseEnd x u h := h.stays (execStrobePulseEnd_turns x u)
  inhibitInputEdge i high u h := h.stays (execInhibitInputEdge_turns i high u)
  chargeCompletion u h := h.stays (execChargeCompletion_turns u)
  clearIntervalExpiry t u h := h.stays (execClearIntervalExpiry_turns t u)
  dormantDelayExpiry t u h := h.stays (execDormantDelayExpiry_turns t u)
  stalenessExpiry t u h := h.stays (execStalenessExpiry_turns t u)
  refEdge rising u h := h.stays (execRefEdge_turns rising u)
  windowClose u h := h.stays (execWindowClose_turns u)
  rehearsalEdgeDelivery t u h := h.stays (execRehearsalEdgeDelivery_turns t u)

/-- Every step changes the channels by turns. -/
theorem step_turns (s : State) : Stays s.Turns (step s) := (steady_turns s).step (.refl s)

/-- What every turn keeps of a channel, every step keeps of both tracks. -/
theorem kept_of_turn {good : Channel → Prop} (turn : ∀ c d : Channel, c.Turn d → good c → good d) :
    Kept fun s => s.BothTracks good := fun s u h next => (step_turns s u next).keep turn h

/-- Settles O55: every command changes a channel by turns, and each turn keeps the three invariants. -/
theorem tracksStayGood : Obligations.TracksStayGood := by
  have service : Kept fun s => s.BothTracks Channel.ServiceGood := kept_of_turn fun _ _ turn => turn.serviceGood
  refine ⟨kept_of_turn fun _ _ turn => turn.queuesGood, kept_of_turn fun _ _ turn => turn.speedsGood,
    fun s u ⟨timers, inputs⟩ next => ?_⟩
  obtain ⟨⟨t1, i1⟩, ⟨t2, i2⟩⟩ := service s u ⟨⟨timers.1, inputs.1⟩, ⟨timers.2, inputs.2⟩⟩ next
  exact ⟨⟨t1, t2⟩, ⟨i1, i2⟩⟩

end Sys2Proof.Machine
end

section
/-! Proofs: what power does to the cameras, and what can happen to a camera while its track stays as awake as it is. -/

namespace Sys2Proof.Machine

variable {s u v : State}

/-! ## Which operations leave the cameras alone -/

theorem State.camera_eq (h : u.cameras = s.cameras) (i : Fin 8) : u.camera i = s.camera i := by
  simp only [State.camera, h]

/-- A fold whose every step keeps the cameras keeps them. -/
theorem foldl_cameras {α : Type} (f : State → α → State) (h : ∀ s x, (f s x).cameras = s.cameras) (l : List α)
    (s : State) : (l.foldl f s).cameras = s.cameras := by
  induction l generalizing s with
  | nil => rfl
  | cons x rest ih => exact (ih _).trans (h s x)

theorem Records.cameras (h : Records s u) : u.cameras = s.cameras := h.keeps.1

@[simp] theorem startCharge_cameras (s : State) (joins : Option Nat) : (s.startCharge joins).cameras = s.cameras := by
  obtain ⟨h, -⟩ | ⟨_, _, -, -, h⟩ := startCharge_cases s joins
  · rw [h]
  · rw [h]; rfl

@[simp] theorem joinOffStrobes_cameras (l : List (Fin 6)) (s : State) : (s.joinOffStrobes l).cameras = s.cameras := by
  induction l generalizing s with
  | nil => rfl
  | cons x rest ih =>
    refine (ih _).trans ?_
    split <;> rfl

@[simp] theorem wakePool_cameras (s : State) (awake : Bool) : (s.wakePool awake).cameras = s.cameras := by
  unfold State.wakePool
  split
  · rfl
  · simp [State.powerUpPool]

@[simp] theorem restPool_cameras (s : State) : s.restPool.cameras = s.cameras := by
  unfold State.restPool
  split <;> rfl

theorem cutStrobe_cameras (s : State) (x : Fin 6) : (s.cutStrobe x).cameras = s.cameras := by
  unfold State.cutStrobe
  split
  · exact (flashCut_records _ _).cameras
  · rfl

theorem reopenChoice_cameras (s : State) : s.reopenChoice.cameras = s.cameras := by
  obtain ⟨h, -⟩ | ⟨c, -, -, h⟩ := reopenChoice_cases s
  · rw [h]
  · rw [h]; rfl

theorem reformInhibit_cameras (s : State) : s.reformInhibit.cameras = s.cameras := by
  have cut : ∀ u : State, u.cutFiring.cameras = u.cameras := fun u => by
    unfold State.cutFiring
    split
    · exact (startCharge_cameras _ _).trans ((foldl_cameras _ cutStrobe_cameras _ _).trans (reopenChoice_cameras u))
    · rfl
  unfold State.reformInhibit
  dsimp only
  split
  · exact cut _
  · rfl

/-! ## Power, camera by camera (R104 to R106) -/

/-- A fold of updates over different cameras updates each of those once. -/
theorem foldl_updCamera (f : Nat → Camera → Camera) (l : List (Fin 8)) (different : l.Nodup) (s : State) (j : Fin 8) :
    (l.foldl (fun s i => s.updCamera i (f s.ticks)) s).camera j = if j ∈ l then f s.ticks (s.camera j) else s.camera j := by
  induction l generalizing s with
  | nil => simp
  | cons i rest ih =>
    obtain ⟨new, different⟩ := List.nodup_cons.mp different
    simp only [List.foldl_cons, ih different, State.updCamera_ticks, State.updCamera_camera, List.mem_cons]
    by_cases h : j = i
    · simp [h, new]
    · simp [h]

theorem allCameras_nodup : allCameras.Nodup := by decide

theorem mem_camerasOf {t : TrackId} {i : Fin 8} : i ∈ s.camerasOf t ↔ (s.camera i).track = some t := by
  simp [State.camerasOf, mem_allCameras]

theorem camerasOf_nodup (s : State) (t : TrackId) : (s.camerasOf t).Nodup := allCameras_nodup.filter _

/-- Power-up reaches the cameras of the track. -/
theorem powerUpCameras_camera (s : State) (t : TrackId) (i : Fin 8) :
    (s.powerUpCameras t).camera i
      = if (s.camera i).track = some t then (s.camera i).powerUp s.ticks else s.camera i := by
  have power := foldl_updCamera (fun ticks c => c.powerUp ticks) (s.camerasOf t) (camerasOf_nodup s t) s i
  simpa only [State.powerUpCameras, mem_camerasOf] using power

/-- A camera as it has lost its power: OFF with both pins low and no window (R106). -/
def Camera.rested (c : Camera) : Camera :=
  if c.powered then { c with state := .off, cpwr := false, ctrg := false, confirm := none } else c

theorem abortWindow_camera (s : State) (i j : Fin 8) :
    (s.abortWindow i).camera j = if j = i then { s.camera j with confirm := none } else s.camera j := by
  unfold State.abortWindow
  split
  · rw [State.camera_eq (handOver_records _ _ _).cameras, State.updCamera_camera]
  · next none =>
    split
    · next same =>
      subst same
      rw [← none]
    · rfl

theorem cutCamera_camera (s : State) (i j : Fin 8) :
    (s.cutCamera i).camera j
      = if j = i then { s.camera j with state := .off, cpwr := false, ctrg := false } else s.camera j := by
  unfold State.cutCamera
  dsimp only
  split
  · rw [State.camera_eq (handOver_records _ _ _).cameras, State.updCamera_camera]
  · exact State.updCamera_camera _ _ _ _

theorem removePower_camera (s : State) (i j : Fin 8) :
    (s.removePower i).camera j = if j = i then (s.camera j).rested else s.camera j := by
  unfold State.removePower
  split
  · next powered =>
    rw [cutCamera_camera, abortWindow_camera]
    split
    · next same =>
      subst same
      simp [Camera.rested, powered]
    · rfl
  · next powered =>
    split
    · next same =>
      subst same
      simp [Camera.rested, powered]
    · rfl

theorem foldl_removePower_camera (l : List (Fin 8)) (different : l.Nodup) (s : State) (j : Fin 8) :
    (l.foldl (fun s i => s.removePower i) s).camera j = if j ∈ l then (s.camera j).rested else s.camera j := by
  induction l generalizing s with
  | nil => simp
  | cons i rest ih =>
    obtain ⟨new, different⟩ := List.nodup_cons.mp different
    simp only [List.foldl_cons, ih different, removePower_camera, List.mem_cons]
    by_cases h : j = i
    · simp [h, new]
    · simp [h]

/-- Power-down reaches the cameras of the track. -/
theorem powerDownCameras_camera (s : State) (t : TrackId) (i : Fin 8) :
    (s.powerDownCameras t).camera i = if (s.camera i).track = some t then (s.camera i).rested else s.camera i := by
  have power := foldl_removePower_camera (s.camerasOf t) (camerasOf_nodup s t) s i
  simpa only [State.powerDownCameras, mem_camerasOf] using power

theorem powerDownTrack_camera (s : State) (t : TrackId) (i : Fin 8) :
    (s.powerDownTrack t).camera i = if (s.camera i).track = some t then (s.camera i).rested else s.camera i :=
  (State.camera_eq (restPool_cameras _) i).trans (powerDownCameras_camera s t i)

/-! ## What can happen to a camera while its track stays as awake as it is -/

theorem Camera.endWarmUp_keeps (c : Camera) (ticks : Nat) :
    (c.endWarmUp ticks).track = c.track ∧ (c.endWarmUp ticks).powered = c.powered
    ∧ ((c.endWarmUp ticks).state = .failed ↔ c.state = .failed) := by
  unfold Camera.endWarmUp
  split
  · next due =>
    unfold Camera.warmUpDue at due
    split at due <;> simp_all [Camera.powered]
  · simp

/-- One update of a camera. -/
inductive Camera.Turn (c : Camera) : Camera → Prop where
  | released (ticks : Nat) : Turn c (c.release ticks)
  | recovered (h : c.state = .recovering) : Turn c { c with state := .ready }
  | warmed (ticks : Nat) : Turn c (c.endWarmUp ticks)
  | confirmed (h : c.confirm ≠ none) : Turn c c.confirmReturn
  | missed (h : c.confirm ≠ none) (run : c.missReturn.noReturnRun ≠ 3) : Turn c c.missReturn
  | failed (run : c.missReturn.noReturnRun = 3) : Turn c c.missReturn.fail
  | exposed (shot : ShotRef) (speed ticks : Nat) (h : c.state = .ready) :
    Turn c (c.expose shot (c.exposureFor speed).1 ticks)

/-- Updates one after another. -/
abbrev Camera.Turns : Camera → Camera → Prop := Relation.ReflTransGen Camera.Turn

/-- The exposure lies within the limits of the camera (R108). -/
theorem Camera.exposureFor_range {c : Camera} (h : c.SettingsGood) (speed : Nat) :
    c.exposureMin ≤ (c.exposureFor speed).1 ∧ (c.exposureFor speed).1 ≤ c.exposureMax := by
  obtain ⟨-, -, -, ordered, -⟩ := h
  unfold Camera.exposureFor
  dsimp only
  split
  · exact ⟨ordered, le_refl _⟩
  · split
    · exact ⟨le_refl _, ordered⟩
    · split
      · exact ⟨ordered, le_refl _⟩
      · constructor <;> omega

/-- A camera with an open window has power, and has not failed. -/
theorem Camera.Good.of_window {c : Camera} (h : c.Good) (window : c.confirm ≠ none) :
    c.powered = true ∧ c.state ≠ .failed ∧ c.noReturnRun ≠ 3 := by
  obtain ⟨-, -, -, -, run, off, -⟩ := h
  have powered : c.powered = true := Bool.of_not_eq_false fun unpowered => window (off unpowered)
  have alive : c.state ≠ .failed := fun failed => by simp [Camera.powered, failed] at powered
  exact ⟨powered, alive, fun three => alive (run.mp three)⟩

theorem Camera.Turn.good {c d : Camera} (turn : c.Turn d) (h : c.Good) : d.Good := by
  have all := h
  obtain ⟨settings, cpwr, ctrg, few, run, off, exposing⟩ := h
  cases turn with
  | released ticks =>
    unfold Camera.release
    split
    · next shot e state =>
      have powered : c.powered = true := by simp [Camera.powered, state]
      refine ⟨settings, cpwr.trans powered, rfl, few, ?_, by simp [Camera.powered], by simp⟩
      simpa [state] using run
    · exact all
  | recovered state =>
    have powered : c.powered = true := by simp [Camera.powered, state]
    refine ⟨settings, cpwr.trans powered, by simpa [state, CameraState.code] using ctrg, few, ?_,
      by simp [Camera.powered], by simp⟩
    simpa [state] using run
  | warmed ticks =>
    unfold Camera.endWarmUp
    split
    · next due =>
      unfold Camera.warmUpDue at due
      split at due
      · next since state =>
        have powered : c.powered = true := by simp [Camera.powered, state]
        refine ⟨settings, cpwr.trans powered, by simpa [state, CameraState.code] using ctrg, few, ?_,
          by simp [Camera.powered], by simp⟩
        simpa [state] using run
      · simp at due
    · exact all
  | confirmed window =>
    obtain ⟨-, alive, -⟩ := all.of_window window
    exact ⟨settings, cpwr, ctrg, Nat.zero_le _, by simpa [Camera.confirmReturn] using alive, fun _ => rfl, exposing⟩
  | missed window notThree =>
    obtain ⟨-, alive, -⟩ := all.of_window window
    exact ⟨settings, cpwr, ctrg, min_le_left _ _, ⟨fun three => absurd three notThree, fun failed => absurd failed alive⟩,
      fun _ => rfl, exposing⟩
  | failed three =>
    exact ⟨settings, rfl, rfl, min_le_left _ _, ⟨fun _ => rfl, fun _ => three⟩, fun _ => rfl, by simp [Camera.fail]⟩
  | exposed shot speed ticks state =>
    have powered : c.powered = true := by simp [Camera.powered, state]
    refine ⟨settings, cpwr.trans powered, rfl, few, by simpa [state, Camera.expose] using run,
      by simp [Camera.powered, Camera.expose], fun shot' e same => ?_⟩
    simp only [Camera.expose, CameraState.exposing.injEq] at same
    obtain ⟨-, rfl⟩ := same
    obtain ⟨low, high⟩ := Camera.exposureFor_range settings speed
    exact ⟨low, high, rfl⟩

/-- A turn leaves the camera on its track, and with the power it had unless the camera fails. -/
theorem Camera.Turn.keeps {c d : Camera} (turn : c.Turn d) :
    d.track = c.track ∧ (d.state ≠ .failed → c.state ≠ .failed ∧ d.powered = c.powered) := by
  cases turn with
  | released ticks =>
    unfold Camera.release
    split <;> simp_all [Camera.powered]
  | recovered state => simp [Camera.powered, state]
  | warmed ticks =>
    obtain ⟨track, powered, failed⟩ := Camera.endWarmUp_keeps c ticks
    exact ⟨track, fun alive => ⟨mt failed.mpr alive, powered⟩⟩
  | confirmed | missed => exact ⟨rfl, fun alive => ⟨alive, rfl⟩⟩
  | failed => simp [Camera.fail, Camera.missReturn]
  | exposed shot speed ticks state => simp [Camera.powered, Camera.expose, state]

/-- A camera is good and has the power of a track that is awake or not. -/
def Camera.FitsTrack (c : Camera) (awake : Bool) : Prop := c.Good ∧ (c.state ≠ .failed → c.powered = awake)

theorem Camera.Turns.fitsTrack {c d : Camera} {awake : Option TrackId → Bool} (turns : c.Turns d)
    (h : c.FitsTrack (awake c.track)) : d.FitsTrack (awake d.track) := by
  induction turns with
  | refl => exact h
  | tail _ turn ih =>
    obtain ⟨good, power⟩ := ih
    obtain ⟨track, keeps⟩ := turn.keeps
    refine ⟨turn.good good, fun alive => ?_⟩
    obtain ⟨alive, same⟩ := keeps alive
    rw [same, track]
    exact power alive

theorem State.camerasGood_iff : s.CamerasGood ↔ ∀ i, (s.camera i).FitsTrack (s.trackAwake (s.camera i).track) := Iff.rfl

/-- Both tracks are as awake as they were. -/
def State.SameAwake (s u : State) : Prop := ∀ t, (u.channel t).awake = (s.channel t).awake

theorem State.SameAwake.trans (h : s.SameAwake u) (k : u.SameAwake v) : s.SameAwake v := fun t => (k t).trans (h t)

theorem State.SameAwake.of_eq (h : u.channels = s.channels) : s.SameAwake u := fun t => by rw [State.channel_eq h]

theorem State.SameAwake.foldl {α : Type} (f : State → α → State) (h : ∀ (s : State) x, s.SameAwake (f s x)) (l : List α)
    (s : State) : s.SameAwake (l.foldl f s) := by
  induction l generalizing s with
  | nil => exact .of_eq rfl
  | cons x rest ih => exact (h s x).trans (ih _)

theorem State.SameAwake.trackAwake (h : s.SameAwake u) (t : Option TrackId) : u.trackAwake t = s.trackAwake t := by
  cases t with
  | none => rfl
  | some t => exact h t

theorem State.Tends.sameAwake (h : s.Tends u) : s.SameAwake u := fun t => by
  obtain ⟨-, -, -, awake, -⟩ := (h t).keeps
  exact awake

theorem updChannel_sameAwake {t : TrackId} {f : Channel → Channel}
    (h : (f (s.channel t)).awake = (s.channel t).awake) : s.SameAwake (s.updChannel t f) := by
  intro k
  by_cases same : k = t
  · subst same
    rwa [State.updChannel_same]
  · rw [State.updChannel_other s f same]

/-- From `s` to `u` the tracks stay as awake as they are and each camera makes turns. -/
def State.CameraTurns (s u : State) : Prop := s.SameAwake u ∧ ∀ i, (s.camera i).Turns (u.camera i)

theorem State.CameraTurns.trans (h : s.CameraTurns u) (k : u.CameraTurns v) : s.CameraTurns v :=
  ⟨h.1.trans k.1, fun i => (h.2 i).trans (k.2 i)⟩

theorem State.CameraTurns.of_same (awake : s.SameAwake u) (h : u.cameras = s.cameras) : s.CameraTurns u :=
  ⟨awake, fun i => by rw [State.camera_eq h]⟩

theorem State.CameraTurns.of_tends (h : s.Tends u) (k : Records s u) : s.CameraTurns u := .of_same h.sameAwake k.cameras

theorem State.CameraTurns.of_eq (channels : u.channels = s.channels) (cameras : u.cameras = s.cameras) : s.CameraTurns u :=
  .of_same (.of_eq channels) cameras

theorem State.CameraTurns.refl (s : State) : s.CameraTurns s := .of_eq rfl rfl

theorem updCamera_turns {i : Fin 8} {f : Camera → Camera} (h : (s.camera i).Turn (f (s.camera i))) :
    s.CameraTurns (s.updCamera i f) := by
  refine ⟨.of_eq rfl, fun j => ?_⟩
  rw [State.updCamera_camera]
  split
  · next same =>
    subst same
    exact .single h
  · exact .refl

theorem State.CameraTurns.good (h : s.CameraTurns u) (k : s.CamerasGood) : u.CamerasGood := by
  obtain ⟨awake, turns⟩ := h
  refine State.camerasGood_iff.mpr fun i => ?_
  rw [awake.trackAwake]
  exact (turns i).fitsTrack (awake := s.trackAwake) (State.camerasGood_iff.mp k i)

/-- The work on heads exposes with READY cameras and touches no other. -/
theorem tending_cameraTurns : Tending State.CameraTurns where
  refl := .refl
  trans := .trans
  head s t n f := .of_tends (updHead_tends s t n f) (updHead_records s t n f)
  close s t n cause := .of_tends (closeHead_tends s t n cause) (closeHead_records s t n cause)
  timeline _ _ := .of_eq rfl rfl
  expose s _ shot speed ready := updCamera_turns (.exposed shot speed s.ticks ready)
  fire _ _ _ _ _ _ := .of_eq rfl rfl
  fault s i := .of_eq (fault_channels s i) (fault_records s i).cameras
  good s i := .of_eq (good_channels s i) (good_records s i).cameras
  accepted _ _ := .of_same (updChannel_sameAwake rfl) rfl
  rejected _ _ := .of_same (updChannel_sameAwake rfl) rfl
  dropped _ _ := .of_same (updChannel_sameAwake rfl) rfl
  remove _ _ _ := .of_same (updChannel_sameAwake rfl) rfl
  enter _ _ _ _ := .of_same (updChannel_sameAwake rfl) rfl

/-! ### Passages -/

theorem updChannel_cameraTurns {t : TrackId} {f : Channel → Channel}
    (h : (f (s.channel t)).awake = (s.channel t).awake) : s.CameraTurns (s.updChannel t f) :=
  .of_same (updChannel_sameAwake h) rfl

/-- A passage that completes its close goes from PASSAGE to IDLE, so its track stays awake. -/
theorem completeClose_sameAwake {t : TrackId} (h : (s.channel t).closing = true) : s.SameAwake (s.completeClose t) := by
  have before := closeRecord_tends s t (s.channel t).passage.agreed
  refine before.sameAwake.trans (updChannel_sameAwake ?_)
  have passage : (((s.reportClose t).offerPassage t (s.channel t).passage.agreed).channel t).state = .passage := by
    obtain ⟨-, -, -, -, state, -⟩ := (before t).keeps
    rw [state]
    exact (Channel.closing_iff.mp h).1
  simp [Channel.awake, Channel.enterIdle, passage]

theorem settleClose_sameAwake (s : State) (t : TrackId) : s.SameAwake (s.settleClose t) := by
  obtain h | ⟨closing, -, -, h⟩ := settleClose_cases s t
  · rw [h]; exact .of_eq rfl
  · rw [h]; exact completeClose_sameAwake closing

theorem testHead_sameAwake (s : State) (t : TrackId) (n : Nat) : s.SameAwake (s.testHead t n) :=
  (tending_tends.closeTest s t n).sameAwake.trans (settleClose_sameAwake _ t)

theorem testShotHead_sameAwake (s : State) (r : ShotRef) : s.SameAwake (s.testShotHead r) := by
  unfold State.testShotHead
  split
  · exact testHead_sameAwake s _ _
  · exact .of_eq rfl

theorem handOver_sameAwake (s : State) (r : ShotRef) (result : Confirmation) : s.SameAwake (s.handOver r result) :=
  (settleResult_tends s r result).sameAwake.trans (testShotHead_sameAwake _ r)

theorem handOver_cameraTurns (s : State) (r : ShotRef) (result : Confirmation) : s.CameraTurns (s.handOver r result) :=
  .of_same (handOver_sameAwake s r result) (handOver_records s r result).cameras

theorem handOverBoth_cameraTurns (s : State) (a b : ShotRef) (first second : Confirmation) :
    s.CameraTurns (s.handOverBoth a first b second) :=
  .of_same ((((settleResult_tends s a first).trans (settleResult_tends _ b second)).sameAwake.trans
    (testShotHead_sameAwake _ a)).trans (testShotHead_sameAwake _ b)) (handOverBoth_records s a b first second).cameras

end Sys2Proof.Machine
end

section
/-! Proofs: the cameras of a track that wakes or falls asleep, and of one whose pulses are taken. -/

namespace Sys2Proof.Machine

variable {s u v : State}

/-! ## Tracks that wake and fall asleep -/

theorem Camera.powerUp_good {c : Camera} (h : c.Good) (ticks : Nat) : (c.powerUp ticks).Good := by
  have all := h
  obtain ⟨settings, -, ctrg, few, run, off, -⟩ := h
  unfold Camera.powerUp
  split
  · next state =>
    refine Camera.Turn.good (.warmed ticks)
      ⟨settings, rfl, by simpa [state, CameraState.code] using ctrg, few, ?_, by simp [Camera.powered], by simp⟩
    simpa [state] using run
  · exact all

/-- A powered-up camera has power unless it has failed. -/
theorem Camera.powerUp_keeps (c : Camera) (ticks : Nat) :
    (c.powerUp ticks).track = c.track ∧ ((c.powerUp ticks).state ≠ .failed → (c.powerUp ticks).powered = true) := by
  unfold Camera.powerUp
  split
  · obtain ⟨track, powered, -⟩ := Camera.endWarmUp_keeps { c with state := .warming ticks, cpwr := true } ticks
    exact ⟨track, fun _ => powered⟩
  · next on =>
    refine ⟨rfl, fun alive => ?_⟩
    unfold Camera.powered
    split <;> simp_all

theorem Camera.rested_good {c : Camera} (h : c.Good) : c.rested.Good := by
  have all := h
  obtain ⟨settings, -, -, few, run, -, -⟩ := h
  unfold Camera.rested
  split
  · next powered =>
    have alive : c.state ≠ .failed := fun failed => by simp [Camera.powered, failed] at powered
    exact ⟨settings, rfl, rfl, few, by simpa [alive] using run, fun _ => rfl, by simp⟩
  · exact all

theorem Camera.rested_keeps (c : Camera) : c.rested.track = c.track ∧ c.rested.powered = false := by
  unfold Camera.rested
  split
  · exact ⟨rfl, rfl⟩
  · next powered => exact ⟨rfl, Bool.of_not_eq_true powered⟩

/-- A track has woken or fallen asleep, and its cameras were given power or lost it: every camera is good. -/
theorem camerasGood_of_power {t : TrackId} {awake : Bool} {f : Camera → Camera} (h : s.CamerasGood)
    (now : (u.channel t).awake = awake) (other : (u.channel (otherTrack t)).awake = (s.channel (otherTrack t)).awake)
    (power : ∀ c : Camera, c.Good → (f c).Good ∧ (f c).track = c.track ∧ ((f c).state ≠ .failed → (f c).powered = awake))
    (cameras : ∀ i, u.camera i = if (s.camera i).track = some t then f (s.camera i) else s.camera i) :
    u.CamerasGood := by
  refine State.camerasGood_iff.mpr fun i => ?_
  obtain ⟨good, follows⟩ := h i
  rw [cameras i]
  split
  · next mine =>
    obtain ⟨good, track, powered⟩ := power _ good
    refine ⟨good, fun alive => ?_⟩
    rw [powered alive, track, mine]
    exact now.symm
  · next others =>
    refine ⟨good, fun alive => (follows alive).trans ?_⟩
    match track : (s.camera i).track with
    | none => rfl
    | some k =>
      have : k = otherTrack t := by cases k <;> cases t <;> simp_all [otherTrack]
      exact this ▸ other.symm

theorem camerasGood_of_wake {t : TrackId} (h : s.CamerasGood) (awake : (u.channel t).awake = true)
    (other : (u.channel (otherTrack t)).awake = (s.channel (otherTrack t)).awake)
    (cameras : ∀ i, u.camera i = if (s.camera i).track = some t then (s.camera i).powerUp s.ticks else s.camera i) :
    u.CamerasGood :=
  camerasGood_of_power h awake other (fun c good => ⟨Camera.powerUp_good good _, Camera.powerUp_keeps c _⟩) cameras

theorem camerasGood_of_sleep {t : TrackId} (h : s.CamerasGood) (asleep : (u.channel t).awake = false)
    (other : (u.channel (otherTrack t)).awake = (s.channel (otherTrack t)).awake)
    (cameras : ∀ i, u.camera i = if (s.camera i).track = some t then (s.camera i).rested else s.camera i) :
    u.CamerasGood := by
  refine camerasGood_of_power h asleep other (fun c good => ?_) cameras
  obtain ⟨track, powered⟩ := Camera.rested_keeps c
  exact ⟨Camera.rested_good good, track, fun _ => powered⟩

theorem otherTrack_ne (t : TrackId) : otherTrack t ≠ t := by cases t <;> simp [otherTrack]

theorem abortWindow_sameAwake (s : State) (i : Fin 8) : s.SameAwake (s.abortWindow i) := by
  unfold State.abortWindow
  split
  · exact (State.SameAwake.of_eq rfl).trans (handOver_sameAwake (s.updCamera i _) _ _)
  · exact .of_eq rfl

theorem cutCamera_sameAwake (s : State) (i : Fin 8) : s.SameAwake (s.cutCamera i) := by
  unfold State.cutCamera
  dsimp only
  split
  · exact (State.SameAwake.of_eq rfl).trans (handOver_sameAwake (s.updCamera i _) _ _)
  · exact .of_eq rfl

theorem removePower_sameAwake (s : State) (i : Fin 8) : s.SameAwake (s.removePower i) := by
  unfold State.removePower
  split
  · exact (abortWindow_sameAwake s i).trans (cutCamera_sameAwake _ i)
  · exact .of_eq rfl

/-- Power-down closes windows and passages at most, and leaves each track as awake as it is. -/
theorem powerDownTrack_sameAwake (s : State) (t : TrackId) : s.SameAwake (s.powerDownTrack t) :=
  (State.SameAwake.foldl (fun s i => s.removePower i) removePower_sameAwake _ s).trans (.of_eq (restPool_channels _))

/-- A track that leaves IDLE or PASSAGE takes the power of its cameras with it. -/
theorem camerasGood_sleep {t : TrackId} {f : Channel → Channel} (h : s.CamerasGood)
    (asleep : (f (s.channel t)).awake = false) : ((s.updChannel t f).powerDownTrack t).CamerasGood := by
  have same := powerDownTrack_sameAwake (s.updChannel t f) t
  refine camerasGood_of_sleep h ?_ ?_ fun i => powerDownTrack_camera _ t i
  · rw [same t, State.updChannel_same]
    exact asleep
  · rw [same (otherTrack t), State.updChannel_other s f (otherTrack_ne t)]

/-- A track that enters IDLE or PASSAGE has its cameras powered up. -/
theorem camerasGood_wake {t : TrackId} {f : Channel → Channel} (pool : Bool) (h : s.CamerasGood)
    (awake : (f (s.channel t)).awake = true) : (((s.updChannel t f).powerUpCameras t).wakePool pool).CamerasGood := by
  have same : (((s.updChannel t f).powerUpCameras t).wakePool pool).channels = (s.updChannel t f).channels := by simp
  refine camerasGood_of_wake (t := t) h ?_ ?_ fun i => ?_
  · rw [State.channel_eq same, State.updChannel_same]
    exact awake
  · rw [State.channel_eq same, State.updChannel_other s f (otherTrack_ne t)]
  · rw [State.camera_eq (wakePool_cameras _ _), powerUpCameras_camera]
    rfl

/-! ## Every command keeps the cameras good -/

theorem State.CameraTurns.next (h : s.CameraTurns u) (k : s.CamerasGood) : Stays State.CamerasGood (.next u) :=
  Stays.next (h.good k)

theorem updPair_cameraTurns (s : State) (t : TrackId) (r : PairRole) (f : AxlePair → AxlePair) :
    s.CameraTurns (s.updChannel t fun c => c.updPair r f) := updChannel_cameraTurns (by cases r <;> rfl)

theorem newEstimate_cameraTurns (s : State) (t : TrackId) (v : Nat) : s.CameraTurns (s.newEstimate t v) := by
  have taken : s.CameraTurns (s.updChannel t fun c => c.takeSpeed v s.ticks) := updChannel_cameraTurns rfl
  unfold State.newEstimate
  dsimp only
  split
  · exact (taken.trans (tending_cameraTurns.reanchorAll t _ _ _)).trans (tending_cameraTurns.judgeAll t _ _ _)
  · exact taken.trans (tending_cameraTurns.reanchorAll t _ _ _)

theorem judgeMatch_cameraTurns (s : State) (t : TrackId) (r : PairRole) (dt : Nat) :
    s.CameraTurns (s.judgeMatch t r dt) := by
  have noted : s.CameraTurns (s.updPassage t fun p => p.noteSpeed ((s.channel t).frame.spacing r) dt) :=
    updChannel_cameraTurns rfl
  unfold State.judgeMatch
  dsimp only
  split
  · exact .refl s
  · split
    · exact noted.trans ((((updPair_cameraTurns _ t r _).trans (newEstimate_cameraTurns _ t _)).trans
        (tending_cameraTurns.goodUnlessRehearsal _ t _)).trans (tending_cameraTurns.goodUnlessRehearsal _ t _))
    · exact noted.trans (updPair_cameraTurns _ t r _)

theorem orphan_cameraTurns (s : State) (t : TrackId) (r : PairRole) : s.CameraTurns (s.orphan t r) := by
  have reduced : s.CameraTurns (s.updChannel t fun c => c.reduce (orphanOutcome r)) := updChannel_cameraTurns rfl
  exact (reduced.trans (tending_cameraTurns.closeHeads t .cancelled _ _)).trans (.of_eq rfl rfl)

/-- A pulse at its pair changes no camera but by work on the heads of its track. -/
theorem pairPulse_cameraTurns (s : State) (t : TrackId) (w : WheelSensor) (stamp : LocalTime) :
    s.CameraTurns (s.pairPulse t w stamp) := by
  unfold State.pairPulse
  dsimp only
  split
  · exact .refl s
  · split
    · unfold State.firstSensorPulse
      split
      · exact updPair_cameraTurns s t _ _
      · exact tending_cameraTurns.faultUnlessRehearsal s t _
    · unfold State.secondSensorPulse
      dsimp only
      split
      · split
        · exact orphan_cameraTurns s t _
        · exact .refl s
      · split
        · exact (updPair_cameraTurns s t _ _).trans (judgeMatch_cameraTurns _ t _ _)
        · exact updPair_cameraTurns s t _ _

theorem takePulse_cameraTurns (s : State) (t : TrackId) (w : WheelSensor) (stamp : LocalTime) :
    s.CameraTurns (s.takePulse t w stamp) := by
  have counted : s.CameraTurns (s.updChannel t fun c => c.countPulse w s.ticks) := updChannel_cameraTurns rfl
  unfold State.takePulse
  dsimp only
  split
  · exact counted.trans (pairPulse_cameraTurns _ t w stamp)
  · exact counted

theorem openPassage_camerasGood {t : TrackId} (d : Direction) (stamp : LocalTime) (h : s.CamerasGood)
    (quiet : (s.channel t).state = .idle ∨ (s.channel t).state = .dormant) : (s.openPassage t d stamp).CamerasGood := by
  unfold State.openPassage
  dsimp only
  split
  · exact camerasGood_wake _ h rfl
  · next notDormant =>
    have idle : (s.channel t).awake = true := by simp_all [Channel.awake]
    refine State.CameraTurns.good ?_ h
    exact (updChannel_cameraTurns (by rw [idle]; rfl)).trans
      (.of_eq (wakePool_channels _ _) (wakePool_cameras _ _))

theorem disposePulse_camerasGood (t : TrackId) (w : WheelSensor) (stamp : LocalTime) (h : s.CamerasGood) :
    (s.disposePulse t w stamp).CamerasGood := by
  have opening : (s.channel t).state = .idle ∨ (s.channel t).state = .dormant → (s.openingPulse t w stamp).CamerasGood := by
    intro quiet
    unfold State.openingPulse
    split
    · exact (takePulse_cameraTurns _ t w stamp).good (openPassage_camerasGood _ stamp h quiet)
    · exact h
  unfold State.disposePulse
  split
  · exact h
  · exact opening (.inl ‹_›)
  · exact opening (.inr ‹_›)
  · split
    · exact (takePulse_cameraTurns s t w stamp).good h
    · exact h

end Sys2Proof.Machine
end

section
/-! Proofs: requests and resets keep the cameras good. -/

namespace Sys2Proof.Machine

variable {s u v : State}

theorem Settings.cameraTurns (h : Settings s u) : s.CameraTurns u := .of_eq h.channels h.cameras

theorem cutStrobe_sameAwake (s : State) (x : Fin 6) : s.SameAwake (s.cutStrobe x) := by
  unfold State.cutStrobe
  split
  · exact (State.SameAwake.of_eq rfl).trans (flashCut_tends (s.joinQueue x _) _).sameAwake
  · exact .of_eq rfl

theorem cutFiring_sameAwake (s : State) : s.SameAwake s.cutFiring := by
  unfold State.cutFiring
  split
  · exact ((State.SameAwake.of_eq (reopenChoice_channels s)).trans
      (.foldl (fun s x => s.cutStrobe x) cutStrobe_sameAwake _ _)).trans (.of_eq (startCharge_channels _ _))
  · exact .of_eq rfl

theorem reformInhibit_sameAwake (s : State) : s.SameAwake s.reformInhibit := by
  have formed : s.SameAwake { s with inhibit := formInhibit s.inhibits } := .of_eq rfl
  unfold State.reformInhibit
  dsimp only
  split
  · exact formed.trans (cutFiring_sameAwake _)
  · exact formed

/-- The settings that pass the checks of SET CAMERA are in range (R102). -/
theorem configure_settingsGood {body : List Byte} (c : Camera) (h : cameraValuesOk body = true) :
    (c.configure body).SettingsGood := by
  simp only [cameraValuesOk, inRange, Bool.and_eq_true, decide_eq_true_eq] at h
  simp only [Camera.SettingsGood, Camera.configure]
  omega

/-- A camera without power may be given settings in range. -/
theorem Camera.configure_good {c : Camera} {body : List Byte} (h : c.Good) (ok : cameraValuesOk body = true)
    (unpowered : c.powered = false) : (c.configure body).Good := by
  obtain ⟨-, cpwr, ctrg, few, run, off, -⟩ := h
  refine ⟨configure_settingsGood c ok, cpwr, ctrg, few, run, off, fun shot e state => ?_⟩
  have exposing : c.state = .exposing shot e := state
  simp [Camera.powered, exposing] at unpowered

theorem State.offline_not_awake {t : Option TrackId} (h : s.offline t = true) : s.trackAwake t = false := by
  cases t with
  | none => rfl
  | some t => simp_all [State.offline, State.trackAwake, Channel.awake]

theorem handleSetCamera_camerasGood {body : List Byte} (h : s.CamerasGood) : (handleSetCamera body s).state.CamerasGood := by
  unfold handleSetCamera
  split
  · exact h
  · next i _ =>
    split
    · exact h
    · next ok =>
      split
      · next offline =>
        obtain ⟨before, after⟩ := Bool.and_eq_true_iff.mp offline
        refine State.camerasGood_iff.mpr fun j => ?_
        obtain ⟨good, follows⟩ := h j
        simp only [accept, State.updCamera_camera]
        split
        · next same =>
          subst same
          have unpowered : (s.camera j).powered = false := by
            by_cases failed : (s.camera j).state = .failed
            · simp [Camera.powered, failed]
            · exact (follows failed).trans (State.offline_not_awake before)
          exact ⟨Camera.configure_good good (by simpa using ok) unpowered,
            fun _ => unpowered.trans (State.offline_not_awake after).symm⟩
        · exact ⟨good, follows⟩
      · exact h

/-- RESET CAMERA leaves a good camera good, with power where its track is awake (R112). -/
theorem Camera.resetFailure_fits {c : Camera} {awake : Bool} (h : c.FitsTrack awake) (ticks : Nat) :
    (c.resetFailure awake ticks).FitsTrack awake ∧ (c.resetFailure awake ticks).track = c.track := by
  obtain ⟨⟨settings, cpwr, ctrg, few, run, off, exposing⟩, follows⟩ := h
  unfold Camera.resetFailure
  dsimp only
  split
  · next failed =>
    have cleared : ({ c with noReturnRun := 0, state := .off } : Camera).Good :=
      ⟨settings, by simpa [Camera.powered, failed] using cpwr, by simpa [CameraState.code, failed] using ctrg, Nat.zero_le _,
        by simp, fun _ => off (by simp [Camera.powered, failed]), by simp⟩
    split
    · next awake =>
      obtain ⟨track, powered⟩ := Camera.powerUp_keeps { c with noReturnRun := 0, state := .off } ticks
      exact ⟨⟨Camera.powerUp_good cleared ticks, fun alive => (powered alive).trans awake.symm⟩, track⟩
    · next asleep => exact ⟨⟨cleared, fun _ => (Bool.of_not_eq_true asleep).symm⟩, rfl⟩
  · next alive =>
    have notFailed : c.state ≠ .failed := fun failed => alive failed
    exact ⟨⟨⟨settings, cpwr, ctrg, Nat.zero_le _, by simpa using notFailed, off, exposing⟩, follows⟩, rfl⟩

theorem handleResetCamera_camerasGood {body : List Byte} (h : s.CamerasGood) :
    (handleResetCamera body s).state.CamerasGood := by
  unfold handleResetCamera
  split
  · exact h
  · next i _ =>
    refine State.camerasGood_iff.mpr fun j => ?_
    simp only [accept, State.updCamera_camera]
    split
    · obtain ⟨fits, track⟩ := Camera.resetFailure_fits (h j) s.ticks
      rw [track]
      exact fits
    · exact h j

theorem storeSettings_cameraTurns (t : Option TrackId) (ok : Bool) {f : Channel → Channel}
    (same : ∀ c, (f c).awake = c.awake) (s : State) : s.CameraTurns (storeSettings t ok f s).state := by
  unfold storeSettings
  split
  · exact .refl s
  · split
    · exact .refl s
    · split
      · exact .refl s
      · exact updChannel_cameraTurns (same _)

theorem setLocalTime_cameraTurns (s : State) (now : LocalTime) : s.CameraTurns (s.setLocalTime now) :=
  .of_same (fun t => by cases t <;> rfl) rfl

theorem State.CameraTurns.withTracker (h : s.CameraTurns u) (k : Tracker) : s.CameraTurns { u with tracker := k } := h

theorem handleSetTime_cameraTurns (body : List Byte) (s : State) : s.CameraTurns (handleSetTime body s).state := by
  unfold handleSetTime
  dsimp only
  split
  · exact .refl s
  · split
    · exact .refl s
    · exact (setLocalTime_cameraTurns s _).withTracker _

theorem handleRehearse_cameraTurns (body : List Byte) (s : State) : s.CameraTurns (handleRehearse body s).state := by
  unfold handleRehearse
  dsimp only
  split
  · split
    · exact .refl s
    · split
      · exact .refl s
      · split
        · exact .refl s
        · split
          · exact .refl s
          · exact updChannel_cameraTurns rfl
  · exact .refl s

theorem handleSetInhibit_cameraTurns (body : List Byte) (s : State) : s.CameraTurns (handleSetInhibit body s).state := by
  have configured : s.CameraTurns { s with inhibits := configureInhibits body s.inhibits } := .of_eq rfl rfl
  unfold handleSetInhibit
  split
  · exact configured.trans (.of_same (reformInhibit_sameAwake _) (reformInhibit_cameras _))
  · exact .refl s

/-- The requests that neither set a camera nor wake a track or put one to sleep. -/
theorem handle_cameraTurns {k : RequestKind} (body : List Byte) (s : State)
    (h : k ∉ [.setTrackMode, .setCamera, .resetCamera]) : s.CameraTurns (handle k body s).state := by
  cases k with
  | setTrackMode | setCamera | resetCamera => simp at h
  | setTrackGeometry =>
    rw [handle, handleSetTrackGeometry_eq]
    exact storeSettings_cameraTurns _ _ (by intro; rfl) s
  | setTrackTiming =>
    rw [handle, handleSetTrackTiming_eq]
    exact storeSettings_cameraTurns _ _ (by intro; rfl) s
  | setSpeedFilter =>
    rw [handle, handleSetSpeedFilter_eq]
    exact storeSettings_cameraTurns _ _ (by intro; rfl) s
  | setHeadLimits =>
    rw [handle, handleSetHeadLimits_eq]
    exact storeSettings_cameraTurns _ _ (by intro; rfl) s
  | setInhibit => exact handleSetInhibit_cameraTurns body s
  | setTime => exact handleSetTime_cameraTurns body s
  | rehearse => exact handleRehearse_cameraTurns body s
  | _ => exact (handle_settings body s (by simp [RequestKind.reaching])).cameraTurns

theorem goOffline_camerasGood (t : TrackId) (h : s.CamerasGood) : (s.goOffline t).CamerasGood := by
  unfold State.goOffline
  split
  · exact h
  · exact camerasGood_sleep h rfl
  · exact camerasGood_sleep h rfl
  · have begun : s.CameraTurns (s.updChannel t fun c => c.beginAbort s.localTime) := updChannel_cameraTurns rfl
    have aborted : s.CameraTurns (s.abortPassage t) :=
      (begun.trans (tending_cameraTurns.closeHeads t .cancelled _ _)).trans
        (.of_tends (offerPassage_tends _ t _) (offerPassage_records _ t _))
    exact camerasGood_sleep (aborted.good h) rfl

theorem goInService_camerasGood (t : TrackId) (m : Mode) (h : s.CamerasGood) : (s.goInService t m).state.CamerasGood := by
  have woken : (s.wakeTrack t m).CamerasGood := camerasGood_wake _ h rfl
  unfold State.goInService
  split
  · split
    · exact woken
    · exact h
  · next idle =>
    refine State.CameraTurns.good ?_ h
    exact updChannel_cameraTurns (f := fun c => (c.takeMode m).enterIdle s.ticks) (by simp [Channel.awake, idle, Channel.enterIdle])
  · exact woken
  · split <;> exact h

theorem handle_camerasGood (k : RequestKind) (body : List Byte) (s : State) (h : s.CamerasGood) :
    (handle k body s).state.CamerasGood := by
  cases k with
  | setCamera => exact handleSetCamera_camerasGood h
  | resetCamera => exact handleResetCamera_camerasGood h
  | setTrackMode =>
    simp only [handle, handleSetTrackMode]
    split
    · exact goOffline_camerasGood _ h
    · exact goInService_camerasGood _ _ h
    · exact goInService_camerasGood _ _ h
    · exact h
  | _ => exact (handle_cameraTurns body s (by simp)).good h

/-- A camera at its reset settings with its track OFFLINE, whatever exposure it remembers. -/
theorem resetCamera_fits (start : Option Nat) : ({ Camera.reset with lastExposure := start } : Camera).FitsTrack false := by
  refine ⟨⟨by simp [Camera.SettingsGood, Camera.reset], rfl, rfl, by simp [Camera.reset], by simp [Camera.reset],
    fun _ => rfl, by simp [Camera.reset]⟩, fun _ => rfl⟩

theorem pinReset_camerasGood (s : State) (straps : BitVec 2) : (s.pinReset straps).CamerasGood := by
  refine State.camerasGood_iff.mpr fun i => ?_
  have reset : (s.pinReset straps).camera i = Camera.reset := by simp [State.camera, State.pinReset, State.common, State.reset]
  rw [reset]
  exact resetCamera_fits none

theorem restart_camerasGood (s : State) : s.restart.CamerasGood := by
  refine State.camerasGood_iff.mpr fun i => ?_
  have reset : s.restart.camera i = { Camera.reset with lastExposure := (s.camera i).lastExposure } := by
    simp [State.camera, State.restart, Camera.afterRestart]
  rw [reset]
  exact resetCamera_fits _

end Sys2Proof.Machine
end

section
/-! Proofs: every command keeps the cameras good (O57). -/

namespace Sys2Proof.Machine

variable {s u v : State}

theorem execWheelTrailingEdge_cameraTurns (t : TrackId) (w : WheelSensor) (s : State) :
    Stays s.CameraTurns (execWheelTrailingEdge t w s) := by
  have low : s.CameraTurns (s.updChannel t fun c => c.setWheel w { level := false, count := none }) :=
    updChannel_cameraTurns rfl
  refine Stays.next ?_
  dsimp only
  split
  · exact .refl s
  · split
    · unfold State.chatter
      split
      · exact low.trans (tending_cameraTurns.faultUnlessRehearsal _ t _)
      · exact low
    · exact low

theorem execWheelPulseAccepted_camerasGood (t : TrackId) (w : WheelSensor) (h : s.CamerasGood) :
    Stays State.CamerasGood (execWheelPulseAccepted t w s) := by
  have taken : ∀ f : Channel → Channel, (f (s.channel t)).awake = (s.channel t).awake →
      ∀ stamp, ((s.updChannel t f).disposePulse t w stamp).CamerasGood := fun f awake stamp =>
    disposePulse_camerasGood t w stamp ((updChannel_cameraTurns awake).good h)
  refine Stays.next ?_
  dsimp only
  split
  · split
    · exact taken _ rfl _
    · exact h
  · split
    · exact taken _ rfl _
    · exact h

theorem execHeadDetectorEdge_cameraTurns (t : TrackId) (d : Detector) (high : Bool) (s : State) :
    Stays s.CameraTurns (execHeadDetectorEdge t d high s) := by
  refine Stays.next (updChannel_cameraTurns ?_)
  dsimp only
  split <;> rfl

theorem disposeStart_cameraTurns (s : State) (t : TrackId) (d : Detector) : s.CameraTurns (s.disposeStart t d) := by
  unfold State.disposeStart
  dsimp only
  split
  · exact .refl s
  · split
    · split
      · exact updChannel_cameraTurns rfl
      · exact .refl s
    · split
      · exact tending_cameraTurns.judgeDeparture s t
      · exact .refl s

theorem execBlockedStart_cameraTurns (t : TrackId) (d : Detector) (s : State) :
    Stays s.CameraTurns (execBlockedStart t d s) := by
  have settled : s.CameraTurns (s.updChannel t fun c => c.settleDetector d true) := updChannel_cameraTurns rfl
  refine Stays.next ?_
  split
  · exact settled.trans (disposeStart_cameraTurns _ t d)
  · exact .refl s

theorem disposeEnd_cameraTurns (s : State) (t : TrackId) (d : Detector) : s.CameraTurns (s.disposeEnd t d) := by
  have ended : s.CameraTurns (s.updPassage t fun p => { p with approachOpen := none }) := updChannel_cameraTurns rfl
  unfold State.disposeEnd
  dsimp only
  split
  · split
    · exact ended.trans (tending_cameraTurns.judgeInterval _ t _)
    · exact .refl s
  · exact .refl s

theorem execBlockedEnd_cameraTurns (t : TrackId) (d : Detector) (s : State) :
    Stays s.CameraTurns (execBlockedEnd t d s) := by
  have settled : s.CameraTurns (s.updChannel t fun c => c.settleDetector d false) := updChannel_cameraTurns rfl
  refine Stays.next ?_
  split
  · exact settled.trans (disposeEnd_cameraTurns _ t d)
  · exact .refl s

theorem execHeadCrosses_cameraTurns (t : TrackId) (n : Nat) (s : State) : Stays s.CameraTurns (execHeadCrosses t n s) := by
  refine Stays.next ?_
  split
  · split
    · exact tending_cameraTurns.head s t n _
    · exact .refl s
  · exact .refl s

theorem testHead_cameraTurns (s : State) (t : TrackId) (n : Nat) : s.CameraTurns (s.testHead t n) :=
  .of_same (testHead_sameAwake s t n) (testHead_records s t n).cameras

theorem execHeadDeparted_cameraTurns (t : TrackId) (n : Nat) (s : State) :
    Stays s.CameraTurns (execHeadDeparted t n s) := by
  refine Stays.next ?_
  split
  · split
    · exact (tending_cameraTurns.head s t n _).trans (testHead_cameraTurns _ t n)
    · exact .refl s
  · exact .refl s

theorem execTimelineEntryExpiry_cameraTurns (t : TrackId) (n : Nat) (s : State) :
    Stays s.CameraTurns (execTimelineEntryExpiry t n s) := by
  refine Stays.next ?_
  split
  · split
    · exact tending_cameraTurns.expireEntry s t n _
    · exact .refl s
  · exact .refl s

theorem execTriggerRelease_cameraTurns (i : Fin 8) (s : State) : Stays s.CameraTurns (execTriggerRelease i s) := by
  refine Stays.next ?_
  split
  · exact updCamera_turns (.released _)
  · exact .refl s

theorem execCdoneEdge_cameraTurns (i : Fin 8) (s : State) : Stays s.CameraTurns (execCdoneEdge i s) := by
  refine Stays.next ?_
  split
  · next window =>
    have confirmed : s.CameraTurns (s.updCamera i Camera.confirmReturn) := updCamera_turns (.confirmed (by simp [window]))
    exact confirmed.trans (handOver_cameraTurns _ _ _)
  · exact .refl s

theorem updCamera_updCamera (s : State) (i : Fin 8) (f g : Camera → Camera) :
    (s.updCamera i f).updCamera i g = s.updCamera i fun c => g (f c) := by
  simp [State.updCamera, updateAt]

/-- A window that runs out is a miss, and the third in a row a failure (R110). -/
theorem expireWindow_cameraTurns {i : Fin 8} (shot : ShotRef) (window : (s.camera i).confirm ≠ none) :
    s.CameraTurns (s.expireWindow i shot) := by
  unfold State.expireWindow
  dsimp only
  rw [State.updCamera_camera, if_pos rfl]
  split
  · next three =>
    have failed : s.CameraTurns ((s.updCamera i Camera.missReturn).updCamera i Camera.fail) := by
      rw [updCamera_updCamera]
      exact updCamera_turns (.failed three)
    unfold State.failCamera
    refine failed.trans (State.CameraTurns.trans ?_ (.of_eq (State.latch_channels _ _) (State.latch_cameras _ _)))
    split
    · exact handOverBoth_cameraTurns _ _ _ _ _
    · exact handOver_cameraTurns _ _ _
  · next notThree =>
    have missed : s.CameraTurns (s.updCamera i Camera.missReturn) := updCamera_turns (.missed window notThree)
    exact missed.trans (handOver_cameraTurns _ _ _)

theorem execConfirmationWindowExpiry_cameraTurns (i : Fin 8) (s : State) :
    Stays s.CameraTurns (execConfirmationWindowExpiry i s) := by
  refine Stays.next ?_
  split
  · next window =>
    split
    · exact expireWindow_cameraTurns _ (by simp [window])
    · exact .refl s
  · exact .refl s

theorem execRecoveryEnd_cameraTurns (i : Fin 8) (s : State) : Stays s.CameraTurns (execRecoveryEnd i s) := by
  refine Stays.next ?_
  split
  · next due =>
    refine updCamera_turns (.recovered ?_)
    unfold Camera.recoveryDue at due
    split at due <;> simp_all
  · exact .refl s

theorem execStrobePulseEnd_cameraTurns (x : Fin 6) (s : State) : Stays s.CameraTurns (execStrobePulseEnd x s) := by
  refine Stays.next ?_
  split
  · split
    · dsimp only
      split
      · exact .of_eq rfl rfl
      · exact .of_eq (startCharge_channels _ _) (startCharge_cameras _ _)
    · exact .refl s
  · exact .refl s

theorem execInhibitInputEdge_cameraTurns (i : Fin 4) (high : Bool) (s : State) :
    Stays s.CameraTurns (execInhibitInputEdge i high s) := by
  have seen : s.CameraTurns { s with inhibits := updateAt s.inhibits i fun x => { x with level := high } } := .of_eq rfl rfl
  exact Stays.next (seen.trans (.of_same (reformInhibit_sameAwake _) (reformInhibit_cameras _)))

theorem execChargeCompletion_cameraTurns (s : State) : Stays s.CameraTurns (execChargeCompletion s) := by
  refine Stays.next ?_
  split
  · split
    · exact .of_eq (startCharge_channels _ _) (startCharge_cameras _ _)
    · exact .refl s
  · exact .refl s

theorem execClearIntervalExpiry_cameraTurns (t : TrackId) (s : State) :
    Stays s.CameraTurns (execClearIntervalExpiry t s) := by
  have begun : s.SameAwake (s.beginClose t) := by
    have same : (allDetectors.foldl (fun s d => s.stuckTest t d) s).channels = s.channels :=
      foldl_channels _ (fun s d => stuckTest_channels s t d) _ s
    unfold State.beginClose
    exact (((State.SameAwake.of_eq same).trans (updChannel_sameAwake rfl)).trans (.of_eq (State.dropEntries_channels _ t))).trans
      (tending_tends.closeTests t _ _).sameAwake
  obtain ⟨-, out⟩ | ⟨-, finished, out⟩ | ⟨-, -, out⟩ := execClearIntervalExpiry_cases t s
  · exact out ▸ Stays.next (.of_same begun (beginClose_records s t).cameras)
  · exact out ▸ Stays.next (.of_same (completeClose_sameAwake (Bool.and_eq_true_iff.mp finished).1)
      (completeClose_records s t).cameras)
  · exact out ▸ Stays.next (.refl s)

theorem execDormantDelayExpiry_camerasGood (t : TrackId) (h : s.CamerasGood) :
    Stays State.CamerasGood (execDormantDelayExpiry t s) := by
  refine Stays.next ?_
  split
  · exact camerasGood_sleep h rfl
  · exact h

theorem execStalenessExpiry_cameraTurns (t : TrackId) (s : State) : Stays s.CameraTurns (execStalenessExpiry t s) := by
  have frozen : s.CameraTurns (s.updChannel t fun c => { c with speed := c.speed.freeze, staleTimer := none }) :=
    updChannel_cameraTurns rfl
  refine Stays.next ?_
  split
  · exact frozen.trans (tending_cameraTurns.reanchorAll t 0 _ _)
  · exact .refl s

theorem State.CameraTurns.latched (h : s.CameraTurns u) (e : Event) : s.CameraTurns (u.latch e) := h

theorem execRefEdge_cameraTurns (rising : Bool) (s : State) : Stays s.CameraTurns (execRefEdge rising s) := by
  have judged : s.CameraTurns s.judgeEdge := by
    unfold State.judgeEdge
    split
    · exact .refl s
    · exact ((setLocalTime_cameraTurns s _).withTracker _).latched _
  refine Stays.next ?_
  split
  · exact .refl s
  · split
    · exact .refl s
    · exact judged
    · unfold State.measureEdge
      split <;> exact .of_eq rfl rfl
    · exact judged

theorem execWindowClose_cameraTurns (s : State) : Stays s.CameraTurns (execWindowClose s) := by
  refine Stays.next ?_
  split
  · unfold State.closeWindow State.missWindow
    split
    · exact .of_eq rfl rfl
    · dsimp only
      split <;> exact .of_eq rfl rfl
  · exact .refl s

theorem execRehearsalEdgeDelivery_cameraTurns (t : TrackId) (s : State) :
    Stays s.CameraTurns (execRehearsalEdgeDelivery t s) := by
  refine Stays.next ?_
  split
  · next e _ =>
    have delivered : s.CameraTurns (s.updChannel t fun c => c.deliver e s.localTime s.ticks) := by
      refine updChannel_cameraTurns ?_
      unfold Channel.deliver Channel.applyEdge
      split
      · split <;> rfl
      · rfl
    unfold State.deliver
    dsimp only
    split
    · exact delivered.latched _
    · exact delivered
  · exact .refl s

theorem advance_cameraTurns (s : State) : s.CameraTurns s.advance := by
  refine .of_eq (advance_channels s) ?_
  unfold State.advance State.tick
  split <;> rfl

theorem State.CamerasGood.stays {o : Host.Outcome State Fault Refusal} (h : s.CamerasGood) (k : Stays s.CameraTurns o) :
    Stays State.CamerasGood o := fun u next => (k u next).good h

theorem steady_camerasGood : Steady State.CamerasGood where
  queue _ _ _ h := h
  link _ _ h := h
  attention _ _ h := h
  advance s h := (advance_cameraTurns s).good h
  handled := handle_camerasGood
  restart s _ := restart_camerasGood s
  pinReset straps s _ := pinReset_camerasGood s straps
  wheelLeadingEdge t w s h := by
    refine Stays.next ?_
    split
    · exact h
    · exact (updChannel_cameraTurns rfl).good h
  wheelTrailingEdge t w s h := h.stays (execWheelTrailingEdge_cameraTurns t w s)
  wheelPulseAccepted t w _ h := execWheelPulseAccepted_camerasGood t w h
  headDetectorEdge t d high s h := h.stays (execHeadDetectorEdge_cameraTurns t d high s)
  blockedStart t d s h := h.stays (execBlockedStart_cameraTurns t d s)
  blockedEnd t d s h := h.stays (execBlockedEnd_cameraTurns t d s)
  headCrosses t n s h := h.stays (execHeadCrosses_cameraTurns t n s)
  headDeparted t n s h := h.stays (execHeadDeparted_cameraTurns t n s)
  timelineEntryExpiry t n s h := h.stays (execTimelineEntryExpiry_cameraTurns t n s)
  triggerRelease i s h := h.stays (execTriggerRelease_cameraTurns i s)
  cdoneEdge i s h := h.stays (execCdoneEdge_cameraTurns i s)
  confirmationWindowExpiry i s h := h.stays (execConfirmationWindowExpiry_cameraTurns i s)
  recoveryEnd i s h := h.stays (execRecoveryEnd_cameraTurns i s)
  warmUpEnd i s h := h.stays (Stays.next (updCamera_turns (.warmed s.ticks)))
  strobePulseEnd x s h := h.stays (execStrobePulseEnd_cameraTurns x s)
  inhibitInputEdge i high s h := h.stays (execInhibitInputEdge_cameraTurns i high s)
  chargeCompletion s h := h.stays (execChargeCompletion_cameraTurns s)
  clearIntervalExpiry t s h := h.stays (execClearIntervalExpiry_cameraTurns t s)
  dormantDelayExpiry t _ h := execDormantDelayExpiry_camerasGood t h
  stalenessExpiry t s h := h.stays (execStalenessExpiry_cameraTurns t s)
  refEdge rising s h := h.stays (execRefEdge_cameraTurns rising s)
  windowClose s h := h.stays (execWindowClose_cameraTurns s)
  rehearsalEdgeDelivery t s h := h.stays (execRehearsalEdgeDelivery_cameraTurns t s)

/-- Settles O57: a command makes turns of cameras, or gives power to the cameras of a track that wakes and takes it from
those of a track that falls asleep. -/
theorem camerasStayGood : Obligations.CamerasStayGood := steady_camerasGood.kept

end Sys2Proof.Machine
end

section
/-! Proofs: the reset, the track settings and READ TRACK (O9, O14, O19, O54). -/

namespace Sys2Proof.Machine

variable {s u v : State}

/-! ## The reset -/

@[simp] theorem State.reset_camera (i : Fin 8) : State.reset.camera i = Camera.reset := by
  simp [State.camera, State.reset]

@[simp] theorem State.reset_strobe (x : Fin 6) : State.reset.strobe x = Strobe.reset := by
  simp [State.strobe, State.reset]

theorem State.reset_channel (t : TrackId) : State.reset.channel t = Channel.reset := by cases t <;> rfl

theorem Channel.reset_good : Channel.reset.QueuesGood ∧ Channel.reset.HeadsGood ∧ Channel.reset.TimersGood
    ∧ Channel.reset.SpeedsGood ∧ Channel.reset.InputsGood := by
  refine ⟨?_, ?_, ?_, ?_, ?_⟩
  · simp [Channel.QueuesGood, AxlePair.Good, Channel.reset, AxlePair.reset]
  · simp [Channel.HeadsGood, Channel.reset, Passage.reset]
  · simp [Channel.TimersGood, Channel.reset]
  · simp [Channel.SpeedsGood, Channel.reset, Speed.estimate, Passage.reset]
  · exact Channel.atRest_inputsGood (c := Channel.reset) rfl rfl rfl rfl

theorem State.reset_camerasGood : State.reset.CamerasGood := by
  intro i
  rw [State.reset_camera]
  exact ⟨by simp [Camera.Good, Camera.SettingsGood, Camera.reset, Camera.powered, CameraState.code],
    by simp [State.CameraFollowsTrack, Camera.reset, Camera.powered, State.trackAwake]⟩

theorem State.reset_strobesGood : State.reset.StrobesGood := by
  refine ⟨List.nodup_nil, fun x => ?_, ⟨rfl, rfl⟩, fun x => ?_, rfl, fun _ x => ?_⟩
  · have state : (State.reset.strobe x).state = .off ∧ (State.reset.strobe x).sfire = false := by
      rw [State.reset_strobe]
      exact ⟨rfl, rfl⟩
    simp only [State.StrobeGood, state.1, state.2]
    simp [StrobeState.code, State.reset]
  · rw [State.reset_strobe]
    exact ⟨fun _ => rfl, fun _ => rfl⟩
  · simp [Strobe.reset]

/-- Settles O54: in the state after a reset each invariant is a fact about reset values, block by block. -/
theorem resetIsGood : Obligations.ResetIsGood := by
  obtain ⟨queues, heads, timers, speeds, inputs⟩ := Channel.reset_good
  refine ⟨⟨queues, queues⟩, ⟨heads, heads⟩, ⟨timers, timers⟩, ⟨speeds, speeds⟩, ⟨inputs, inputs⟩, ?_, ?_, ?_,
    State.reset_camerasGood, State.reset_strobesGood, ?_, ?_, ?_, ?_, ?_⟩
  · have entered (t : TrackId) : State.reset.HeadsEntered t := by
      simp [State.HeadsEntered, State.reset_channel, Channel.reset]
    exact ⟨List.nodup_nil, by simp [State.reset], entered .t1, entered .t2⟩
  · simp [State.OfferedGood, State.offeredOf, State.reset, Store.reset]
  · simp [State.OfferedGood, State.offeredOf, State.reset, Store.reset]
  · simp [State.HealthGood, State.reset, Health.Good, Health.reset, healthOfScore, top32]
  · simp [Tracker.Good, State.reset, Tracker.reset]
  · simp [Store.Good, State.reset, Store.reset, RecordNumber]
  · simp [Link.Good, State.reset, Link.reset]
  · simp [Attention.Good, State.reset, Attention.reset, Attention.unmasked]

/-- The combined inhibit is active where an input is (R123). -/
theorem formInhibit_iff (v : Vector InhibitInput 4) : formInhibit v = true ↔ ∃ i : Fin 4, v[i].active = true := by
  simp [formInhibit, mem_allInhibits]

theorem State.common_channel (s : State) (baud : BitVec 2) (t : TrackId) :
    (s.common baud).channel t = (s.channel t).afterReset := by cases t <;> rfl

theorem State.common_inhibits (s : State) (baud : BitVec 2) (i : Fin 4) :
    (s.common baud).inhibits[i] = { level := s.inhibits[i].level, enabled := true, activeHigh := false } := by
  revert i
  simp [Fin.forall_fin_succ, State.common, updateAt, InhibitInput.afterReset, InhibitInput.reset]

theorem State.common_inhibit (s : State) (baud : BitVec 2) :
    (s.common baud).inhibit = true ↔ ∃ i : Fin 4, s.inhibits[i].level = false := by
  change formInhibit (s.common baud).inhibits = true ↔ _
  rw [formInhibit_iff]
  refine exists_congr fun i => ?_
  rw [State.common_inhibits]
  simp [InhibitInput.active]

/-- What both resets leave alike, as the statements say it. -/
theorem afterReset_common (s : State) (baud : BitVec 2) : AfterReset s (s.common baud) := by
  refine ⟨State.common_channel s baud, rfl, ?_, rfl, rfl, rfl, rfl, rfl, rfl, State.common_inhibits s baud,
    State.common_inhibit s baud, rfl, rfl, rfl, ⟨rfl, rfl⟩, rfl, rfl, rfl, rfl⟩
  rintro (_ | _) (_ | _) <;> rfl

/-- Settles O9. -/
theorem pinResetSetsEveryBlock : Obligations.PinResetSetsEveryBlock := fun straps s =>
  ⟨s.pinReset straps, rfl, afterReset_common s straps, rfl, rfl, rfl, rfl, rfl, State.reset_camera⟩

/-! ## Track settings -/

theorem trackOfCode_code (t : TrackId) : trackOfCode (trackCode t) = some t := by cases t <;> rfl

theorem trackOfCode_none {n : Nat} (h : ¬(n = 1 ∨ n = 2)) : trackOfCode n = none := by
  unfold trackOfCode
  split <;> simp_all

/-- A configuration request whose kind stores settings is judged by their range, then by the state of the track. -/
theorem judged_of_store {k : RequestKind} {body : List Byte} {t : TrackId} {ok : Bool} {values : Prop} {f : Channel → Channel}
    (idle : s.LinkIdle) (fits : body.length ≤ 248) (length : body.length = k.requiredLength body) (kind : k ≠ .restart)
    (handled : handle k body s = storeSettings (trackOfCode (field body 0 1)) ok f s) (range : ok = true ↔ values)
    (code : field body 0 1 = trackCode t) :
    Judged k body s values ((s.channel t).state = .offline) (s.updChannel t f) [] := by
  have stores : handle k body s = storeSettings (some t) ok f s := by rw [handled, code, trackOfCode_code]
  refine judged_of_handle idle fits length kind (fun bad => ?_) (fun good wrong => ?_) (fun good offline => ?_) rfl
  · rw [stores]
    simp [storeSettings, mt range.mp bad]
  · rw [stores]
    simp [storeSettings, range.mpr good, wrong]
  · rw [stores]
    simp [storeSettings, range.mpr good, offline]

theorem badValue_of_store {k : RequestKind} {body : List Byte} {ok : Bool} {f : Channel → Channel}
    (idle : s.LinkIdle) (fits : body.length ≤ 248) (length : body.length = k.requiredLength body) (kind : k ≠ .restart)
    (handled : handle k body s = storeSettings (trackOfCode (field body 0 1)) ok f s)
    (code : ¬(field body 0 1 = 1 ∨ field body 0 1 = 2)) : Answers k body s s .badValue [] := by
  refine answers_of_handle idle fits length kind ?_ rfl
  rw [handled, trackOfCode_none code]
  rfl

theorem Geometry.ok_iff (g : Geometry) : g.ok = true ↔
    -200000 ≤ g.wao ∧ g.wao < g.wai ∧ g.wai < g.hda ∧ g.hda < 0 ∧ 0 < g.hdb ∧ g.hdb < g.wbi ∧ g.wbi < g.wbo
    ∧ g.wbo ≤ 200000 ∧ 2000 ≤ g.wai - g.wao ∧ g.wai - g.wao ≤ 30000 ∧ 2000 ≤ g.wbo - g.wbi ∧ g.wbo - g.wbi ≤ 30000
    ∧ -40000 ≤ g.hda ∧ g.hda ≤ -2000 ∧ 2000 ≤ g.hdb ∧ g.hdb ≤ 40000 ∧ 1000 ≤ g.hda - g.wai ∧ 1000 ≤ g.wbi - g.hdb := by
  simp only [Geometry.ok, positionOk, inRangeInt, Bool.and_eq_true, decide_eq_true_eq]
  constructor
  · intro h
    omega
  · intro h
    omega

theorem inRange_iff {low high x : Nat} : inRange low high x = true ↔ low ≤ x ∧ x ≤ high := by simp [inRange]

/-- Settles O14: the four configuration requests store settings in range in an OFFLINE track. -/
theorem trackSettingsAreStored : Obligations.TrackSettingsAreStored := by
  refine ⟨fun s t body idle length => ⟨?_, ?_⟩, fun s t body idle => ⟨?_, ?_, ?_, fun none => ⟨?_, ?_, ?_⟩⟩⟩
  · intro code
    refine judged_of_store idle (by omega) length (by simp) (handleSetTrackGeometry_eq body s) ?_ code
    rw [Bool.and_eq_true, Geometry.ok_iff, inRange_iff]
    simp only [and_assoc]
    rfl
  · exact badValue_of_store idle (by omega) length (by simp) (handleSetTrackGeometry_eq body s)
  · intro length
    refine judged_of_store idle (by omega) length (by simp) (handleSetTrackTiming_eq body s) ?_
    simp [inRange_iff, and_assoc]
  · intro length
    refine judged_of_store idle (by omega) length (by simp) (handleSetSpeedFilter_eq body s) ?_
    simp [inRange_iff, and_assoc]
  · intro length
    refine judged_of_store idle (by omega) length (by simp) (handleSetHeadLimits_eq body s) ?_
    simp [inRange_iff, and_assoc]
  · exact fun length => badValue_of_store idle (by omega) length (by simp) (handleSetTrackTiming_eq body s) none
  · exact fun length => badValue_of_store idle (by omega) length (by simp) (handleSetSpeedFilter_eq body s) none
  · exact fun length => badValue_of_store idle (by omega) length (by simp) (handleSetHeadLimits_eq body s) none

/-! ## The snapshot of a track (R19) -/

@[simp] theorem length_toBytes (n x : Nat) : (toBytes n x).length = n := by
  induction n generalizing x with
  | zero => rfl
  | succ n ih => simp [toBytes, ih]

theorem field_toBytes (n x : Nat) (rest : List Byte) : field (toBytes n x ++ rest) 0 n = x % 256 ^ n := by
  simp [field, fromBytes_toBytes]

theorem field_byte (x : Nat) (rest : List Byte) : field (BitVec.ofNat 8 x :: rest) 0 1 = x % 256 := by
  simp [field, fromBytes]

theorem field_cons (b : Byte) (rest : List Byte) (offset n : Nat) :
    field (b :: rest) (offset + 1) n = field rest offset n := by simp [field]

/-- A field that stands behind the first part of the bytes. -/
theorem field_behind {a b : List Byte} {offset : Nat} (n : Nat) (h : a.length ≤ offset) :
    field (a ++ b) offset n = field b (offset - a.length) n := by
  simp [field, List.drop_append, List.drop_eq_nil_of_le h]

/-- A field within the first part of the bytes. -/
theorem field_within {a b : List Byte} {offset n : Nat} (h : offset + n ≤ a.length) :
    field (a ++ b) offset n = field a offset n := by
  rw [field, field, List.drop_append_of_le_length (by omega), List.take_append_of_le_length (by simp; omega)]

/-- A field of the `i`th of equally long entries. -/
theorem field_flatMap {α : Type} {f : α → List Byte} {size : Nat} (length : ∀ x, (f x).length = size) {l : List α}
    {i offset n : Nat} (h : i < l.length) (fits : offset + n ≤ size) :
    field (l.flatMap f) (size * i + offset) n = field (f l[i]) offset n := by
  induction l generalizing i with
  | nil => simp at h
  | cons x rest ih =>
    rw [List.flatMap_cons]
    cases i with
    | zero => simpa using field_within (by rw [length]; omega)
    | succ i =>
      rw [field_behind n (by rw [length, Nat.mul_succ]; omega), length,
        show size * (i + 1) + offset - size = size * i + offset by rw [Nat.mul_succ]; omega]
      exact ih (by simpa using h)

theorem length_flatMap_bytes {α : Type} {f : α → List Byte} {size : Nat} (length : ∀ x, (f x).length = size) (l : List α) :
    (l.flatMap f).length = size * l.length := by
  rw [List.length_flatMap]
  simp [length, Nat.mul_comm]

theorem Head.length_bytes (h : Head) : h.bytes.length = 9 := by simp [Head.bytes, optTimeBytes, timeBytes]

theorem Channel.length_bytes (c : Channel) : c.bytes.length = 17 + 9 * c.heads.length := by
  simp only [Channel.bytes, List.length_append, length_flatMap_bytes Head.length_bytes, length_toBytes, List.length_cons,
    List.length_nil]

/-- The fields of a snapshot before its heads. -/
theorem Channel.bytes_fields (c : Channel) : field c.bytes 0 1 = c.state.code % 256
    ∧ field c.bytes 2 1 = (c.mode.map Mode.code).getD 0 % 256
    ∧ field c.bytes 3 2 = c.passage.number % 65536
    ∧ field c.bytes 5 1 = directionCode c.passage.direction % 256 ∧ field c.bytes 6 1 = c.passage.outcome.code % 256
    ∧ field c.bytes 7 1 = c.speed.code % 256 ∧ field c.bytes 8 4 = c.speed.estimate.getD 0 % 4294967296
    ∧ field c.bytes 12 1 = c.approach.state.code % 256 ∧ field c.bytes 13 1 = c.departure.state.code % 256
    ∧ field c.bytes 14 1 = c.approach.queue.length % 256 ∧ field c.bytes 15 1 = c.departure.queue.length % 256
    ∧ field c.bytes 16 1 = c.heads.length % 256 := by
  simp only [Channel.bytes, List.append_assoc, List.cons_append, List.nil_append]
  simp [field_cons, field_byte, field_toBytes, field_behind]

/-- The fields of a head in a snapshot. -/
theorem Head.bytes_fields (h : Head) : field h.bytes 0 1 = h.index % 256 ∧ field h.bytes 1 1 = h.status.code % 256
    ∧ field h.bytes 2 1 = h.predicted.isSome.toNat ∧ field h.bytes 3 6 = (h.predicted.getD 0#48).toNat := by
  have time : field h.bytes 3 6 = (h.predicted.getD 0#48).toNat % 256 ^ 6 := field_toBytes 6 _ []
  have bound := (h.predicted.getD 0#48).isLt
  have known : field h.bytes 2 1 = fromBytes [boolByte h.predicted.isSome] := rfl
  refine ⟨field_byte _ _, field_byte _ _, known.trans ?_, by omega⟩
  cases h.predicted <;> rfl

theorem packBits_five (a b c d e : Bool) : (packBits [a, b, c, d, e]).toNat.testBit 0 = a
    ∧ (packBits [a, b, c, d, e]).toNat.testBit 1 = b ∧ (packBits [a, b, c, d, e]).toNat.testBit 2 = c
    ∧ (packBits [a, b, c, d, e]).toNat.testBit 3 = d ∧ (packBits [a, b, c, d, e]).toNat.testBit 4 = e := by
  revert a b c d e
  decide

/-- Settles O19: the reply is the snapshot of the track, field by field. -/
theorem readTrackReportsASnapshot : Obligations.ReadTrackReportsASnapshot := by
  intro s t body idle length c
  have fits : body.length ≤ 248 := by omega
  refine ⟨fun code => ?_, fun code => ⟨c.bytes, ?_, c.length_bytes, ?_⟩⟩
  · refine answers_of_handle idle fits length (by simp) ?_ rfl
    simp [handle, handleReadTrack, trackOfCode_none code, refuse]
  · refine answers_of_handle idle fits length (by simp) ?_ rfl
    simp [handle, handleReadTrack, code, trackOfCode_code, accept, c]
  · obtain ⟨state, mode, number, direction, outcome, speed, estimate, approach, departure, queue, queue', heads⟩ :=
      c.bytes_fields
    refine ⟨?_, ?_, ?_, number, ?_, ?_, ?_, estimate, ?_, ?_, queue, queue', heads, fun i h => ?_⟩
    · rw [state]
      cases c.state <;> rfl
    · simpa [Channel.bytes, fromBytes, Passage.hasOpened] using packBits_five c.mode.isSome c.passage.hasOpened
        c.speed.estimate.isSome c.closing c.geometryValid
    · rw [mode]
      rcases c.mode with _ | _ | _ <;> rfl
    · rw [direction]
      cases c.passage.direction <;> rfl
    · rw [outcome]
      cases c.passage.outcome <;> rfl
    · rw [speed]
      cases c.speed <;> rfl
    · rw [approach]
      cases c.approach.state <;> rfl
    · rw [departure]
      cases c.departure.state <;> rfl
    · have entry (k n : Nat) (fits : k + n ≤ 9) : field c.bytes (17 + k + 9 * i) n = field c.heads[i].bytes k n := by
        rw [Channel.bytes, field_behind n (by simp; omega), ← field_flatMap Head.length_bytes h fits]
        congr 1
        simp
        omega
      obtain ⟨index, status, known, predicted⟩ := c.heads[i].bytes_fields
      have code : c.heads[i].status.code % 256 = c.heads[i].status.code := by cases c.heads[i].status <;> rfl
      exact ⟨(entry 0 1 (by omega)).trans index, (entry 1 1 (by omega)).trans (status.trans code),
        (entry 2 1 (by omega)).trans known, (entry 3 6 (by omega)).trans predicted⟩

end Sys2Proof.Machine
end

section
/-! Proofs: what power does to the strobe pool and the cameras, and a track that wakes. -/

namespace Sys2Proof.Machine

variable {s u v : State}

/-! ## What power changes beside the channels -/

/-- Only channels, cameras, strobes, charge queue and charger may differ. -/
def Powers (s u : State) : Prop :=
  u = { s with
    channels := u.channels, cameras := u.cameras, strobes := u.strobes, chargeQueue := u.chargeQueue,
    charger := u.charger, chgEn := u.chgEn, chgSel := u.chgSel }

theorem Powers.refl (s : State) : Powers s s := rfl

theorem Powers.trans (h : Powers s u) (k : Powers u v) : Powers s v := by
  unfold Powers at *
  rw [k, h]

theorem Powers.updChannel (s : State) (t : TrackId) (f : Channel → Channel) : Powers s (s.updChannel t f) := rfl

theorem Powers.updCamera (s : State) (i : Fin 8) (f : Camera → Camera) : Powers s (s.updCamera i f) := rfl

theorem Powers.foldl {α : Type} (f : State → α → State) (h : ∀ s x, Powers s (f s x)) (l : List α) (s : State) :
    Powers s (l.foldl f s) := by
  induction l generalizing s with
  | nil => exact .refl s
  | cons x rest ih => exact (h s x).trans (ih _)

theorem powerUpCameras_powers (s : State) (t : TrackId) : Powers s (s.powerUpCameras t) :=
  .foldl _ (fun s i => .updCamera s i _) _ s

theorem startCharge_powers (s : State) (joins : Option Nat) : Powers s (s.startCharge joins) := by
  obtain ⟨h, -⟩ | ⟨front, rest, -, -, h⟩ := startCharge_cases s joins
  · rw [h]; rfl
  · rw [h]; rfl

theorem joinOffStrobes_powers (l : List (Fin 6)) (s : State) : Powers s (s.joinOffStrobes l) := by
  induction l generalizing s with
  | nil => exact .refl s
  | cons x rest ih =>
    refine Powers.trans ?_ (ih _)
    split <;> rfl

theorem wakePool_powers (s : State) (awake : Bool) : Powers s (s.wakePool awake) := by
  unfold State.wakePool
  split
  · exact .refl s
  · exact (joinOffStrobes_powers _ s).trans (startCharge_powers _ _)

theorem restPool_powers (s : State) : Powers s s.restPool := by
  unfold State.restPool
  split <;> rfl

/-! ## The pool wakes (R119, R127, R128) -/

@[simp] theorem joinQueue_strobe (s : State) (x y : Fin 6) (lastPulse : Option Nat) :
    (s.joinQueue x lastPulse).strobe y
      = if y = x then { s.strobe y with state := .empty, sfire := false, lastPulse := lastPulse } else s.strobe y :=
  State.updStrobe_strobe s x y _

theorem beginCharge_strobe (s : State) (joins : Option Nat) (x y : Fin 6) :
    (s.beginCharge joins x).strobe y = if y = x then { s.strobe y with state := .charging } else s.strobe y :=
  State.updStrobe_strobe s x y _

/-- Different strobes that are OFF join the queue in turn. -/
theorem joinOffStrobes_of_off (l : List (Fin 6)) (different : l.Nodup) (s : State) (off : ∀ x ∈ l, (s.strobe x).state = .off) :
    (∀ x, (s.joinOffStrobes l).strobe x
      = if x ∈ l then { s.strobe x with state := .empty, sfire := false, lastPulse := none } else s.strobe x)
    ∧ (s.joinOffStrobes l).chargeQueue = s.chargeQueue ++ l.map (fun x => ({ strobe := x, joined := s.ticks } : QueueMember))
    ∧ (s.joinOffStrobes l).charger = s.charger := by
  induction l generalizing s with
  | nil => simp [State.joinOffStrobes]
  | cons x rest ih =>
    obtain ⟨new, different⟩ := List.nodup_cons.mp different
    have joins : s.joinOffStrobes (x :: rest) = (s.joinQueue x none).joinOffStrobes rest := by
      rw [State.joinOffStrobes, if_pos (off x List.mem_cons_self)]
    obtain ⟨strobes, queue, charger⟩ := ih different (s.joinQueue x none) fun y h => by
      have : y ≠ x := fun same => new (same ▸ h)
      simpa [this] using off y (List.mem_cons_of_mem x h)
    rw [joins]
    refine ⟨fun y => ?_, queue.trans (by simp [State.joinQueue]), charger⟩
    rw [strobes, joinQueue_strobe]
    by_cases same : y = x
    · simp [same, new]
    · simp [same]

/-- With an empty timeline, members that join at one tick stand by number. -/
theorem queueOrder_joined {n : Nat} (timeline : s.timeline = [])
    (queue : s.chargeQueue = allStrobes.map fun x => { strobe := x, joined := n }) :
    ∃ rest, s.queueOrder = { strobe := 0, joined := n } :: rest := by
  have need (x : Fin 6) : s.needTime x = none := by simp [State.needTime, timeline]
  have order (x y : Fin 6) : s.chargesBefore { strobe := x, joined := n } { strobe := y, joined := n } = decide (x < y) := by
    simp [State.chargesBefore, need]
  rw [State.queueOrder, queue]
  simp [allStrobes, sortBy, sortBy.insertFirst, order]

theorem allStrobes_nodup : allStrobes.Nodup := by decide

/-- The pool wakes where no track was awake, however channels and cameras have changed meanwhile. -/
theorem wakePool_woken (powers : Powers s u) (pool : u.strobes = s.strobes ∧ u.chargeQueue = s.chargeQueue ∧ u.charger = s.charger
    ∧ u.chgEn = s.chgEn ∧ u.chgSel = s.chgSel) : PoolWoken s (u.wakePool s.anyAwake) := by
  obtain ⟨strobes, queue, charger, en, sel⟩ := pool
  have timeline : u.timeline = s.timeline := by rw [powers]
  have ticks : u.ticks = s.ticks := by rw [powers]
  have strobe (x : Fin 6) : u.strobe x = s.strobe x := by rw [State.strobe, strobes, State.strobe]
  refine ⟨fun awake => ?_, fun asleep bare off empty free => ?_⟩
  · simp [State.wakePool, awake, strobes, queue, charger, en, sel]
  · obtain ⟨joined, members, charger'⟩ := joinOffStrobes_of_off allStrobes allStrobes_nodup u fun x _ => by rw [strobe, off]
    have rest := joinOffStrobes_powers allStrobes u
    generalize state : u.joinOffStrobes allStrobes = w at joined members charger' rest
    have ticks' : w.ticks = s.ticks := by rw [rest]; exact ticks
    have timeline' : w.timeline = [] := by rw [rest]; exact timeline.trans bare
    have members' : w.chargeQueue = allStrobes.map fun x => { strobe := x, joined := s.ticks } := by
      rw [members, queue, empty, ticks, List.nil_append]
    obtain ⟨behind, order⟩ := queueOrder_joined timeline' members'
    have wakes : u.wakePool s.anyAwake = w.beginCharge (some s.ticks) 0 := by
      rw [State.wakePool, asleep, if_neg (by simp), State.powerUpPool, state, State.startCharge, charger', charger, free,
        order, ticks]
      rfl
    have first : w.strobe 0 = { s.strobe 0 with state := .empty, sfire := false, lastPulse := none } := by
      rw [joined, if_pos (mem_allStrobes 0), strobe]
    rw [wakes]
    refine ⟨fun x => ?_, ?_, ?_, rfl, rfl⟩
    · rw [beginCharge_strobe, joined, if_pos (mem_allStrobes x), strobe]
      split <;> rfl
    · change w.chargeQueue.filter _ = _
      rw [members']
      rfl
    · rw [beginCharge_charger, ticks', first]
      rfl

/-! ## Cameras wake (R104, R105) -/

theorem Camera.powerUp_eq (c : Camera) (ticks : Nat) : c.powerUp ticks
    = if c.state = .off then
        { c with
          state := if c.warmUp = 0 ∧ ∀ e ∈ c.lastExposure, e + c.recovery ≤ ticks then .ready else .warming ticks
          cpwr := true }
      else c := by
  have due : Camera.warmUpDue { c with state := .warming ticks, cpwr := true } ticks = true
      ↔ c.warmUp = 0 ∧ ∀ e ∈ c.lastExposure, e + c.recovery ≤ ticks := by
    cases c.lastExposure <;> simp [Camera.warmUpDue, Camera.recovered, ticksPerMs]
  by_cases off : c.state = .off
  · rw [if_pos off, Camera.powerUp, off]
    dsimp only [Camera.endWarmUp]
    by_cases h : Camera.warmUpDue { c with state := .warming ticks, cpwr := true } ticks = true
    · rw [if_pos h, if_pos (due.mp h)]
    · rw [if_neg h, if_neg (mt due.mpr h)]
  · rw [if_neg off, Camera.powerUp]
    split
    · exact absurd ‹_› off
    · rfl

theorem powerUpCameras_woken (same : u.cameras = s.cameras) (ticks : u.ticks = s.ticks) (t : TrackId) :
    CamerasWoken s (u.powerUpCameras t) t := by
  intro i
  rw [powerUpCameras_camera, State.camera_eq same, ticks, Camera.powerUp_eq]
  by_cases track : (s.camera i).track = some t <;> by_cases off : (s.camera i).state = .off <;> simp [track, off]

theorem CamerasWoken.of_eq {t : TrackId} (h : CamerasWoken s u t) (same : v.cameras = u.cameras) : CamerasWoken s v t :=
  fun i => (State.camera_eq same i).trans (h i)

/-- Power-up of the cameras leaves the pool alone. -/
theorem powerUpCameras_pool (s : State) (t : TrackId) : let u := s.powerUpCameras t
    u.strobes = s.strobes ∧ u.chargeQueue = s.chargeQueue ∧ u.charger = s.charger ∧ u.chgEn = s.chgEn
    ∧ u.chgSel = s.chgSel := by
  have keeps (l : List (Fin 8)) (s : State) : let u := l.foldl (fun s i => s.updCamera i fun c => c.powerUp s.ticks) s
      u.strobes = s.strobes ∧ u.chargeQueue = s.chargeQueue ∧ u.charger = s.charger ∧ u.chgEn = s.chgEn
      ∧ u.chgSel = s.chgSel := by
    induction l generalizing s with
    | nil => exact ⟨rfl, rfl, rfl, rfl, rfl⟩
    | cons i rest ih => exact ih _
  exact keeps _ s

/-! ## Entering service and waking (R3, R4, R7) -/

/-- What waking a track does. -/
theorem wakeTrack_woken (s : State) (t : TrackId) (m : Mode) :
    Powers s (s.wakeTrack t m) ∧ (s.wakeTrack t m).channel t = ((s.channel t).takeMode m).enterIdle s.ticks
    ∧ (s.wakeTrack t m).channel (otherTrack t) = s.channel (otherTrack t) ∧ CamerasWoken s (s.wakeTrack t m) t
    ∧ PoolWoken s (s.wakeTrack t m) := by
  have channels : (s.wakeTrack t m).channels = (s.updChannel t fun c => (c.takeMode m).enterIdle s.ticks).channels := by
    simp [State.wakeTrack]
  refine ⟨((Powers.updChannel s t _).trans (powerUpCameras_powers _ t)).trans (wakePool_powers _ _), ?_, ?_, ?_, ?_⟩
  · rw [State.channel_eq channels, State.updChannel_same]
  · rw [State.channel_eq channels, State.updChannel_other _ _ (otherTrack_ne t)]
  · exact (powerUpCameras_woken (s := s) (u := s.updChannel t _) rfl rfl t).of_eq (wakePool_cameras _ _)
  · exact wakePool_woken ((Powers.updChannel s t _).trans (powerUpCameras_powers _ t)) (powerUpCameras_pool _ t)

end Sys2Proof.Machine
end

section
/-! Proofs: SET TRACK MODE, and a quiet track that loses its power (O15, O16, O17). -/

namespace Sys2Proof.Machine

variable {s u v : State} {t : TrackId} {m : Mode} {body : List Byte}

/-! ## SET TRACK MODE, case by case (R2 to R5) -/

theorem handleSetTrackMode_offline (track : field body 0 1 = trackCode t) (target : field body 1 1 = 0) :
    handle .setTrackMode body s = accept (s.goOffline t) [] := by
  simp [handle, handleSetTrackMode, track, target, trackOfCode_code]

theorem handleSetTrackMode_service (track : field body 0 1 = trackCode t) (target : field body 1 1 = m.code) :
    handle .setTrackMode body s = s.goInService t m := by
  cases m <;> simp [handle, handleSetTrackMode, track, target, trackOfCode_code, Mode.code]

theorem handleSetTrackMode_none (h : ¬(field body 0 1 = 1 ∨ field body 0 1 = 2) ∨ 2 < field body 1 1) :
    handle .setTrackMode body s = refuse s .badValue := by
  change handleSetTrackMode body s = _
  unfold handleSetTrackMode
  split
  · next t track target => rcases h with h | h <;> simp_all [trackOfCode_none]
  · next t track target => rcases h with h | h <;> simp_all [trackOfCode_none]
  · next t track target => rcases h with h | h <;> simp_all [trackOfCode_none]
  · rfl

/-- A request of two bytes is answered by what its meaning says. -/
theorem setTrackMode_answers {status : Status} {fields : List Byte} (idle : s.LinkIdle) (length : body.length = 2)
    (handled : handle .setTrackMode body s = ⟨u, status, fields⟩) (ticks : u.ticks = s.ticks) :
    Answers .setTrackMode body s u status fields :=
  answers_of_handle idle (by omega) (by simp [length, RequestKind.requiredLength]) (by simp) handled ticks

theorem Powers.ticks (h : Powers s u) : u.ticks = s.ticks := by rw [h]

theorem camerasAssigned_iff (s : State) (t : TrackId) : s.camerasAssigned t = true
    ↔ ∀ d p camera strobe, (s.binding t d).plan = some p → Step.expose camera strobe ∈ s.plans[p] →
      (s.camera camera).track = some t := by
  have bound (p : Fin 4) : p ∈ s.boundPlans t ↔ ∃ d, (s.binding t d).plan = some p := by
    constructor
    · intro h
      rcases List.mem_append.mp h with h | h
      · exact ⟨.ab, Option.mem_toList.mp h⟩
      · exact ⟨.ba, Option.mem_toList.mp h⟩
    · rintro ⟨_ | _, h⟩
      · exact List.mem_append_left _ (Option.mem_toList.mpr h)
      · exact List.mem_append_right _ (Option.mem_toList.mpr h)
  simp only [State.camerasAssigned, List.all_eq_true, bound]
  constructor
  · intro h d p camera strobe plan step
    simpa using h p ⟨d, plan⟩ _ step
  · rintro h p ⟨d, plan⟩ (_ | _ | ⟨camera, strobe⟩ | _) step
    all_goals simp
    exact h d p camera strobe plan step

/-- An update depends on what it makes of the channel as it stands. -/
theorem State.updChannel_congr {f g : Channel → Channel} (h : f (s.channel t) = g (s.channel t)) :
    s.updChannel t f = s.updChannel t g := by
  simp only [State.updChannel, State.channel] at h ⊢
  rw [h]

/-- Settles O15. -/
theorem setTrackModeEntersService : Obligations.SetTrackModeEntersService := by
  intro s t m body idle length c ready
  have ready_iff : ready ↔ ((s.channel t).geometryValid && s.camerasAssigned t) = true := by
    rw [Bool.and_eq_true, camerasAssigned_iff]
  refine ⟨fun bad => setTrackMode_answers idle length (handleSetTrackMode_none bad) rfl, fun track target offline mode =>
    ⟨fun unready => ?_, fun good => ?_⟩⟩
  · refine setTrackMode_answers idle length ?_ rfl
    rw [handleSetTrackMode_service track target, State.goInService, offline]
    exact if_neg (mt ready_iff.mpr unready)
  · obtain ⟨powers, channel, other, cameras, pool⟩ := wakeTrack_woken s t m
    refine ⟨s.wakeTrack t m, setTrackMode_answers idle length ?_ powers.ticks, powers, ?_, other, cameras, pool⟩
    · rw [handleSetTrackMode_service track target, State.goInService, offline]
      exact if_pos (ready_iff.mp good)
    · rw [channel, Channel.takeMode, if_neg (by simp [c, mode])]
      rfl

/-- Settles O16. -/
theorem setTrackModeInService : Obligations.SetTrackModeInService := by
  intro s t m body idle length track target c timer taken
  have handled := handleSetTrackMode_service (s := s) track target
  have takes : (c.takeMode m).enterIdle s.ticks = { taken with state := .idle, dormantTimer := timer } := by
    have same : c.takeMode m = taken := rfl
    have delay : taken.dormantDelay = c.dormantDelay := by
      unfold taken
      split <;> rfl
    simp only [Channel.enterIdle, Channel.dormantStart, same, delay]
    rfl
  refine ⟨fun state => ?_, fun state => ?_, fun state same => ?_, fun state other => ?_⟩
  · refine setTrackMode_answers idle length ?_ rfl
    rw [handled, State.goInService, state]
    refine congrArg (accept · []) (State.updChannel_congr (takes.trans ?_))
    have keeps : taken.state = c.state := by
      unfold taken
      split <;> rfl
    rw [keeps.trans state]
  · obtain ⟨powers, channel, other, cameras, pool⟩ := wakeTrack_woken s t m
    refine ⟨s.wakeTrack t m, setTrackMode_answers idle length ?_ powers.ticks, powers, channel.trans takes, other, cameras,
      pool⟩
    rw [handled, State.goInService, state]
    rfl
  · refine setTrackMode_answers idle length ?_ rfl
    rw [handled, State.goInService, state]
    exact if_pos same
  · refine setTrackMode_answers idle length ?_ rfl
    rw [handled, State.goInService, state]
    exact if_neg other

/-! ## Power goes (R5, R6, R106, R120) -/

theorem shotHeadOpen_eq (h : u.channels = s.channels) (r : ShotRef) : u.shotHeadOpen r = s.shotHeadOpen r := by
  simp only [State.shotHeadOpen, State.findHead, State.channel_eq h]

/-- A result for a head that has closed goes nowhere (R111). -/
theorem handOver_closed {r : ShotRef} (closed : s.shotHeadOpen r = false) (result : Confirmation) : s.handOver r result = s := by
  simp [State.handOver, State.settleResult, State.testShotHead, closed]

/-- Only the cameras may differ. -/
def CamerasOnly (s u : State) : Prop := u = { s with cameras := u.cameras }

theorem CamerasOnly.trans (h : CamerasOnly s u) (k : CamerasOnly u v) : CamerasOnly s v := by
  unfold CamerasOnly at *
  rw [k, h]

theorem CamerasOnly.channels (h : CamerasOnly s u) : u.channels = s.channels := by rw [h]

/-- No camera in the list works for a head that is open. -/
def State.Unworked (s : State) (l : List (Fin 8)) : Prop := ∀ i ∈ l, ∀ r ∈ (s.camera i).openShots, s.shotHeadOpen r = false

theorem mem_openShots_window {c : Camera} {w : ConfirmWindow} (h : c.confirm = some w) : w.shot ∈ c.openShots := by
  simp [Camera.openShots, h]

theorem mem_openShots_exposing {c : Camera} {shot : ShotRef} {e : Nat} (h : c.state = .exposing shot e) :
    shot ∈ c.openShots := by
  simp [Camera.openShots, h]

theorem abortWindow_quiet {i : Fin 8} (quiet : s.Unworked [i]) : CamerasOnly s (s.abortWindow i) := by
  unfold State.abortWindow
  split
  · next w window =>
    have closed := (shotHeadOpen_eq (State.updCamera_channels (s := s) (i := i) (f := fun c => { c with confirm := none })) _).trans
      (quiet i (by simp) _ (mem_openShots_window window))
    rw [handOver_closed closed]
    rfl
  · rfl

theorem cutCamera_quiet {i : Fin 8} (quiet : s.Unworked [i]) : CamerasOnly s (s.cutCamera i) := by
  unfold State.cutCamera
  dsimp only
  split
  · next shot e exposing =>
    rw [handOver_closed]
    · rfl
    · exact (shotHeadOpen_eq (by simp) _).trans (quiet i (by simp) _ (mem_openShots_exposing exposing))
  · rfl

theorem removePower_quiet {i : Fin 8} (quiet : s.Unworked [i]) : CamerasOnly s (s.removePower i) := by
  unfold State.removePower
  split
  · have only := abortWindow_quiet quiet
    refine only.trans (cutCamera_quiet fun j h r open_ => ?_)
    obtain rfl : j = i := by simpa using h
    rw [shotHeadOpen_eq only.channels]
    refine quiet j (by simp) r ?_
    rw [abortWindow_camera, if_pos rfl] at open_
    simp only [Camera.openShots, List.append_nil] at open_ ⊢
    exact List.mem_append_left _ open_
  · rfl

theorem foldl_removePower_quiet (l : List (Fin 8)) (different : l.Nodup) (s : State) (quiet : s.Unworked l) :
    CamerasOnly s (l.foldl (fun s i => s.removePower i) s) := by
  induction l generalizing s with
  | nil => rfl
  | cons i rest ih =>
    obtain ⟨new, different⟩ := List.nodup_cons.mp different
    have only := removePower_quiet (s := s) (i := i) fun j h => quiet j (by simp_all)
    refine only.trans (ih different _ fun j h r open_ => ?_)
    have other : j ≠ i := fun same => new (same ▸ h)
    rw [shotHeadOpen_eq only.channels]
    refine quiet j (List.mem_cons_of_mem i h) r ?_
    rwa [removePower_camera, if_neg other] at open_

theorem powerDownCameras_quiet (quiet : s.Unworked (s.camerasOf t)) : CamerasOnly s (s.powerDownCameras t) :=
  foldl_removePower_quiet _ (camerasOf_nodup s t) s quiet

/-! ## The pool and the cameras of a track that falls asleep -/

theorem Camera.rested_eq (c : Camera) : c.rested
    = if c.state ≠ .off ∧ c.state ≠ .failed then { c with state := .off, cpwr := false, ctrg := false, confirm := none }
      else c := by
  unfold Camera.rested Camera.powered
  cases h : c.state <;> simp

theorem powerDownTrack_rested (same : u.cameras = s.cameras) (t : TrackId) : CamerasRested s (u.powerDownTrack t) t := by
  intro i
  rw [powerDownTrack_camera, State.camera_eq same, Camera.rested_eq]
  by_cases track : (s.camera i).track = some t <;> simp [track]

/-- The awake state of a sleeping track's pool is the other track's. -/
theorem anyAwake_of_asleep (asleep : (s.channel t).awake = false) : s.anyAwake = (s.channel (otherTrack t)).awake := by
  cases t
  · have : s.channels.t1.awake = false := asleep
    simp [State.anyAwake, this, otherTrack, State.channel, PerTrack.get]
  · have : s.channels.t2.awake = false := asleep
    simp [State.anyAwake, this, otherTrack, State.channel, PerTrack.get]

theorem restPool_rested (asleep : (u.channel t).awake = false)
    (other : (u.channel (otherTrack t)).awake = (s.channel (otherTrack t)).awake)
    (pool : u.strobes = s.strobes ∧ u.chargeQueue = s.chargeQueue ∧ u.charger = s.charger ∧ u.chgEn = s.chgEn
      ∧ u.chgSel = s.chgSel) : PoolRested s u.restPool t := by
  unfold PoolRested State.restPool
  rw [anyAwake_of_asleep asleep, other]
  split
  · exact pool
  · refine ⟨fun x => ?_, rfl, rfl, rfl, rfl⟩
    simp [State.powerDownPool, State.strobe, pool.1]

/-- A track of which no camera works for an open head falls asleep in a channel of its own. -/
theorem powerDownTrack_quiet {f : Channel → Channel} (asleep : (f (s.channel t)).awake = false)
    (outside : (f (s.channel t)).state ≠ .passage)
    (quiet : ∀ i, (s.camera i).track = some t → ∀ r ∈ (s.camera i).openShots, s.shotHeadOpen r = false) :
    let u := (s.updChannel t f).powerDownTrack t
    Powers s u ∧ u.channel (otherTrack t) = s.channel (otherTrack t) ∧ CamerasRested s u t ∧ PoolRested s u t
      ∧ u.channel t = f (s.channel t) := by
  have unworked : (s.updChannel t f).Unworked ((s.updChannel t f).camerasOf t) := by
    intro i h r open_
    have closed := quiet i (mem_camerasOf.mp h) r open_
    by_cases same : r.track = t
    · simp [State.shotHeadOpen, same, outside]
    · simpa [State.shotHeadOpen, State.findHead, same] using closed
  have only := powerDownCameras_quiet unworked
  have channels : ((s.updChannel t f).powerDownTrack t).channels = (s.updChannel t f).channels := by
    simp [State.powerDownTrack, only.channels]
  refine ⟨?_, ?_, powerDownTrack_rested rfl t, ?_, ?_⟩
  · refine ((Powers.updChannel s t f).trans ?_).trans (restPool_powers _)
    rw [only]
    rfl
  · rw [State.channel_eq channels, State.updChannel_other _ _ (otherTrack_ne t)]
  · refine restPool_rested ?_ ?_ ?_
    · rw [State.channel_eq only.channels, State.updChannel_same, asleep]
    · rw [State.channel_eq only.channels, State.updChannel_other _ _ (otherTrack_ne t)]
    · rw [only]
      exact ⟨rfl, rfl, rfl, rfl, rfl⟩
  · rw [State.channel_eq channels, State.updChannel_same]

/-- Settles O17. -/
theorem quietTrackLosesItsPower : Obligations.QuietTrackLosesItsPower := by
  intro s t c rested
  refine ⟨fun offline idle body length track target => ?_, fun quiet => ⟨fun state idle body length track target => ?_,
    fun state d timer due => ?_⟩, fun early => ?_⟩
  · refine setTrackMode_answers idle length ?_ rfl
    rw [handleSetTrackMode_offline track target, State.goOffline, offline]
    rfl
  · obtain ⟨powers, other, cameras, pool, channel⟩ := powerDownTrack_quiet (s := s) (t := t) (f := Channel.leaveService) rfl
      (by simp [Channel.leaveService]) quiet
    refine ⟨s.leaveService t, setTrackMode_answers idle length ?_ powers.ticks, ⟨powers, other, cameras, pool⟩, ?_⟩
    · rw [handleSetTrackMode_offline track target, State.goOffline]
      rcases state with state | state
      all_goals rw [state]; rfl
    · rw [State.leaveService, channel]
      simp [Channel.leaveService, Channel.endPassage, Channel.emptyQueues, Channel.inputsAtRest, Generator.cleared, c]
  · obtain ⟨powers, other, cameras, pool, channel⟩ := powerDownTrack_quiet (s := s) (t := t)
      (f := fun c => { c with state := .dormant, dormantTimer := none }) rfl (by simp) quiet
    refine ⟨_, ?_, ⟨powers, other, cameras, pool⟩, channel⟩
    have runs : (s.channel t).dormantDue s.ticks = true := by
      simp [Channel.dormantDue, state, timer, timerDue, due, c]
    change execDormantDelayExpiry t s = _
    rw [execDormantDelayExpiry, if_pos runs]
  · have waits : ¬(s.channel t).dormantDue s.ticks = true := by
      rcases early with early | early
      · simp [Channel.dormantDue, early, c]
      · cases timer : c.dormantTimer with
        | none => simp [Channel.dormantDue, timer, timerDue, c]
        | some d => simp [Channel.dormantDue, timer, timerDue, c, early d timer]
    change execDormantDelayExpiry t s = _
    rw [execDormantDelayExpiry, if_neg waits]

end Sys2Proof.Machine
end

section
/-! Proofs: pulses that are counted or ignored, and the one that opens a passage (O24, O25). -/

namespace Sys2Proof.Machine

variable {s u v p : State} {t : TrackId} {w : WheelSensor} {stamp : LocalTime} {d : Direction}

/-! ## Pulses that are accepted (R24, R163) -/

/-- Taking a pulse out of its count changes inputs alone. -/
theorem State.Accepts.updates (h : s.Accepts t w stamp p) :
    ∃ wheels synthetic, p = s.updChannel t fun c => { c with wheels := wheels, synthetic := synthetic } := by
  rcases h with ⟨-, -, rfl⟩ | ⟨-, x, ahead, behind, -, -, -, -, -, rfl⟩
  · exact ⟨_, (s.channel t).synthetic, State.updChannel_congr rfl⟩
  · exact ⟨(s.channel t).wheels, _, State.updChannel_congr rfl⟩

theorem duePulse_eq {c : Channel} {x : SyntheticPulse} {ahead behind : List SyntheticPulse} {ticks : Nat}
    (synthetic : c.synthetic = ahead ++ x :: behind) (sensor : x.sensor = w) (due : x.accepts ≤ ticks)
    (first : ∀ y ∈ ahead, ¬(y.sensor = w ∧ y.accepts ≤ ticks)) : c.duePulse w ticks = some x := by
  rw [Channel.duePulse, synthetic, List.find?_append, List.find?_eq_none.mpr (by simpa using first)]
  simp [sensor, due]

/-- An accepted pulse is disposed of, out of its count. -/
theorem execWheelPulseAccepted_of (h : s.Accepts t w stamp p) :
    Completes (.wheelPulseAccepted t w) s (p.disposePulse t w stamp) := by
  change execWheelPulseAccepted t w s = _
  rw [execWheelPulseAccepted]
  rcases h with ⟨mode, ⟨n, count, due⟩, rfl⟩ | ⟨mode, x, ahead, behind, synthetic, sensor, rfl, due, first, rfl⟩
  · have accepted : (s.channel t).acceptedStamp w s.ticks = some stamp := by
      simp [Channel.acceptedStamp, WheelInput.due, timerDue, count, due]
    simp only [mode, accepted]
    rfl
  · have other : x ∉ ahead := fun h => first x h ⟨sensor, due⟩
    have dropped : (s.channel t).synthetic.erase x = ahead ++ behind := by
      rw [synthetic, List.erase_append_right _ other, List.erase_cons_head]
    simp only [mode, duePulse_eq synthetic sensor due first, if_true]
    rw [State.updChannel_congr (g := fun c => { c with synthetic := ahead ++ behind })]
    simp [Channel.dropPulse, dropped]

theorem disposePulse_opening (quiet : (s.channel t).state = .idle ∨ (s.channel t).state = .dormant) :
    s.disposePulse t w stamp = s.openingPulse t w stamp := by
  rcases quiet with state | state <;> simp [State.disposePulse, state]

theorem disposePulse_closing (state : (s.channel t).state = .passage) (closed : (s.channel t).passage.closed ≠ none) :
    s.disposePulse t w stamp = s := by
  have : (s.channel t).passage.closed.isNone = false := by simpa [Option.isSome_iff_ne_none] using closed
  simp [State.disposePulse, state, Channel.counting, this]

theorem disposePulse_counting (counting : (s.channel t).Counting) : s.disposePulse t w stamp = s.takePulse t w stamp := by
  simp [State.disposePulse, Channel.counting, counting.1, counting.2]

theorem satSucc_eq (top n : Nat) : satSucc top n = min top (n + 1) := by
  unfold satSucc
  split <;> omega

theorem countPulse_counted (s : State) (t : TrackId) (w : WheelSensor) :
    (s.updChannel t fun c => c.countPulse w s.ticks) = s.counted t w := by
  simp [State.counted, Channel.countPulse, satSucc_eq, top16, ticksPerMs]

/-- A pulse that finds nothing to match and nothing to enter is counted alone (R13, R32, R34). -/
theorem takePulse_counted (h : let c := s.channel t
      let role := sensorRole c.passage.direction w
      c.passage.outcome ≠ .normal ∨ (c.pair role.1).state = .out
        ∨ (role.2 = false ∧ (c.pair role.1).state = .slipped ∧ (c.pair role.1).queue = [])) :
    s.takePulse t w stamp = s.counted t w := by
  have counted := countPulse_counted s t w
  have keeps (r : PairRole) : ((s.counted t w).channel t).pair r = (s.channel t).pair r := by
    rw [State.counted, State.updChannel_same]
    cases r <;> rfl
  have direction : ((s.counted t w).channel t).passage.direction = (s.channel t).passage.direction := by
    rw [State.counted, State.updChannel_same]
  dsimp only [State.takePulse]
  rw [counted]
  rcases h with abnormal | out | ⟨second, slipped, empty⟩
  · rw [if_neg abnormal]
  · have : (s.counted t w).pairPulse t w stamp = s.counted t w := by
      rw [State.pairPulse, direction, keeps, if_pos out]
    rw [this, ite_self]
  · have : (s.counted t w).pairPulse t w stamp = s.counted t w := by
      rw [State.pairPulse, direction, keeps, if_neg (by simp [slipped]), second, if_neg (by simp), State.secondSensorPulse]
      simp [keeps, empty, slipped]
    rw [this, ite_self]

/-! ## Which event is taken next (R16, log entry 37) -/

theorem mem_choicesNow_of_idle {e : Instr} (h : s.idle.pending = [e]) (due : s.choicesNow ≠ []) : e ∈ s.choicesNow := by
  unfold State.idle at h
  split at h
  · exact absurd ‹_› due
  · simp_all
  · next first rest _ choices =>
    have inside : Config.freeChoice s.choices % (rest.length + 1) < (first :: rest).length := Nat.mod_lt _ (Nat.succ_pos _)
    rw [choices]
    obtain rfl : _ = e := by simpa using h
    rw [← List.getD_eq_getElem?_getD, List.getD_eq_getElem _ _ inside]
    exact List.getElem_mem inside

theorem pulseDue_of_accepts (h : s.Accepts t w stamp p) : (s.channel t).pulseDue w s.ticks = true := by
  rcases h with ⟨mode, ⟨n, count, due⟩, -⟩ | ⟨mode, x, ahead, behind, synthetic, sensor, -, due, first, -⟩
  · simp [Channel.pulseDue, mode, Channel.acceptedStamp, WheelInput.due, timerDue, count, due]
  · simp [Channel.pulseDue, mode, duePulse_eq synthetic sensor due first]

theorem mem_dueEvents_pulse (h : (s.channel t).pulseDue w s.ticks = true) : .wheelPulseAccepted t w ∈ s.dueEvents := by
  have sensors : Instr.wheelPulseAccepted t w ∈ s.dueSensorEvents t :=
    List.mem_append_left _ (List.mem_append_left _ (List.mem_flatMap.mpr ⟨w, mem_allSensors w, by simp [whenDue, h]⟩))
  refine List.mem_append_left _ (List.mem_append_left _ (List.mem_append_left _ (List.mem_flatMap.mpr ⟨t, mem_allTracks t, ?_⟩)))
  exact List.mem_append_left _ (List.mem_append_left _ sensors)

/-- The last step of a close is not chosen while a pulse of the track is due. -/
theorem clearInterval_not_chosen (ended : (s.channel t).closeOver = true) (pulse : .wheelPulseAccepted t w ∈ s.dueEvents) :
    .clearIntervalExpiry t ∉ s.choicesNow ∧ s.choicesNow ≠ [] := by
  have waits : s.closeWaits t = true :=
    List.any_eq_true.mpr ⟨_, pulse, by simp [mem_allSensors]⟩
  have free : Instr.wheelPulseAccepted t w
      ∈ s.dueEvents.filter fun event => !allTracks.any fun k => s.lastStepWaits k event :=
    List.mem_filter.mpr ⟨pulse, by simp [State.lastStepWaits]⟩
  have barred : Instr.clearIntervalExpiry t
      ∉ s.dueEvents.filter fun event => !allTracks.any fun k => s.lastStepWaits k event := fun h => by
    have := (List.mem_filter.mp h).2
    simp only [Bool.not_eq_true', List.any_eq_false] at this
    exact this t (mem_allTracks t) (by simp [State.lastStepWaits, ended, waits])
  unfold State.choicesNow
  split
  · next none => exact absurd free (by simp [none])
  · exact ⟨barred, List.ne_nil_of_mem free⟩

/-- What taking a pulse out of its count leaves of its track. -/
theorem State.Accepts.keeps (h : s.Accepts t w stamp p) : (p.channel t).state = (s.channel t).state
    ∧ (p.channel t).passage = (s.channel t).passage ∧ (p.channel t).approach = (s.channel t).approach
    ∧ (p.channel t).departure = (s.channel t).departure := by
  obtain ⟨wheels, synthetic, rfl⟩ := h.updates
  rw [State.updChannel_same]
  exact ⟨rfl, rfl, rfl, rfl⟩

/-- Settles O24. -/
theorem pulsesIgnoredOrOnlyCounted : Obligations.PulsesIgnoredOrOnlyCounted := by
  refine ⟨fun s p t w stamp accepts => ⟨fun ignored => ?_, fun counting alone => ?_⟩, fun s t w real synthetic => ?_,
    fun s p u t w stamp accepts state closed empty pending steps => ?_⟩
  · obtain ⟨state, passage, -, -⟩ := accepts.keeps
    refine (execWheelPulseAccepted_of accepts).trans (congrArg Host.Outcome.next ?_)
    rcases ignored with ⟨quiet, inner⟩ | ⟨inside, closing⟩
    · rw [disposePulse_opening (by rw [state]; exact quiet)]
      rcases inner with rfl | rfl <;> rfl
    · exact disposePulse_closing (state.trans inside) (by rw [passage]; exact closing)
  · obtain ⟨state, passage, approach, departure⟩ := accepts.keeps
    refine (execWheelPulseAccepted_of accepts).trans (congrArg Host.Outcome.next ?_)
    have pair (r : PairRole) : (p.channel t).pair r = (s.channel t).pair r := by
      cases r <;> simp [Channel.pair, approach, departure]
    rw [disposePulse_counting (by rw [Channel.Counting, state, passage]; exact counting)]
    refine takePulse_counted ?_
    dsimp only
    rw [passage, pair]
    exact alone
  · change execWheelPulseAccepted t w s = _
    have none : (s.channel t).duePulse w s.ticks = none := by
      simp only [Channel.duePulse, List.find?_eq_none]
      intro x h
      simpa using synthetic x h
    have quiet : (s.channel t).acceptedStamp w s.ticks = Option.none := by
      unfold Channel.acceptedStamp WheelInput.due
      cases count : ((s.channel t).wheels.get w).count with
      | none => rfl
      | some n => simp [timerDue, real n.1 n.2 count]
    simp only [execWheelPulseAccepted, none, quiet, ite_self]
  · have ended : (s.channel t).closeOver = true := by
      simp [Channel.closeOver, Channel.closing, state, empty, Option.isSome_iff_ne_none, closed]
    obtain ⟨barred, some⟩ := clearInterval_not_chosen ended (mem_dueEvents_pulse (pulseDue_of_accepts accepts))
    obtain rfl : s.idle = u := by simpa [step, pending] using steps
    exact fun queued => barred (mem_choicesNow_of_idle queued some)

/-! ## The outer pulse of a quiet track (R9, R10) -/

/-- The first pulse of a passage as the model takes it: counted, and entered in the approach queue unless the pair is OUT. -/
def Channel.firstPulse (c : Channel) (w : WheelSensor) (ticks : Nat) (stamp : LocalTime) : Channel :=
  { c.countPulse w ticks with
    approach := { c.approach with queue := if c.approach.state = .out then [] else [stamp] } }

theorem takePulse_first (outer : openingDirection w = some d) (direction : (s.channel t).passage.direction = d)
    (normal : (s.channel t).passage.outcome = .normal) (empty : (s.channel t).approach.queue = []) :
    s.takePulse t w stamp = s.updChannel t fun c => c.firstPulse w s.ticks stamp := by
  have role : sensorRole d w = (.approach, true) := by
    cases w <;> simp [openingDirection] at outer <;> subst outer <;> rfl
  have pair : ((s.updChannel t fun c => c.countPulse w s.ticks).channel t).pair .approach = (s.channel t).approach := by
    rw [State.updChannel_same]
    rfl
  have direction' : ((s.updChannel t fun c => c.countPulse w s.ticks).channel t).passage.direction = d := by
    rw [State.updChannel_same]
    exact direction
  dsimp only [State.takePulse]
  rw [if_pos normal, State.pairPulse, direction', role]
  by_cases out : (s.channel t).approach.state = .out
  · rw [if_pos (by rw [pair]; exact out)]
    refine State.updChannel_congr ?_
    simp only [Channel.firstPulse, if_pos out, ← empty]
    rfl
  · rw [if_neg (by rw [pair]; exact out), if_pos rfl, State.firstSensorPulse, pair, empty, if_pos (by decide),
      State.updChannel_updChannel]
    refine State.updChannel_congr ?_
    simp [Channel.firstPulse, Channel.updPair, out, Channel.countPulse, empty]

theorem anyAwake_updChannel {f : Channel → Channel} (h : (f (s.channel t)).awake = (s.channel t).awake) :
    (s.updChannel t f).anyAwake = s.anyAwake := by
  cases t
  · exact congrArg (· || _) h
  · exact congrArg (_ || ·) h

/-- What power does as a passage opens: from DORMANT to the cameras of the track, and to the pool where no track was
awake. -/
theorem openPassage_woken (s : State) (t : TrackId) (d : Direction) (stamp : LocalTime) : let u := s.openPassage t d stamp
    Powers s u ∧ ((s.channel t).state = .dormant → CamerasWoken s u t)
    ∧ ((s.channel t).state ≠ .dormant → u.cameras = s.cameras) ∧ PoolWoken s u := by
  unfold State.openPassage
  dsimp only
  by_cases dormant : (s.channel t).state = .dormant
  · have powered := (Powers.updChannel s t (s.openChannel t d stamp)).trans (powerUpCameras_powers _ t)
    rw [if_pos dormant]
    exact ⟨powered.trans (wakePool_powers _ _),
      fun _ => (powerUpCameras_woken (s := s) (u := s.updChannel t (s.openChannel t d stamp)) rfl rfl t).of_eq (wakePool_cameras _ _),
      fun h => absurd dormant h,
      wakePool_woken powered (powerUpCameras_pool _ t)⟩
  · rw [if_neg dormant]
    exact ⟨(Powers.updChannel s t _).trans (wakePool_powers _ _), fun h => absurd h dormant, fun _ => wakePool_cameras _ _,
      wakePool_woken (Powers.updChannel s t _) ⟨rfl, rfl, rfl, rfl, rfl⟩⟩

/-- Whether the pool wakes does not look at the channels beyond the tracks that are awake. -/
theorem PoolWoken.of_updChannel {f : Channel → Channel} (h : PoolWoken (s.updChannel t f) u)
    (awake : (f (s.channel t)).awake = (s.channel t).awake) : PoolWoken s u := by
  unfold PoolWoken at h
  rw [anyAwake_updChannel awake] at h
  exact h

/-- The channel of a passage after its first pulse. -/
theorem openChannel_firstPulse (s : State) (t : TrackId) (w : WheelSensor) (d : Direction) (stamp : LocalTime) :
    let c := s.channel t
    let out := fun r => s.health[wheelIndex t (pairSensors d r).1].state = .excluded
      ∨ s.health[wheelIndex t (pairSensors d r).2].state = .excluded
    (s.openChannel t d stamp c).firstPulse w s.ticks stamp =
      { c with
        state := .passage
        passage :=
          { number := if c.passage.number < 65535 then c.passage.number + 1 else 1, direction := d, opened := stamp,
            closed := none, outcome := .normal, rehearsal := decide (c.mode = some .rehearsal), overspeed := false,
            counts := (⟨0, 0, 0, 0⟩ : PerSensor Nat).set w 1, accepted := 0, rejected := 0, dropped := 0, captured := 0,
            missed := 0, lost := 0, lastIndex := 0, estimates := none,
            approachInUse := decide (s.health[detectorIndex t (approachDetector d)].state ≠ .excluded),
            departureInUse := decide (s.health[detectorIndex t (departureDetector d)].state ≠ .excluded),
            approachOpen := none }
        approach :=
          { state := if out .approach then .out else .normal, queue := if out .approach then [] else [stamp],
            implausible := 0 }
        departure := { state := if out .departure then .out else .normal, queue := [], implausible := 0 }
        window := []
        speed := .absent
        dormantTimer := none
        staleTimer := none
        clearTimer := some (s.ticks + c.clearInterval * 1000) } := by
  intro c out
  have pair (r : PairRole) : s.pairAtOpen t d r = if out r then .out else .normal := by simp [State.pairAtOpen, out]
  have none_ (r : PairRole) : (if out r then PairState.out else .normal) = .out ↔ out r := by
    by_cases h : out r <;> simp [h]
  have counted : satSucc top16 ((⟨0, 0, 0, 0⟩ : PerSensor Nat).get w) = 1 := by cases w <;> rfl
  have used (x : Detector) : s.inUseAtOpen t x = decide (s.health[detectorIndex t x].state ≠ .excluded) := by
    simp [State.inUseAtOpen, bne, beq_eq_decide]
  simp only [Channel.firstPulse, Channel.countPulse, State.openChannel, State.freshPassage, pair, none_, counted, used]
  rfl

/-- Settles O25. -/
theorem outerPulseOpensAPassage : Obligations.OuterPulseOpensAPassage := by
  intro s p t w stamp d accepts c quiet outer out
  have opening : openingDirection w = some d := by rcases outer with ⟨rfl, rfl⟩ | ⟨rfl, rfl⟩ <;> rfl
  have disposed := execWheelPulseAccepted_of accepts
  obtain ⟨wheels, synthetic, rfl⟩ := accepts.updates
  let f := fun c : Channel => { c with wheels := wheels, synthetic := synthetic }
  let o := (s.updChannel t f).openPassage t d stamp
  obtain ⟨powers, woken, same, pool⟩ := openPassage_woken (s.updChannel t f) t d stamp
  have channel : o.channel t = (s.updChannel t f).openChannel t d stamp ((s.updChannel t f).channel t) := by
    rw [State.channel_eq (openPassage_channels _ t d stamp), State.updChannel_same]
  have ticks : o.ticks = s.ticks := powers.ticks
  have first : o.takePulse t w stamp = o.updChannel t fun c => c.firstPulse w o.ticks stamp :=
    takePulse_first opening (by rw [channel]; rfl) (by rw [channel]; rfl) (by rw [channel]; rfl)
  have state : ((s.updChannel t f).channel t).state = c.state := by rw [State.updChannel_same]
  refine ⟨o.updChannel t fun c => c.firstPulse w o.ticks stamp, ?_, ?_, ?_, ?_, fun dormant => ?_, fun idle => ?_, ?_⟩
  · rw [disposePulse_opening (by rw [state]; exact quiet), State.openingPulse, opening] at disposed
    exact disposed.trans (congrArg Host.Outcome.next first)
  · exact ((Powers.updChannel s t f).trans powers).trans (Powers.updChannel o t _)
  · rw [State.updChannel_same, channel, ticks]
    have opened := openChannel_firstPulse (s.updChannel t f) t w d stamp
    rw [State.updChannel_same] at opened ⊢
    exact opened
  · rw [State.updChannel_other _ _ (otherTrack_ne t), State.channel_eq (openPassage_channels _ t d stamp),
      State.updChannel_other _ _ (otherTrack_ne t), State.updChannel_other _ _ (otherTrack_ne t)]
  · exact woken (state.trans dormant)
  · exact same (by rw [state, idle]; simp)
  · exact PoolWoken.of_updChannel (f := f) pool rfl

end Sys2Proof.Machine
end

section
/-! Proofs: the places of records that are offered at one instant, as the model deals them. -/

namespace Sys2Proof.Machine

variable {s u v : State} {t : TrackId} {w : HeadRecord}

/-! ## Places dealt anew: the records of one track (R72, log entry 35)

`before`, in detection order, are the records of a track that were offered at this instant, and `w` is offered now. -/

/-- The records of heads that were detected before `w`. -/
def earlierThan (w : HeadRecord) (l : List HeadRecord) : List HeadRecord := l.filter fun x => x.index < w.index

/-- The records of heads that were detected after `w`. -/
def laterThan (w : HeadRecord) (l : List HeadRecord) : List HeadRecord := l.filter fun x => w.index < x.index

/-- The records in detection order, `w` among them. -/
def inDetectionOrder (w : HeadRecord) (l : List HeadRecord) : List HeadRecord := earlierThan w l ++ w :: laterThan w l

/-- Records stand in detection order, each of another head. -/
def Detected (l : List HeadRecord) : Prop := (l.map fun x => x.index).Pairwise (· < ·)

theorem detected_iff {l : List HeadRecord} : Detected l ↔ l.Pairwise fun x y => x.index < y.index := List.pairwise_map

theorem split_at_record {l : List HeadRecord} (order : Detected l) (new : ∀ x ∈ l, x.index ≠ w.index) :
    l = earlierThan w l ++ laterThan w l := by
  rw [detected_iff] at order
  induction l with
  | nil => rfl
  | cons x rest ih =>
    obtain ⟨first, order⟩ := List.pairwise_cons.mp order
    have rest_eq := ih order fun y h => new y (List.mem_cons_of_mem x h)
    rcases Nat.lt_or_gt_of_ne (new x List.mem_cons_self) with before | behind
    · have none : ¬w.index < x.index := by omega
      simp only [earlierThan, laterThan, List.filter_cons, before, none, decide_true, decide_false, if_true,
        List.cons_append] at rest_eq ⊢
      simpa using rest_eq
    · have all (y : HeadRecord) (h : y ∈ rest) : w.index < y.index := by have := first y h; omega
      have earlier : earlierThan w rest = [] := List.filter_eq_nil_iff.mpr fun y h => by have := all y h; simp; omega
      have later : laterThan w rest = rest := List.filter_eq_self.mpr fun y h => by simpa using all y h
      have none : ¬x.index < w.index := by omega
      simp only [earlierThan, laterThan] at earlier later
      simp [earlierThan, laterThan, behind, none, earlier, later]

theorem inDetectionOrder_detected {l : List HeadRecord} (order : Detected l) : Detected (inDetectionOrder w l) := by
  rw [detected_iff] at order ⊢
  refine List.pairwise_append.mpr ⟨order.filter _, List.pairwise_cons.mpr ⟨fun y h => ?_, order.filter _⟩, fun x hx y hy => ?_⟩
  · simpa using (List.mem_filter.mp h).2
  · have before : x.index < w.index := by simpa using (List.mem_filter.mp hx).2
    rcases List.mem_cons.mp hy with rfl | hy
    · exact before
    · have : w.index < y.index := by simpa using (List.mem_filter.mp hy).2
      omega

theorem inDetectionOrder_perm {l : List HeadRecord} (order : Detected l) (new : ∀ x ∈ l, x.index ≠ w.index) :
    (inDetectionOrder w l).Perm (l ++ [w]) := by
  have split := split_at_record order new
  calc inDetectionOrder w l = earlierThan w l ++ [w] ++ laterThan w l := by simp [inDetectionOrder]
    _ |>.Perm (earlierThan w l ++ laterThan w l ++ [w]) := by
      rw [List.append_assoc, List.append_assoc]
      exact List.perm_append_comm.append_left _
    _ = l ++ [w] := by rw [← split]

/-- A key that stands in a list of different keys finds what stands at its position. -/
theorem lookup_zip {α β : Type} [BEq α] [LawfulBEq α] {l : List α} {m : List β} (different : l.Nodup) {k : Nat}
    (h : k < l.length) (j : k < m.length) : (l.zip m).lookup l[k] = some m[k] := by
  induction l generalizing m k with
  | nil => simp at h
  | cons x rest ih =>
    obtain ⟨new, different⟩ := List.nodup_cons.mp different
    cases m with
    | nil => simp at j
    | cons y m =>
      cases k with
      | zero => simp
      | succ k =>
        have other : rest[k]'(by simpa using h) ≠ x := fun same => new (same ▸ List.getElem_mem _)
        simp only [List.getElem_cons_succ, List.zip_cons_cons, List.lookup_cons, beq_false_of_ne other]
        exact ih different _ _

theorem lookup_zip_none {α β : Type} [BEq α] [LawfulBEq α] {l : List α} {m : List β} {x : α} (h : x ∉ l) :
    (l.zip m).lookup x = none := by
  induction l generalizing m with
  | nil => simp
  | cons y rest ih =>
    cases m with
    | nil => simp
    | cons z m =>
      rw [List.zip_cons_cons, List.lookup_cons, beq_false_of_ne fun same : x = y => h (same ▸ List.mem_cons_self)]
      exact ih fun k => h (List.mem_cons_of_mem y k)

/-- The record that stands in the place of `x` once `w` is offered. -/
def moved (w : HeadRecord) (l : List HeadRecord) (x : HeadRecord) : HeadRecord :=
  (((laterThan w l).zip (w :: laterThan w l)).lookup x).getD x

theorem moved_of_not_mem {l : List HeadRecord} {x : HeadRecord} (h : x ∉ laterThan w l) : moved w l x = x := by
  rw [moved, lookup_zip_none h, Option.getD_none]

theorem Detected.nodup {l : List HeadRecord} (order : Detected l) : l.Nodup :=
  (detected_iff.mp order).imp fun {x y} h same => by simp [same] at h

theorem Detected.laterThan {l : List HeadRecord} (order : Detected l) : Detected (laterThan w l) :=
  detected_iff.mpr ((detected_iff.mp order).filter _)

theorem moved_getElem {l : List HeadRecord} (order : Detected l) {k : Nat} (h : k < (laterThan w l).length) :
    moved w l (laterThan w l)[k] = (w :: laterThan w l)[k]'(by simp; omega) := by
  rw [moved, lookup_zip order.laterThan.nodup h (by simp; omega), Option.getD_some]

/-- A record stays in its place, or one of a head that was detected earlier takes it. -/
theorem moved_index {l : List HeadRecord} (order : Detected l) (x : HeadRecord) :
    moved w l x = x ∨ (moved w l x).index < x.index := by
  by_cases h : x ∈ laterThan w l
  · obtain ⟨k, inside, rfl⟩ := List.getElem_of_mem h
    rw [moved_getElem order inside]
    refine .inr ?_
    cases k with
    | zero => simpa using (List.mem_filter.mp (List.getElem_mem inside)).2
    | succ k =>
      exact List.pairwise_iff_getElem.mp (detected_iff.mp order.laterThan) k (k + 1) (by omega) inside (by omega)
  · exact .inl (moved_of_not_mem h)

theorem take_cons_append_getLastD {α : Type} (w : α) (l : List α) : (w :: l).take l.length ++ [l.getLastD w] = w :: l := by
  induction l generalizing w with
  | nil => rfl
  | cons x rest ih =>
    rw [List.getLastD_cons, List.length_cons, List.take_succ_cons, List.cons_append, ih]

/-- The places are dealt in detection order, and the last is new. -/
theorem map_moved {l : List HeadRecord} (order : Detected l) (new : ∀ x ∈ l, x.index ≠ w.index) :
    l.map (moved w l) ++ [(laterThan w l).getLastD w] = inDetectionOrder w l := by
  have earlier : (earlierThan w l).map (moved w l) = earlierThan w l := by
    have stays (x : HeadRecord) (h : x ∈ earlierThan w l) : moved w l x = id x := moved_of_not_mem fun k => by
      have before := (List.mem_filter.mp h).2
      have behind := (List.mem_filter.mp k).2
      simp only [decide_eq_true_eq] at before behind
      omega
    rw [List.map_congr_left stays, List.map_id]
  have later : (laterThan w l).map (moved w l) = (w :: laterThan w l).take (laterThan w l).length := by
    refine List.ext_getElem (by simp) fun k h _ => ?_
    rw [List.getElem_map, List.getElem_take, moved_getElem order]
  calc l.map (moved w l) ++ [(laterThan w l).getLastD w]
      = (earlierThan w l).map (moved w l) ++ ((laterThan w l).map (moved w l) ++ [(laterThan w l).getLastD w]) := by
        rw [← List.append_assoc, ← List.map_append, ← split_at_record order new]
    _ = inDetectionOrder w l := by rw [earlier, later, take_cons_append_getLastD, inDetectionOrder]

theorem lookup_zip_map {α β γ δ : Type} [BEq α] [LawfulBEq α] [BEq γ] [LawfulBEq γ] {f : α → γ} (injective : f.Injective)
    (g : β → δ) (l : List α) (m : List β) (x : α) :
    ((l.map f).zip (m.map g)).lookup (f x) = ((l.zip m).lookup x).map g := by
  induction l generalizing m with
  | nil => rfl
  | cons y rest ih =>
    cases m with
    | nil => rfl
    | cons z m =>
      simp only [List.map_cons, List.zip_cons_cons, List.lookup_cons]
      by_cases same : x = y
      · simp [same]
      · rw [beq_false_of_ne same, beq_false_of_ne fun h => same (injective h)]
        exact ih m

/-! ## What the model deals -/

/-- The record of a head of a track as it is offered. -/
def ofTrack (t : TrackId) (x : HeadRecord) : OfferedRecord := { track := t, record := x }

theorem laterOffers_eq (s : State) (t : TrackId) (w : HeadRecord) :
    s.store.offered.filter (ofTrack t w).aheadOf = (laterThan w (s.offeredOf t)).map (ofTrack t) := by
  rw [laterThan, State.offeredOf]
  induction s.store.offered with
  | nil => rfl
  | cons o rest ih =>
    obtain ⟨k, x⟩ := o
    by_cases same : k = t
    · subst same
      by_cases later : w.index < x.index
      · simpa [ofTrack, OfferedRecord.aheadOf, later, List.filter_cons] using ih
      · simpa [ofTrack, OfferedRecord.aheadOf, later, List.filter_cons] using ih
    · have : (t == k) = false := beq_false_of_ne (Ne.symm same)
      simpa [ofTrack, OfferedRecord.aheadOf, same, this, List.filter_cons] using ih

/-- The moves that the model makes as `w` is offered. -/
def State.movesOf (s : State) (t : TrackId) (w : HeadRecord) : Moves :=
  (ofTrack t w).moves (s.store.offered.filter (ofTrack t w).aheadOf)

theorem ofTrack_injective (t : TrackId) : (ofTrack t).Injective := fun x y h => by simpa [ofTrack] using h

theorem inPlaceOf_same (s : State) (t : TrackId) (w x : HeadRecord) :
    inPlaceOf (s.movesOf t w) (ofTrack t x) = ofTrack t (moved w (s.offeredOf t) x) := by
  rw [State.movesOf, laterOffers_eq, OfferedRecord.moves, ← List.map_cons, inPlaceOf,
    lookup_zip_map (ofTrack_injective t), moved]
  cases ((laterThan w (s.offeredOf t)).zip (w :: laterThan w (s.offeredOf t))).lookup x <;> rfl

theorem inPlaceOf_other_track (s : State) (w : HeadRecord) {o : OfferedRecord} (h : o.track ≠ t) :
    inPlaceOf (s.movesOf t w) o = o := by
  refine inPlaceOf_other (lookup_zip_none fun k => h ?_)
  rw [laterOffers_eq] at k
  obtain ⟨x, -, rfl⟩ := List.mem_map.mp k
  rfl

theorem inPlaceOf_track (s : State) (t : TrackId) (w : HeadRecord) (o : OfferedRecord) :
    (inPlaceOf (s.movesOf t w) o).track = o.track := by
  by_cases same : o.track = t
  · obtain ⟨k, x⟩ := o
    subst same
    exact (congrArg OfferedRecord.track (inPlaceOf_same s k w x) :)
  · rw [inPlaceOf_other_track s w same]

/-- The record that is offered as `w` takes its place. -/
def State.offerOf (s : State) (t : TrackId) (w : HeadRecord) : HeadRecord := (laterThan w (s.offeredOf t)).getLastD w

theorem offer_eq (s : State) (t : TrackId) (w : HeadRecord) :
    (s.store.offered.filter (ofTrack t w).aheadOf).getLastD (ofTrack t w) = ofTrack t (s.offerOf t w) := by
  rw [laterOffers_eq, State.offerOf, List.getLastD_eq_getLast?, List.getLast?_map, List.getLastD_eq_getLast?]
  cases (laterThan w (s.offeredOf t)).getLast? <;> rfl

/-- The records of a track as offered once `w` is, in the order of their places. -/
theorem offeredOf_deal (s : State) (t : TrackId) (w : HeadRecord) :
    ({ s with store := s.store.deal (s.movesOf t w) (ofTrack t (s.offerOf t w)) } : State).offeredOf t
      = (s.offeredOf t).map (moved w (s.offeredOf t)) ++ [s.offerOf t w] := by
  have step (l : List OfferedRecord) :
      ((l.map (inPlaceOf (s.movesOf t w))).filter fun o => o.track = t).map (fun o => o.record)
        = ((l.filter fun o => o.track = t).map fun o => o.record).map (moved w (s.offeredOf t)) := by
    induction l with
    | nil => rfl
    | cons o rest ih =>
      simp only [List.map_cons, List.filter_cons, inPlaceOf_track]
      by_cases same : o.track = t
      · obtain ⟨k, x⟩ := o
        subst same
        have moves : (inPlaceOf (s.movesOf k w) { track := k, record := x }).record = moved w (s.offeredOf k) x :=
          (congrArg OfferedRecord.record (inPlaceOf_same s k w x) :)
        simpa [moves] using ih
      · simpa [same] using ih
  change (((s.store.offered.map (inPlaceOf (s.movesOf t w)) ++ [ofTrack t (s.offerOf t w)]).filter _).map _) = _
  rw [List.filter_append, List.map_append, step]
  simp [ofTrack, State.offeredOf]

theorem offeredOf_deal_other (s : State) (w x : HeadRecord) {k : TrackId} (h : k ≠ t) :
    ({ s with store := s.store.deal (s.movesOf t w) (ofTrack t x) } : State).offeredOf k = s.offeredOf k := by
  have step (l : List OfferedRecord) :
      (l.map (inPlaceOf (s.movesOf t w))).filter (fun o => o.track = k) = l.filter fun o => o.track = k := by
    induction l with
    | nil => rfl
    | cons o rest ih =>
      simp only [List.map_cons, List.filter_cons, inPlaceOf_track, ih]
      by_cases same : o.track = k
      · rw [if_pos (by simpa using same), if_pos (by simpa using same), inPlaceOf_other_track s w (same ▸ h)]
      · rw [if_neg (by simpa using same), if_neg (by simpa using same)]
  change (((s.store.offered.map (inPlaceOf (s.movesOf t w)) ++ [ofTrack t x]).filter _).map _) = _
  rw [List.filter_append, List.map_append, step]
  simp [ofTrack, State.offeredOf, Ne.symm h]

/-- What stands in the place of a stored HEAD record of the track. -/
theorem dealt_same (s : State) (w : HeadRecord) {r : Record} {x : HeadRecord} (track : r.track = t)
    (body : r.body = .head x) : r.dealt (s.movesOf t w) = { r with body := .head (moved w (s.offeredOf t) x) } := by
  subst track
  rw [Record.dealt, body]
  exact congrArg (fun o : OfferedRecord => ({ r with body := .head o.record } : Record)) (inPlaceOf_same s r.track w x)

theorem dealt_other_track (s : State) (w : HeadRecord) {r : Record} (h : r.track ≠ t) : r.dealt (s.movesOf t w) = r :=
  dealt_other fun x _ => lookup_zip_none fun k => h (by
    rw [laterOffers_eq] at k
    obtain ⟨y, -, same⟩ := List.mem_map.mp k
    exact (congrArg OfferedRecord.track same).symm)

theorem dealt_passage (moves : Moves) {r : Record} {p : PassageRecord} (body : r.body = .passage p) : r.dealt moves = r :=
  dealt_other fun x h => by simp [body] at h

end Sys2Proof.Machine
end

section
/-! Proofs: records that are offered in turn stand in detection order. -/

namespace Sys2Proof.Machine

variable {s u v : State} {t : TrackId} {w : HeadRecord} {places all given : List HeadRecord}

/-! ## Records that have been offered in turn -/

/-- Each place holds its record, or that of a head which was detected earlier. -/
def Sunk (places all : List HeadRecord) : Prop :=
  ∀ (j : Nat) (x y : HeadRecord), places[j]? = some x → all[j]? = some y → y = x ∨ y.index < x.index

/-- From `s` to `u` the records `given` have been offered in turn, and nothing behind them. -/
structure State.Turned (s u : State) (t : TrackId) (given all : List HeadRecord) : Prop where
  inTurn : s.InTurn u t given all []
  offered : u.offeredOf t = all
  order : Detected all
  sunk : Sunk (s.offeredOf t) all
  ticks : u.ticks = s.ticks
  localTime : u.localTime = s.localTime

/-- No record of the store, and none that the reply in transmission reports, is a HEAD record of the track. -/
def State.Without (s : State) (t : TrackId) (x : HeadRecord) : Prop :=
  ∀ r, (r ∈ s.store.records ∨ ∃ y, s.link.transmission = some y ∧ y.reported = some r) → r.track = t → r.body ≠ .head x

/-! ## One more deal -/

/-- The record at a position once `w` is offered is what moves there. -/
theorem inDetectionOrder_getElem? (order : Detected all) (new : ∀ x ∈ all, x.index ≠ w.index) {j : Nat} {x z : HeadRecord}
    (old : all[j]? = some x) (now : (inDetectionOrder w all)[j]? = some z) : z = moved w all x := by
  obtain ⟨inside, rfl⟩ := List.getElem?_eq_some_iff.mp old
  rw [← map_moved order new, List.getElem?_append_left (by simpa using inside), List.getElem?_map, old] at now
  simpa using now.symm

theorem getElem?_of_le {α β : Type} {l : List α} {m : List β} (le : l.length ≤ m.length) {j : Nat} {x : α} (h : l[j]? = some x) :
    ∃ y, m[j]? = some y :=
  ⟨m[j]'(by have := (List.getElem?_eq_some_iff.mp h).1; omega), List.getElem?_eq_getElem _⟩

theorem Sunk.deal (sunk : Sunk places all) (le : places.length ≤ all.length) (order : Detected all)
    (new : ∀ x ∈ all, x.index ≠ w.index) : Sunk places (inDetectionOrder w all) := by
  intro j x z place now
  obtain ⟨y, held⟩ := getElem?_of_le le place
  rw [inDetectionOrder_getElem? order new held now]
  rcases sunk j x y place held with rfl | before <;> rcases moved_index (w := w) order y with same | earlier
  · exact .inl same
  · exact .inr earlier
  · rw [same]
    exact .inr before
  · exact .inr (earlier.trans before)

/-- Records that have been dealt are dealt once more. -/
theorem DealtTo.deal {before now : List Record} (dealt : DealtTo before now t places all) (offered : u.offeredOf t = all)
    (order : Detected all) (new : ∀ x ∈ all, x.index ≠ w.index) (le : places.length ≤ all.length)
    (of : ∀ x ∈ all, x ∈ places ∨ x ∈ given)
    (apart : ∀ a ∈ given, a.index < w.index ∨ ∀ r ∈ before, r.track = t → r.body ≠ .head a) :
    DealtTo before (now.map fun r => r.dealt (u.movesOf t w)) t places (inDetectionOrder w all) := by
  obtain ⟨headers, stand⟩ := dealt
  have header (r : Record) : ((r.dealt (u.movesOf t w)).number, (r.dealt (u.movesOf t w)).track,
      (r.dealt (u.movesOf t w)).stored, (r.dealt (u.movesOf t w)).displaced) = (r.number, r.track, r.stored, r.displaced) := by
    obtain ⟨number, track, stored, displaced⟩ := dealt_header (u.movesOf t w) r
    rw [number, track, stored, displaced]
  refine ⟨by rw [← headers, List.map_map]; exact List.map_congr_left fun r _ => header r, fun i r y old dealt => ?_⟩
  rw [List.getElem?_map] at dealt
  obtain ⟨z, held, rfl⟩ := Option.map_eq_some_iff.mp dealt
  obtain ⟨placed, other⟩ := stand i r z old held
  have same : z.track = r.track := by
    have := congrArg (fun l => l[i]?) headers
    simp only [List.getElem?_map, old, held, Option.map_some, Option.some.injEq, Prod.mk.injEq] at this
    exact this.2.1
  refine ⟨fun j x y track body place now => ?_, fun free => ?_⟩
  · obtain ⟨a, stood⟩ := getElem?_of_le le place
    rw [dealt_same u w (same.trans track) (placed j x a track body place stood), offered,
      inDetectionOrder_getElem? order new stood now]
  · obtain rfl := other free
    by_cases track : z.track = t
    · cases body : z.body with
      | passage p => exact dealt_passage _ body
      | head x =>
        have stays : moved w all x = x := moved_of_not_mem fun h => by
          obtain ⟨mem, behind⟩ := List.mem_filter.mp h
          rcases of x mem with place | gave
          · exact free track x place body
          · rcases apart x gave with before | none
            · simp only [decide_eq_true_eq] at behind
              omega
            · exact none z (List.mem_of_getElem? old) track body
        rw [dealt_same u w track body, offered, stays, ← body]
    · exact dealt_other_track u w track

/-! ## The store and the reply -/

/-- A record is stored behind those that are held, where the store has room. -/
theorem offer_room (room : s.store.records.length < 32) (t : TrackId) (body : RecordBody) :
    ∃ number next attention, s.offer t body = { s with
      store := { s.store with
        records := s.store.records
          ++ [{ number := number, track := t, stored := s.localTime, displaced := false, body := body }]
        nextNumber := next }
      attention := attention } := by
  refine ⟨s.store.assigned, nextRecordNumber s.store.assigned, (s.offer t body).attention, ?_⟩
  rw [State.offer, if_pos (show s.store.records.length < Config.storeSlots from room)]
  dsimp only
  split <;> rfl

/-- A record that is offered in turn stands behind the others, its place dealt. -/
theorem offerInOrder_room (room : s.store.records.length < 32) (t : TrackId) (w : HeadRecord) :
    ∃ number next attention, s.offerInOrder (ofTrack t w) = { s with
      store := { s.store.deal (s.movesOf t w) (ofTrack t (s.offerOf t w)) with
        records := (s.store.records.map fun r => r.dealt (s.movesOf t w))
          ++ [{ number := number, track := t, stored := s.localTime, displaced := false, body := .head (s.offerOf t w) }]
        nextNumber := next }
      link := s.link.deal (s.movesOf t w) s.ticks
      attention := attention } := by
  dsimp only [State.offerInOrder]
  rw [offer_eq]
  have dealt : (s.store.deal (s.movesOf t w) (ofTrack t (s.offerOf t w))).records.length < 32 := by simpa [Store.deal] using room
  exact offer_room (s := { s with
    store := s.store.deal (s.movesOf t w) (ofTrack t (s.offerOf t w)), link := s.link.deal (s.movesOf t w) s.ticks }) dealt _ _

theorem StoredHeads.deal {new : List Record} {now : LocalTime} (stored : StoredHeads new t now given)
    (offered : u.offeredOf t = all) (number : Nat) (x : HeadRecord) :
    StoredHeads ((new.map fun r => r.dealt (u.movesOf t w))
        ++ [{ number := number, track := t, stored := now, displaced := false, body := .head x }]) t now
      (given.map (moved w all) ++ [x]) := by
  unfold StoredHeads at stored ⊢
  rw [List.map_append, List.map_append, List.map_map, List.map_map]
  refine congrArg₂ (· ++ ·) ?_ rfl
  induction new generalizing given with
  | nil =>
    obtain rfl : given = [] := by simpa using stored.symm
    rfl
  | cons r rest ih =>
    cases given with
    | nil => simp at stored
    | cons y given =>
      simp only [List.map_cons, List.cons.injEq, Prod.mk.injEq] at stored
      obtain ⟨⟨track, time, displaced, body⟩, stored⟩ := stored
      rw [List.map_cons, List.map_cons, ih stored]
      simp [dealt_same u w track body, offered, track, time, displaced]

/-- A reply frame holds its first field behind five bytes. -/
theorem replyFrame_field (q : Request) (status : Status) (b : Byte) (rest : List Byte) :
    (replyFrame q status (b :: rest)).getD 5 0#8 = b := rfl

/-- A reply that reports a record and then another one reports that one. -/
theorem Transmission.Reporting.report {x y : Transmission} {r z : Record} (h : x.Reporting y r) :
    x.Reporting (y.report z) z := by
  unfold Transmission.Reporting at h ⊢
  subst h
  rw [Transmission.report]
  dsimp only
  rw [replyFrame_field]

theorem dealt_reply_cases {moves : Moves} {x : Transmission} {r : Record} {ticks : Nat} (started : x.started = ticks)
    (reported : x.reported = some r) :
    (r.dealt moves = r ∧ x.dealt moves ticks = x) ∨ (r.dealt moves ≠ r ∧ x.dealt moves ticks = x.report (r.dealt moves)) := by
  by_cases same : r.dealt moves = r
  · exact .inl ⟨same, dealt_reply_other (.inr fun y h => by obtain rfl : r = y := Option.some.inj (reported.symm.trans h); exact same)⟩
  · subst started
    exact .inr ⟨same, dealt_reply reported same⟩

theorem Transmission.Reporting.keeps {x y : Transmission} {r : Record} (h : x.Reporting y r) :
    y.started = x.started ∧ y.reported = some r := by
  unfold Transmission.Reporting at h
  rw [h]
  exact ⟨rfl, rfl⟩

theorem link_deal_quiet {l : Link} {ticks : Nat} {moves : Moves}
    (quiet : ∀ x, l.transmission = some x → x.started ≠ ticks ∨ x.reported = none) : l.deal moves ticks = l := by
  obtain ⟨baud, receiver, queue, transmission⟩ := l
  cases transmission with
  | none => rfl
  | some x =>
    have same : x.dealt moves ticks = x := dealt_reply_other ((quiet x rfl).imp_right fun none r h => by simp [none] at h)
    simp [Link.deal, same]

/-- A record that has given up its place does not get it back. -/
theorem DealtTo.not_back {r z : Record} (dealt : DealtTo [r] [z] t places all) (offered : u.offeredOf t = all)
    (order : Detected all) (sunk : Sunk places all) (le : places.length ≤ all.length)
    (back : z.dealt (u.movesOf t w) = r) : z = r := by
  obtain ⟨headers, stand⟩ := dealt
  obtain ⟨placed, other⟩ := stand 0 r z rfl rfl
  by_cases free : r.track = t → ∀ x ∈ places, r.body ≠ .head x
  · exact other free
  · push Not at free
    obtain ⟨track, x, place, body⟩ := free
    obtain ⟨j, here⟩ := List.getElem?_of_mem place
    obtain ⟨y, stands⟩ := getElem?_of_le le here
    have holds := placed j x y track body here stands
    have same : z.track = t := (dealt_header (u.movesOf t w) z).2.1.symm.trans (congrArg Record.track back |>.trans track)
    rw [dealt_same u w same holds, offered] at back
    have moves : moved w all y = x := by
      have := congrArg Record.body back
      rw [body] at this
      exact RecordBody.head.inj this
    have stays : y = x := by
      rcases sunk j x y here stands with same | before
      · exact same
      · rcases moved_index (w := w) order y with same | earlier
        · exact same.symm.trans moves
        · rw [moves] at earlier
          omega
    subst stays
    rw [← back, moves, ← holds]

/-! ## Offering in turn -/

theorem State.Turned.refl (order : Detected (s.offeredOf t)) : s.Turned s t [] (s.offeredOf t) := by
  have same (before : List Record) : DealtTo before before t (s.offeredOf t) (s.offeredOf t) := by
    refine ⟨rfl, fun i r y old now => ⟨fun j x z track body place stands => ?_, fun _ => ?_⟩⟩
    · obtain rfl : r = y := Option.some.inj (old.symm.trans now)
      obtain rfl : x = z := Option.some.inj (place.symm.trans stands)
      exact body
    · exact Option.some.inj (now.symm.trans old)
  refine ⟨⟨by simp, ?_, rfl, s.store.records, [], by simp, same _, by simp [StoredHeads], fun _ => rfl, ?_⟩, rfl, order, ?_,
    rfl, rfl⟩
  · exact order.imp Nat.le_of_lt
  · intro x r transmission _ _
    refine ⟨x, r, same _, ?_, fun _ => rfl, fun other => absurd rfl other⟩
    rw [← transmission]
  · intro j x y place stands
    exact .inl (Option.some.inj (stands.symm.trans place))

theorem State.Turned.perm (h : s.Turned u t given all) : all.Perm (s.offeredOf t ++ given) := h.inTurn.1

theorem State.Turned.le (h : s.Turned u t given all) : (s.offeredOf t).length ≤ all.length := by
  have := h.perm.length_eq
  rw [List.length_append] at this
  omega

theorem State.Turned.offer (h : s.Turned u t given all) (new : ∀ x ∈ all, x.index ≠ w.index)
    (room : u.store.records.length < 32) (apart : ∀ a ∈ given, a.index < w.index ∨ s.Without t a) :
    s.Turned (u.offerInOrder (ofTrack t w)) t (given ++ [w]) (inDetectionOrder w all) := by
  have le := h.le
  obtain ⟨⟨perm, -, otherOffers, held, stored, records, dealt, storedHeads, still, replies⟩, offered, order, sunk, ticks, time⟩ := h
  have of (x : HeadRecord) (mem : x ∈ all) : x ∈ s.offeredOf t ∨ x ∈ given := List.mem_append.mp (perm.mem_iff.mp mem)
  obtain ⟨number, next, attention, offers⟩ := offerInOrder_room room t w
  rw [offers]
  refine ⟨⟨?_, ?_, ?_, held.map fun r => r.dealt (u.movesOf t w),
    (stored.map fun r => r.dealt (u.movesOf t w))
      ++ [{ number := number, track := t, stored := u.localTime, displaced := false, body := .head (u.offerOf t w) }],
    ?_, ?_, ?_, ?_, ?_⟩, ?_, ?_, ?_, ?_, ?_⟩
  · rw [← List.append_assoc]
    exact (inDetectionOrder_perm order new).trans (perm.append_right _)
  · exact (inDetectionOrder_detected order).imp Nat.le_of_lt
  · exact (offeredOf_deal_other u w _ (otherTrack_ne t)).trans otherOffers
  · simp [records]
  · exact dealt.deal offered order new le of fun a gave => (apart a gave).imp_right fun none r mem => none r (.inl mem)
  · rw [← map_moved order new, List.drop_append_of_le_length (by simpa using le), ← List.map_drop, time, State.offerOf, offered]
    exact storedHeads.deal offered _ _
  · intro quiet
    have same := still quiet
    change u.link.deal (u.movesOf t w) u.ticks = s.link
    rw [same, ticks, link_deal_quiet quiet]
  · intro x r transmission started reported
    obtain ⟨y, z, reply, link, kept, changed⟩ := replies x r transmission started reported
    have current : y.started = s.ticks ∧ y.reported = some z := by
      by_cases same : z = r
      · rw [kept same, same]
        exact ⟨started, reported⟩
      · obtain ⟨start, reports⟩ := (changed same).keeps
        exact ⟨start.trans started, reports⟩
    have again := reply.deal (w := w) offered order new le of fun a gave =>
      (apart a gave).imp_right fun none q mem => none q (.inr ⟨x, transmission, by rw [reported, List.mem_singleton.mp mem]⟩)
    refine ⟨y.dealt (u.movesOf t w) s.ticks, z.dealt (u.movesOf t w), again, ?_, fun back => ?_, fun other => ?_⟩
    · change u.link.deal (u.movesOf t w) u.ticks = _
      rw [link, ticks, Link.deal, Option.map_some]
    · have same : z = r := by
        by_contra moves
        exact moves (reply.not_back offered order sunk le back)
      obtain ⟨stays, unchanged⟩ | ⟨moves, -⟩ := dealt_reply_cases (moves := u.movesOf t w) current.1 current.2
      · rw [unchanged, kept same]
      · exact absurd (back.trans same.symm) moves
    · obtain ⟨stays, unchanged⟩ | ⟨-, report⟩ := dealt_reply_cases (moves := u.movesOf t w) current.1 current.2
      · rw [unchanged, stays]
        exact changed (stays ▸ other)
      · rw [report]
        by_cases same : z = r
        · rw [kept same]
          rfl
        · exact (changed same).report
  · exact (offeredOf_deal u t w).trans (by rw [offered, State.offerOf, offered, map_moved order new])
  · exact inDetectionOrder_detected order
  · exact sunk.deal le order new
  · exact ticks
  · exact time

end Sys2Proof.Machine
end

section
/-! Proofs: heads that close in turn. -/

namespace Sys2Proof.Machine

variable {s u v : State} {t : TrackId} {n : Nat} {cause : CloseCause} {given all : List HeadRecord}

/-! ## What offers change (R72, R168, R169) -/

/-- Channels, timeline, store, attention unit and link may differ, the last as records that move have a reply follow. -/
structure Offers (s u : State) : Prop where
  rest : u = { s with
    channels := u.channels, timeline := u.timeline, store := u.store, attention := u.attention, link := u.link }
  follows : s.LinkFollows u

theorem Offers.of_link (rest : u = { s with
    channels := u.channels, timeline := u.timeline, store := u.store, attention := u.attention, link := u.link })
    (link : u.link = s.link) : Offers s u := ⟨rest, .inl link⟩

theorem Offers.refl (s : State) : Offers s s := .of_link rfl rfl

theorem Offers.keeps (h : Offers s u) : u.ticks = s.ticks ∧ u.localTime = s.localTime ∧ u.cameras = s.cameras
    ∧ u.health = s.health := by
  rw [h.rest]
  exact ⟨rfl, rfl, rfl, rfl⟩

theorem LinkFollows.trans (ticks : u.ticks = s.ticks) (h : s.LinkFollows u) (k : u.LinkFollows v) : s.LinkFollows v := by
  rcases h with same | ⟨x, y, r, z, transmission, started, reported, reporting, link⟩
  · unfold State.LinkFollows at k ⊢
    rwa [same, ticks] at k
  · obtain ⟨start, reports⟩ := reporting.keeps
    rcases k with same | ⟨x', y', r', z', transmission', started', reported', reporting', link'⟩
    · exact .inr ⟨x, y, r, z, transmission, started, reported, reporting, same.trans link⟩
    · obtain rfl : y = x' := by
        rw [link] at transmission'
        exact Option.some.inj transmission'
      obtain rfl : { r with body := .head z } = r' := Option.some.inj (reports.symm.trans reported')
      have again : x.Reporting y' { r with body := .head z' } := by
        obtain rfl : y' = y.report { r with body := .head z' } := reporting'
        exact reporting.report
      exact .inr ⟨x, y', r, z', transmission, started, reported, again, by rw [link', link]⟩

theorem Offers.trans (h : Offers s u) (k : Offers u v) : Offers s v := by
  refine ⟨?_, LinkFollows.trans h.keeps.1 h.follows k.follows⟩
  have first := h.rest
  have second := k.rest
  rw [first] at second
  exact second

theorem deal_follows (s : State) (moves : Moves) :
    s.link.deal moves s.ticks = s.link
    ∨ ∃ x y r z, s.link.transmission = some x ∧ x.started = s.ticks ∧ x.reported = some r
      ∧ x.Reporting y { r with body := .head z } ∧ s.link.deal moves s.ticks = { s.link with transmission := some y } := by
  by_cases quiet : ∀ x, s.link.transmission = some x → x.started ≠ s.ticks ∨ x.reported = none
  · exact .inl (link_deal_quiet quiet)
  · push Not at quiet
    obtain ⟨x, transmission, started, reported⟩ := quiet
    obtain ⟨r, reported⟩ := Option.ne_none_iff_exists'.mp reported
    have deals : s.link.deal moves s.ticks = { s.link with transmission := some (x.dealt moves s.ticks) } := by
      rw [Link.deal, transmission, Option.map_some]
    rcases dealt_reply_cases (moves := moves) started reported with ⟨-, same⟩ | ⟨moves_, report⟩
    · left
      rw [deals, same, ← transmission]
    · cases body : r.body with
      | passage p => exact absurd (dealt_passage moves body) moves_
      | head z =>
        have dealt : r.dealt moves
            = { r with body := .head (inPlaceOf moves { track := r.track, record := z }).record } := by
          rw [Record.dealt, body]
        exact .inr ⟨x, _, r, _, transmission, started, reported, rfl, by rw [deals, report, dealt]; rfl⟩

theorem offer_offers (s : State) (t : TrackId) (body : RecordBody) : Offers s (s.offer t body) := by
  unfold State.offer
  split
  · dsimp only
    split <;> exact .of_link rfl rfl
  · split
    · cases body <;> exact .of_link rfl rfl
    · exact .of_link rfl rfl

theorem offerInOrder_offers (s : State) (w : OfferedRecord) : Offers s (s.offerInOrder w) := by
  have dealt : Offers s { s with
      store := s.store.deal (w.moves (s.store.offered.filter w.aheadOf)) ((s.store.offered.filter w.aheadOf).getLastD w)
      link := s.link.deal (w.moves (s.store.offered.filter w.aheadOf)) s.ticks } := ⟨rfl, deal_follows s _⟩
  exact dealt.trans (offer_offers _ _ _)

/-- The record of a head as it closes for a cause (R71, R74). -/
def State.recordOf (s : State) (t : TrackId) (cause : CloseCause) (h : Head) : HeadRecord :=
  headRecord (s.channel t).passage { h with shots := s.settledShots t h cause } (finalStatus cause h)

/-- The channel as a head leaves it. -/
def Channel.closedHead (cause : CloseCause) (c : Channel) (h : Head) : Channel :=
  Channel.removeHead { c with passage := c.passage.countClosed (finalStatus cause h) } h.index

theorem findHead_index {h : Head} (found : s.findHead t n = some h) : h.index = n ∧ h ∈ (s.channel t).heads :=
  ⟨by simpa using List.find?_some found, List.mem_of_find?_eq_some found⟩

theorem closeHead_eq {h : Head} (found : s.findHead t n = some h) : s.closeHead t n cause
    = ((s.dropEntry t n).updChannel t fun c => c.closedHead cause h).offerInOrder (ofTrack t (s.recordOf t cause h)) := by
  obtain ⟨rfl, -⟩ := findHead_index found
  rw [State.closeHead, found]
  rfl

theorem closeHead_none (none : s.findHead t n = none) : s.closeHead t n cause = s := by
  rw [State.closeHead, none]

theorem closeHead_offers (s : State) (t : TrackId) (n : Nat) (cause : CloseCause) : Offers s (s.closeHead t n cause) := by
  cases found : s.findHead t n with
  | none =>
    rw [closeHead_none found]
    exact .refl s
  | some h =>
    rw [closeHead_eq found]
    have left : Offers s ((s.dropEntry t n).updChannel t fun c => c.closedHead cause h) := .of_link rfl rfl
    exact left.trans (offerInOrder_offers _ _)

theorem closeHeads_offers (t : TrackId) (cause : CloseCause) (l : List Nat) (s : State) : Offers s (s.closeHeads t cause l) := by
  induction l generalizing s with
  | nil => exact .refl s
  | cons n rest ih => exact (closeHead_offers s t n cause).trans (ih _)

/-! ## Which heads and which entries go -/

theorem offer_heads (s : State) (t k : TrackId) (body : RecordBody) :
    ((s.offer t body).channel k).heads = (s.channel k).heads := by
  unfold State.offer
  split
  · dsimp only
    split <;> rfl
  · split
    · cases body with
      | head x =>
        change ((s.updChannel t fun c => { c with passage := { c.passage with lost := satSucc top8 c.passage.lost } }).channel
          k).heads = _
        by_cases same : k = t <;> simp [same]
      | passage p => rfl
    · rfl

theorem offer_timeline (s : State) (t : TrackId) (body : RecordBody) : (s.offer t body).timeline = s.timeline := by
  unfold State.offer
  split
  · dsimp only
    split <;> rfl
  · split
    · cases body <;> rfl
    · rfl

theorem findHead_none_iff : s.findHead t n = none ↔ ∀ h ∈ (s.channel t).heads, h.index ≠ n := by
  simp [State.findHead]

theorem closeHead_heads (s : State) (t : TrackId) (n : Nat) (cause : CloseCause) :
    ((s.closeHead t n cause).channel t).heads = (s.channel t).heads.filter fun h => h.index != n := by
  cases found : s.findHead t n with
  | none =>
    rw [closeHead_none found, List.filter_eq_self.mpr fun h mem => by simpa using findHead_none_iff.mp found h mem]
  | some h =>
    obtain ⟨index, -⟩ := findHead_index found
    rw [closeHead_eq found, State.offerInOrder, offer_heads]
    change (((s.dropEntry t n).updChannel t fun c => c.closedHead cause h).channel t).heads = _
    rw [State.updChannel_same, ← index]
    rfl

/-- An entry goes as a head of its index closes. -/
theorem closeHead_timeline (s : State) (t : TrackId) (n : Nat) (cause : CloseCause) (e : TimelineEntry) :
    e ∈ (s.closeHead t n cause).timeline
      ↔ e ∈ s.timeline ∧ ¬(e.track = t ∧ e.index = n ∧ ∃ h ∈ (s.channel t).heads, h.index = n) := by
  cases found : s.findHead t n with
  | none =>
    have none := findHead_none_iff.mp found
    rw [closeHead_none found]
    exact ⟨fun mem => ⟨mem, fun ⟨_, _, h, head, index⟩ => none h head index⟩, fun h => h.1⟩
  | some h =>
    obtain ⟨index, mem⟩ := findHead_index found
    rw [closeHead_eq found, State.offerInOrder, offer_timeline]
    change e ∈ s.timeline.filter _ ↔ _
    rw [List.mem_filter]
    have some : ∃ h ∈ (s.channel t).heads, h.index = n := ⟨h, mem, index⟩
    simp [TimelineEntry.isOf, some, imp_iff_not_or]

theorem closeHeads_heads (t : TrackId) (cause : CloseCause) (l : List Nat) (s : State) :
    ((s.closeHeads t cause l).channel t).heads = (s.channel t).heads.filter fun h => h.index ∉ l := by
  induction l generalizing s with
  | nil => simp [State.closeHeads]
  | cons n rest ih =>
    rw [State.closeHeads, ih, closeHead_heads, List.filter_filter]
    refine List.filter_congr fun h _ => ?_
    by_cases same : h.index = n <;> simp [same]

theorem closeHeads_timeline (t : TrackId) (cause : CloseCause) (l : List Nat) (s : State) (e : TimelineEntry) :
    e ∈ (s.closeHeads t cause l).timeline
      ↔ e ∈ s.timeline ∧ ¬(e.track = t ∧ e.index ∈ l ∧ ∃ h ∈ (s.channel t).heads, h.index = e.index) := by
  induction l generalizing s with
  | nil => simp [State.closeHeads]
  | cons n rest ih =>
    rw [State.closeHeads, ih, closeHead_timeline, closeHead_heads]
    by_cases same : e.index = n
    · subst same
      simp
    · have left : (∃ h ∈ (s.channel t).heads.filter fun h => h.index != n, h.index = e.index)
          ↔ ∃ h ∈ (s.channel t).heads, h.index = e.index := by
        refine exists_congr fun h => ?_
        rw [List.mem_filter, and_assoc]
        refine and_congr_right fun _ => ⟨fun k => k.2, fun k => ⟨by simpa [k] using same, k⟩⟩
      simp only [left, same, false_and, and_false, not_false_eq_true, and_true, List.mem_cons, false_or]

/-! ## Heads that close with room in the store -/

theorem headRecord_isOf (p : Passage) (h : Head) (status : FinalStatus) : (headRecord p h status).IsOf p h status := by
  refine ⟨rfl, fun a b predicted observed => ?_, fun none => ?_⟩
  · simp [headRecord, predictionError, predicted, observed]
  · rcases none with none | none
    · simp [headRecord, predictionError, none]
    · cases predicted : h.predicted <;> simp [headRecord, predictionError, none, predicted]

theorem State.recordOf_index (s : State) (t : TrackId) (cause : CloseCause) (h : Head) : (s.recordOf t cause h).index = h.index :=
  rfl

/-- Passages whose heads have the same records. -/
def Passage.SameHeader (p q : Passage) : Prop :=
  q.number = p.number ∧ q.direction = p.direction ∧ q.rehearsal = p.rehearsal ∧ q.overspeed = p.overspeed

theorem recordOf_congr (header : (s.channel t).passage.SameHeader (u.channel t).passage) (cameras : u.cameras = s.cameras)
    (cause : CloseCause) (h : Head) : u.recordOf t cause h = s.recordOf t cause h := by
  obtain ⟨number, direction, rehearsal, overspeed⟩ := header
  have works (r : ShotRef) : u.shotOpen r = s.shotOpen r := by simp only [State.shotOpen, State.camera, cameras]
  have shots : u.settledShots t h cause = s.settledShots t h cause := by simp only [State.settledShots, works, number]
  simp only [State.recordOf, headRecord, shots, number, direction, rehearsal, overspeed]

theorem State.Turned.congr (h : s.Turned u t given all) (store : v.store = u.store) (link : v.link = u.link)
    (ticks : v.ticks = u.ticks) (time : v.localTime = u.localTime) : s.Turned v t given all := by
  obtain ⟨inTurn, offered, order, sunk, ticks', time'⟩ := h
  have same (k : TrackId) : v.offeredOf k = u.offeredOf k := by rw [State.offeredOf, store, State.offeredOf]
  refine ⟨?_, (same t).trans offered, order, sunk, ticks.trans ticks', time.trans time'⟩
  unfold State.InTurn at inTurn ⊢
  rwa [store, link, same]

/-- How many records are held once some have been offered. -/
theorem State.InTurn.length {rest : List Record} (h : s.InTurn u t given all rest) :
    u.store.records.length = s.store.records.length + given.length + rest.length := by
  obtain ⟨perm, -, -, held, new, records, ⟨headers, -⟩, stored, -, -⟩ := h
  have holds : held.length = s.store.records.length := by simpa using congrArg List.length headers
  have stores : new.length = (all.drop (s.offeredOf t).length).length := by simpa using congrArg List.length stored
  have total := perm.length_eq
  rw [List.length_append] at total
  rw [List.length_drop] at stores
  rw [records, List.length_append, List.length_append]
  omega

theorem countClosed_header (p : Passage) (status : FinalStatus) : p.SameHeader (p.countClosed status) := by
  cases status <;> exact ⟨rfl, rfl, rfl, rfl⟩

/-- One more head closes behind those that have. -/
theorem State.Turned.closeHead {h : Head} (turned : s.Turned u t given all) (found : u.findHead t h.index = some h)
    (new : ∀ x ∈ all, x.index ≠ h.index) (room : s.store.records.length + given.length < 32)
    (apart : ∀ a ∈ given, a.index < h.index ∨ s.Without t a) :
    s.Turned (u.closeHead t h.index cause) t (given ++ [u.recordOf t cause h]) (inDetectionOrder (u.recordOf t cause h) all)
    ∧ (u.closeHead t h.index cause).channels = (u.updChannel t fun c => c.closedHead cause h).channels := by
  have length := turned.inTurn.length
  let left := (u.dropEntry t h.index).updChannel t fun c => c.closedHead cause h
  have leaves : s.Turned left t given all := turned.congr rfl rfl rfl rfl
  have room' : left.store.records.length < 32 := by
    change u.store.records.length < 32
    rw [List.length_nil] at length
    omega
  rw [closeHead_eq found]
  refine ⟨leaves.offer new room' apart, ?_⟩
  obtain ⟨_, _, _, offers⟩ := offerInOrder_room room' t (u.recordOf t cause h)
  change (left.offerInOrder _).channels = left.channels
  rw [offers]

theorem findHead_of_filter (left : (v.channel t).heads = (u.channel t).heads.filter fun h => h.index != n) {k : Nat}
    (other : k ≠ n) : v.findHead t k = u.findHead t k := by
  rw [State.findHead, left, List.find?_filter, State.findHead]
  refine congrArg (fun p => List.find? p _) (funext fun h => ?_)
  by_cases same : h.index = k
  · simp [same, other]
  · simp [same]

theorem findHead_closeHead {k : Nat} (other : k ≠ n) : (s.closeHead t n cause).findHead t k = s.findHead t k :=
  findHead_of_filter (closeHead_heads s t n cause) other

theorem updChannel_channels_congr {f : Channel → Channel} (h : u.channels = s.channels) :
    (u.updChannel t f).channels = (s.updChannel t f).channels := by
  simp only [State.updChannel, h]

/-- Heads close one after another, in detection order. -/
theorem State.Turned.closeHeads (l : List Head) (turned : s.Turned u t given all)
    (open_ : ∀ h ∈ l, u.findHead t h.index = some h) (order : (l.map fun h => h.index).Pairwise (· < ·))
    (new : ∀ h ∈ l, ∀ x ∈ all, x.index ≠ h.index) (behind : ∀ a ∈ given, ∀ h ∈ l, a.index < h.index)
    (room : s.store.records.length + given.length + l.length ≤ 32) :
    let v := u.closeHeads t cause (l.map fun h => h.index)
    s.Turned v t (given ++ l.map (u.recordOf t cause)) (v.offeredOf t)
    ∧ v.channels = (u.updChannel t fun c => l.foldl (Channel.closedHead cause) c).channels := by
  induction l generalizing u given all with
  | nil =>
    have offered := turned.offered
    subst offered
    refine ⟨by simpa [State.closeHeads] using turned, ?_⟩
    cases t <;> rfl
  | cons h rest ih =>
    rw [List.length_cons] at room
    obtain ⟨first, order⟩ := List.pairwise_cons.mp order
    obtain ⟨closed, channels⟩ := turned.closeHead (cause := cause) (open_ h List.mem_cons_self) (new h List.mem_cons_self)
      (by omega) fun a mem => .inl (behind a mem h List.mem_cons_self)
    have after (g : Head) (mem : g ∈ rest) : h.index < g.index := first _ (List.mem_map_of_mem mem)
    have same (g : Head) : (u.closeHead t h.index cause).recordOf t cause g = u.recordOf t cause g :=
      recordOf_congr (by
        rw [State.channel_eq channels, State.updChannel_same]
        exact countClosed_header _ _) (closeHead_offers u t h.index cause).keeps.2.2.1 cause g
    have apart (g : Head) (mem : g ∈ rest) (x : HeadRecord) (held : x ∈ inDetectionOrder (u.recordOf t cause h) all) :
        x.index ≠ g.index := by
      rcases List.mem_append.mp ((inDetectionOrder_perm turned.order (new h List.mem_cons_self)).mem_iff.mp held) with old | this
      · exact new g (List.mem_cons_of_mem h mem) x old
      · obtain rfl := List.mem_singleton.mp this
        have := after g mem
        rw [State.recordOf_index]
        omega
    have later (a : HeadRecord) (mem : a ∈ given ++ [u.recordOf t cause h]) (g : Head) (more : g ∈ rest) :
        a.index < g.index := by
      rcases List.mem_append.mp mem with old | this
      · exact behind a old g (List.mem_cons_of_mem h more)
      · obtain rfl := List.mem_singleton.mp this
        exact after g more
    obtain ⟨inTurn, channels'⟩ := ih closed
      (fun g mem => (findHead_closeHead (by have := after g mem; omega)).trans (open_ g (List.mem_cons_of_mem h mem))) order
      apart later (by rw [List.length_append, List.length_singleton]; omega)
    rw [List.append_assoc, List.singleton_append, List.map_congr_left fun g _ => same g, ← List.map_cons] at inTurn
    refine ⟨inTurn, channels'.trans ((updChannel_channels_congr channels).trans ?_)⟩
    rw [State.updChannel_updChannel]
    rfl

theorem findHead_of_mem {h : Head} (order : ((s.channel t).heads.map fun h => h.index).Pairwise (· < ·))
    (mem : h ∈ (s.channel t).heads) : s.findHead t h.index = some h := by
  rw [State.findHead]
  generalize (s.channel t).heads = l at order mem
  induction l with
  | nil => simp at mem
  | cons g rest ih =>
    obtain ⟨first, order⟩ := List.pairwise_cons.mp order
    rcases List.mem_cons.mp mem with rfl | mem
    · simp
    · have later := first h.index (List.mem_map_of_mem mem)
      rw [List.find?_cons_of_neg (by simpa using Nat.ne_of_lt later)]
      exact ih order mem

/-- Some heads of a track close one after another, in detection order, with room in the store. -/
theorem closeHeads_turned {l : List Head} (inOrder : s.InOrder t) (some : l.Sublist (s.channel t).heads)
    (room : s.store.records.length + l.length ≤ 32) :
    let v := s.closeHeads t cause (l.map fun h => h.index)
    s.Turned v t (l.map (s.recordOf t cause)) (v.offeredOf t)
    ∧ v.channels = (s.updChannel t fun c => l.foldl (Channel.closedHead cause) c).channels := by
  obtain ⟨heads, offers, apart⟩ := inOrder
  exact (State.Turned.refl offers).closeHeads (given := []) l (fun h mem => findHead_of_mem heads (some.subset mem))
    (heads.sublist (some.map _)) (fun h mem x offered => (apart x offered h (some.subset mem)).symm) (by simp) (by simpa using room)

end Sys2Proof.Machine
end

section
/-! Proofs: the cancellation of every head, and an orphan (O27). -/

namespace Sys2Proof.Machine

variable {s u v p q : State} {t : TrackId} {cause : CloseCause} {given all : List HeadRecord}

/-! ## Only the track itself, and only what closing touches -/

theorem offer_channel_other {k : TrackId} (h : k ≠ t) (s : State) (body : RecordBody) :
    (s.offer t body).channel k = s.channel k := by
  unfold State.offer
  split
  · dsimp only
    split <;> rfl
  · split
    · cases body with
      | head x =>
        exact State.updChannel_other s (fun c => { c with passage := { c.passage with lost := satSucc top8 c.passage.lost } }) h
      | passage p => rfl
    · rfl

theorem closeHead_channel_other {k : TrackId} (h : k ≠ t) (s : State) (n : Nat) (cause : CloseCause) :
    (s.closeHead t n cause).channel k = s.channel k := by
  cases found : s.findHead t n with
  | none => rw [closeHead_none found]
  | some x =>
    rw [closeHead_eq found]
    exact (offer_channel_other h _ _).trans (State.updChannel_other (s.dropEntry t n) (fun c => c.closedHead cause x) h)

theorem closeHeads_channel_other {k : TrackId} (h : k ≠ t) (cause : CloseCause) (l : List Nat) (s : State) :
    (s.closeHeads t cause l).channel k = s.channel k := by
  induction l generalizing s with
  | nil => rfl
  | cons n rest ih => exact (ih _).trans (closeHead_channel_other h s n cause)

theorem closeHeads_tends (t : TrackId) (cause : CloseCause) (l : List Nat) (s : State) : s.Tends (s.closeHeads t cause l) := by
  induction l generalizing s with
  | nil => exact .refl s
  | cons n rest ih => exact (closeHead_tends s t n cause).trans (ih _)

theorem latch_latched (s : State) (e : Event) : (s.latch e).attention.latched.getLsbD e.bit = true := by
  have small : e.bit < 12 := by cases e <;> decide
  have own : e.mask.getLsbD e.bit = true := by simp [Event.mask, small]
  change (s.attention.latch e s.ticks).latched.getLsbD e.bit = true
  unfold Attention.latch
  split
  · have joins : (s.attention.latched ||| e.mask).getLsbD e.bit = true := by rw [BitVec.getLsbD_or, own, Bool.or_true]
    dsimp only
    split
    · simpa only [Attention.settle, ‹s.attention.mode = AttnMode.level›] using joins
    · split
      · exact joins
      · exact joins
  · next held =>
    by_contra none
    refine held (BitVec.eq_of_getLsbD_eq fun i inside => ?_)
    rw [BitVec.getLsbD_and, BitVec.getLsbD_zero]
    by_cases same : i = e.bit
    · rw [same, Bool.eq_false_iff.mpr none, Bool.false_and]
    · simp [Event.mask, inside, same]

/-- Store, link and clocks are all that being in turn looks at. -/
theorem State.InTurn.congr {rest : List Record} (h : q.InTurn u t given all rest)
    (start : s.store = q.store ∧ s.link = q.link ∧ s.ticks = q.ticks ∧ s.localTime = q.localTime)
    (now : v.store = u.store ∧ v.link = u.link) : s.InTurn v t given all rest := by
  obtain ⟨store, link, ticks, time⟩ := start
  obtain ⟨store', link'⟩ := now
  unfold State.InTurn State.offeredOf at *
  rwa [store, link, ticks, time, store', link']

theorem State.InOrder.congr (h : s.InOrder t) (heads : (q.channel t).heads = (s.channel t).heads) (store : q.store = s.store) :
    q.InOrder t := by
  unfold State.InOrder State.offeredOf at *
  rwa [heads, store]

/-! ## The cancellation of every head (R12, R17, R72) -/

/-- A camera works for a shot of a head. -/
def State.WorksFor (s : State) (t : TrackId) (number : Nat) (h : Head) (x : Shot) : Prop :=
  ∃ k : Fin 8, ({ track := t, passage := number, index := h.index, step := x.step } : ShotRef) ∈ (s.camera k).openShots

/-- The record of a head that is cancelled: its shots are settled as ABORTED where a camera works for them. -/
def State.Cancelled (s : State) (t : TrackId) (p : Passage) (h : Head) (x : HeadRecord) : Prop :=
  ∃ shots, x.IsOf p { h with shots := shots } .cancelled ∧ shots.length = h.shots.length
    ∧ ∀ j (hj : j < shots.length) (k : j < h.shots.length),
      (s.WorksFor t p.number h h.shots[j] → shots[j] = { h.shots[j] with confirmation := .aborted })
      ∧ (¬s.WorksFor t p.number h h.shots[j] → shots[j] = h.shots[j])

theorem HeadRecord.IsOf.congr {x : HeadRecord} {p p' : Passage} {h : Head} {status : FinalStatus} (same : p.SameHeader p')
    (k : x.IsOf p' h status) : x.IsOf p h status := by
  obtain ⟨number, direction, rehearsal, overspeed⟩ := same
  unfold HeadRecord.IsOf at k ⊢
  rwa [number, direction, rehearsal, overspeed] at k

theorem recordOf_cancelled (s : State) (t : TrackId) (h : Head) :
    s.Cancelled t (s.channel t).passage h (s.recordOf t .cancelled h) := by
  refine ⟨s.settledShots t h .cancelled, headRecord_isOf _ _ _, by simp [State.settledShots], fun j _ k => ?_⟩
  have works : s.WorksFor t (s.channel t).passage.number h h.shots[j] ↔ s.shotOpen
      { track := t, passage := (s.channel t).passage.number, index := h.index, step := h.shots[j].step } = true := by
    simp [State.WorksFor, State.shotOpen, mem_allCameras]
  have shot : (s.settledShots t h .cancelled)[j]'(by simpa [State.settledShots] using k)
      = if s.shotOpen { track := t, passage := (s.channel t).passage.number, index := h.index, step := h.shots[j].step }
        then { h.shots[j] with confirmation := .aborted } else h.shots[j] := by
    simp only [State.settledShots, if_true, List.getElem_map]
  rw [works, shot]
  exact ⟨fun yes => if_pos yes, fun no => if_neg no⟩

theorem State.Cancelled.congr {p p' : Passage} {h : Head} {x : HeadRecord} (k : q.Cancelled t p' h x) (same : p.SameHeader p')
    (cameras : q.cameras = s.cameras) : s.Cancelled t p h x := by
  obtain ⟨shots, record, length, works⟩ := k
  have works_iff (y : Shot) : q.WorksFor t p'.number h y ↔ s.WorksFor t p.number h y := by
    simp only [State.WorksFor, State.camera, cameras, same.1]
  exact ⟨shots, record.congr same, length, fun j hj k => by rw [← works_iff]; exact works j hj k⟩

/-- The cancelled heads give their records in turn, where the store has room. -/
theorem cancelHeads_turned (inOrder : s.InOrder t) (room : s.store.records.length + (s.channel t).heads.length ≤ 32) :
    s.Turned (s.cancelHeads t) t ((s.channel t).heads.map (s.recordOf t .cancelled)) ((s.cancelHeads t).offeredOf t) :=
  (closeHeads_turned inOrder (List.Sublist.refl _) room).1

theorem cancelHeads_heads (s : State) (t : TrackId) : ((s.cancelHeads t).channel t).heads = [] := by
  rw [State.cancelHeads, closeHeads_heads]
  exact List.filter_eq_nil_iff.mpr fun h mem => by simpa [Channel.headIndices] using ⟨h, mem, rfl⟩

theorem cancelHeads_timeline (s : State) (t : TrackId) (e : TimelineEntry) : e ∈ (s.cancelHeads t).timeline
    ↔ e ∈ s.timeline ∧ ¬(e.track = t ∧ ∃ h ∈ (s.channel t).heads, h.index = e.index) := by
  rw [State.cancelHeads, closeHeads_timeline]
  simp [Channel.headIndices]

/-- What the cancellation of its heads leaves of a track. -/
theorem cancelHeads_channel (s : State) (t : TrackId) : let c := s.channel t
    let d := (s.cancelHeads t).channel t
    d.state = c.state ∧ d.approach = c.approach ∧ d.departure = c.departure ∧ d.staleTimer = c.staleTimer
    ∧ d.clearTimer = c.clearTimer ∧ d.speed = c.speed ∧ d.window = c.window ∧ d.passage.outcome = c.passage.outcome
    ∧ d.passage.approachOpen = c.passage.approachOpen ∧ d.passage.counts = c.passage.counts
    ∧ d.passage.estimates = c.passage.estimates ∧ d.passage.number = c.passage.number
    ∧ d.passage.closed = c.passage.closed := by
  obtain ⟨_, _, _, _, _, _, _, _, same⟩ := closeHeads_tends t .cancelled (s.channel t).headIndices s t
  rw [State.cancelHeads]
  dsimp only
  rw [same]
  exact ⟨rfl, rfl, rfl, rfl, rfl, rfl, rfl, rfl, rfl, rfl, rfl, rfl, rfl⟩

/-! ## An orphan (R12, R13, R32) -/

/-- The channel of a track as an orphan on a pair leaves it, before its heads close. -/
def Channel.orphaned (c : Channel) (w : WheelSensor) (r : PairRole) (ticks : Nat) : Channel :=
  (c.countPulse w ticks).reduce (orphanOutcome r)

theorem takePulse_orphan {w : WheelSensor} {r : PairRole} {stamp : LocalTime} (normal : (s.channel t).passage.outcome = .normal)
    (role : sensorRole (s.channel t).passage.direction w = (r, false)) (pair : ((s.channel t).pair r).state = .normal)
    (empty : ((s.channel t).pair r).queue = []) : s.takePulse t w stamp
      = ((s.updChannel t fun c => c.orphaned w r s.ticks).cancelHeads t).latch .passageAbnormal := by
  have same : ((s.updChannel t fun c => c.countPulse w s.ticks).channel t).pair r = (s.channel t).pair r := by
    rw [State.updChannel_same]
    cases r <;> rfl
  have direction : ((s.updChannel t fun c => c.countPulse w s.ticks).channel t).passage.direction
      = (s.channel t).passage.direction := by
    rw [State.updChannel_same]
    rfl
  dsimp only [State.takePulse]
  rw [if_pos normal, State.pairPulse, direction, role, same, if_neg (by simp [pair]), if_neg (by simp),
    State.secondSensorPulse, same, empty]
  simp only [pair, if_true]
  rw [State.orphan, State.updChannel_updChannel]
  rfl

/-- Settles O27. -/
theorem orphanMakesThePassageAbnormal : Obligations.OrphanMakesThePassageAbnormal := by
  intro s p t w stamp r accepts c works tracking role normal empty
  obtain ⟨counting, outcome⟩ := tracking
  obtain ⟨state, passage, approach, departure⟩ := accepts.keeps
  have disposed := execWheelPulseAccepted_of accepts
  have pair : (p.channel t).pair r = c.pair r := by cases r <;> simp [Channel.pair, approach, departure, c]
  rw [disposePulse_counting (by rw [Channel.Counting, state, passage]; exact counting),
    takePulse_orphan (by rw [passage]; exact outcome) (by rw [passage]; exact role) (by rw [pair]; exact normal)
      (by rw [pair]; exact empty)] at disposed
  obtain ⟨wheels, synthetic, rfl⟩ := accepts.updates
  rw [State.updChannel_updChannel] at disposed
  obtain ⟨q, same⟩ : ∃ q, s.updChannel t (fun c => { c with wheels := wheels, synthetic := synthetic }.orphaned w r s.ticks) = q :=
    ⟨_, rfl⟩
  rw [State.updChannel_ticks, same] at disposed
  have channel : q.channel t = { c with wheels := wheels, synthetic := synthetic }.orphaned w r s.ticks := by
    rw [← same, State.updChannel_same]
  have other : q.channel (otherTrack t) = s.channel (otherTrack t) := by
    rw [← same, State.updChannel_other _ _ (otherTrack_ne t)]
  have orphaned : Offers s q := by
    rw [← same]
    exact .of_link rfl rfl
  have offers : Offers s ((q.cancelHeads t).latch .passageAbnormal) :=
    (orphaned.trans (closeHeads_offers t _ _ q)).trans (.of_link rfl rfl)
  have timeline := cancelHeads_timeline q t
  have cancelled := cancelHeads_channel q t
  have turned := cancelHeads_turned (s := q) (t := t)
  rw [channel] at cancelled timeline turned
  obtain ⟨state, approach, departure, stale, clear, speed, window, outcome, open_, counts, estimates, -, -⟩ := cancelled
  have counted : satSucc top16 (c.passage.counts.get w) = min 65535 (c.passage.counts.get w + 1) := satSucc_eq _ _
  refine ⟨(q.cancelHeads t).latch .passageAbnormal, disposed, offers.rest, offers.follows,
    outcome.trans (by cases r <;> rfl), state.trans counting.1, cancelHeads_heads q t, approach, departure, stale, open_,
    clear, counts.trans (congrArg (c.passage.counts.set w) counted), speed, window, estimates,
    (closeHeads_channel_other (otherTrack_ne t) _ _ q).trans other, latch_latched _ .passageAbnormal, ?_, ?_⟩
  · rw [← same] at timeline ⊢
    exact timeline
  · intro inOrder room
    have store : q.store = s.store := by rw [← same]; rfl
    have link : q.link = s.link := by rw [← same]; rfl
    have cameras : q.cameras = s.cameras := by rw [← same]; rfl
    obtain ⟨ticks, time, -, -⟩ := orphaned.keeps
    obtain ⟨inTurn, offered, -⟩ := turned (inOrder.congr (by rw [channel]; rfl) store) (by rw [store]; exact room)
    refine ⟨_, _, inTurn.congr ⟨store.symm, link.symm, ticks.symm, time.symm⟩ ⟨rfl, rfl⟩, rfl, List.length_map _,
      fun i _ k => ?_⟩
    rw [List.getElem_map]
    exact (recordOf_cancelled q t c.heads[i]).congr (by rw [channel]; exact ⟨rfl, rfl, rfl, rfl⟩) cameras

end Sys2Proof.Machine
end

section
/-! Proofs: the PASSAGE record, and the abort of a passage (O18). -/

namespace Sys2Proof.Machine

variable {s u v : State} {t : TrackId} {given all : List HeadRecord}

/-! ## The PASSAGE record (R16, R18) -/

/-- The PASSAGE record is stored behind the others, where the store has room. -/
theorem offerPassage_room (room : s.store.records.length < 32) (t : TrackId) (agreed : Option Nat) :
    ∃ number next attention, s.offerPassage t agreed = { s with
      store := { s.store.passageOver t with
        records := s.store.records ++ [{
          number := number, track := t, stored := s.localTime, displaced := false
          body := .passage (passageRecord (s.channel t) agreed s.localTime) }]
        nextNumber := next }
      attention := attention } :=
  offer_room (s := { s with store := s.store.passageOver t }) room t _

theorem offeredOf_passageOver (s : State) (t : TrackId) :
    ({ s with store := s.store.passageOver t } : State).offeredOf t = [] := by
  simp [State.offeredOf, Store.passageOver, List.filter_filter]

theorem offeredOf_passageOver_other (s : State) {k : TrackId} (h : k ≠ t) :
    ({ s with store := s.store.passageOver t } : State).offeredOf k = s.offeredOf k := by
  simp only [State.offeredOf, Store.passageOver, List.filter_filter]
  refine congrArg _ (List.filter_congr fun o _ => ?_)
  by_cases same : o.track = k <;> simp [same, h]

/-- The PASSAGE record stands behind the HEAD records, and none of those gives up its place any more. -/
theorem State.Turned.offerPassage (turned : s.Turned v t given all) (room : s.store.records.length + given.length < 32)
    (agreed : Option Nat) : ∃ last, s.InTurn (v.offerPassage t agreed) t given all [last]
      ∧ (v.offerPassage t agreed).offeredOf t = [] ∧ last.track = t
      ∧ last.body = .passage (passageRecord (v.channel t) agreed v.localTime)
      ∧ (v.offerPassage t agreed).channels = v.channels ∧ (v.offerPassage t agreed).timeline = v.timeline := by
  have length := turned.inTurn.length
  rw [List.length_nil] at length
  obtain ⟨number, next, attention, offers⟩ := offerPassage_room (s := v) (by omega) t agreed
  obtain ⟨⟨perm, order, other, held, new, records, dealt, stored, still, replies⟩, -⟩ := turned
  rw [offers]
  refine ⟨{ number := number, track := t, stored := v.localTime, displaced := false,
            body := .passage (passageRecord (v.channel t) agreed v.localTime) },
    ⟨perm, order, ?_, held, new, ?_, dealt, stored, still, replies⟩, ?_, rfl, rfl, rfl, rfl⟩
  · exact (offeredOf_passageOver_other v (otherTrack_ne t)).trans other
  · rw [List.append_nil] at records
    change v.store.records ++ _ = _
    rw [records]
  · exact offeredOf_passageOver v t

theorem offerPassage_offers (s : State) (t : TrackId) (agreed : Option Nat) : Offers s (s.offerPassage t agreed) :=
  Offers.trans (u := { s with store := s.store.passageOver t }) (.of_link rfl rfl) (offer_offers _ _ _)

/-! ## The abort of a passage (R17) -/

/-- Nothing that offers change touches power. -/
theorem Offers.power (h : Offers s u) : u.strobes = s.strobes ∧ u.chargeQueue = s.chargeQueue ∧ u.charger = s.charger
    ∧ u.chgEn = s.chgEn ∧ u.chgSel = s.chgSel := by
  rw [h.rest]
  exact ⟨rfl, rfl, rfl, rfl, rfl⟩

theorem Offers.link_idle (h : Offers s u) (idle : s.LinkIdle) : u.link = s.link := by
  rcases h.follows with same | ⟨x, _, _, _, transmission, -⟩
  · exact same
  · exact absurd transmission (by simp [idle.1])

theorem CamerasRested.of_start (h : CamerasRested u v t) (same : u.cameras = s.cameras) : CamerasRested s v t := by
  intro i
  rw [h i, State.camera_eq same]

theorem PoolRested.of_start (h : PoolRested u v t) (offers : Offers s u)
    (other : u.channel (otherTrack t) = s.channel (otherTrack t)) : PoolRested s v t := by
  obtain ⟨strobes, queue, charger, en, sel⟩ := offers.power
  unfold PoolRested State.strobe at *
  rwa [other, strobes, queue, charger, en, sel] at h

/-- The passage as the abort leaves it, before its heads close. -/
def State.aborting (s : State) (t : TrackId) : State := s.updChannel t fun c => c.beginAbort s.localTime

/-- What the abort of a passage offers, with room in the store. -/
theorem abortPassage_turned (inOrder : s.InOrder t) (room : s.store.records.length + (s.channel t).heads.length + 1 ≤ 32) :
    ∃ all last p, s.InTurn (s.abortPassage t) t ((s.channel t).heads.map (s.recordOf t .cancelled)) all [last]
      ∧ (s.abortPassage t).offeredOf t = [] ∧ last.body = .passage p ∧ last.track = t ∧ p.outcome = .aborted
      ∧ p.agreed = none ∧ p.number = (s.channel t).passage.number ∧ p.counts = (s.channel t).passage.counts
      ∧ p.closed = (s.channel t).passage.closed.getD s.localTime := by
  have begun : (s.aborting t).channel t = (s.channel t).beginAbort s.localTime := State.updChannel_same s t _
  have record : (s.aborting t).recordOf t .cancelled = s.recordOf t .cancelled := funext fun h =>
    recordOf_congr (s := s) (u := s.aborting t) (by rw [begun]; exact ⟨rfl, rfl, rfl, rfl⟩) rfl .cancelled h
  have heads : ((s.aborting t).channel t).heads = (s.channel t).heads := by
    rw [begun]
    rfl
  have turned := cancelHeads_turned (inOrder.congr heads rfl) (by rw [heads]; exact (by omega : s.store.records.length + (s.channel t).heads.length ≤ 32))
  rw [heads, record] at turned
  obtain ⟨-, -, -, -, -, -, -, outcome, -, counts, -, number, closed⟩ := cancelHeads_channel (s.aborting t) t
  rw [begun] at outcome counts number closed
  obtain ⟨last, inTurn, offered, track, body, -⟩ := turned.offerPassage
    (by rw [List.length_map]; exact (by omega : s.store.records.length + (s.channel t).heads.length < 32)) none
  refine ⟨_, last, _, inTurn.congr ⟨rfl, rfl, rfl, rfl⟩ ⟨rfl, rfl⟩, offered, body, track, outcome, rfl, number, counts, ?_⟩
  change (((s.aborting t).cancelHeads t).channel t).passage.closed.getD _ = _
  rw [closed]
  rfl

/-- What the abort of a passage changes besides. -/
theorem abortPassage_frame (s : State) (t : TrackId) : Offers s (s.abortPassage t)
    ∧ ((s.abortPassage t).channel t).heads = []
    ∧ (∀ e, e ∈ (s.abortPassage t).timeline
      ↔ e ∈ s.timeline ∧ ¬(e.track = t ∧ ∃ h ∈ (s.channel t).heads, h.index = e.index))
    ∧ (s.abortPassage t).channel (otherTrack t) = s.channel (otherTrack t) := by
  have begins : Offers s (s.aborting t) := .of_link rfl rfl
  have heads : ((s.aborting t).channel t).heads = (s.channel t).heads := by
    rw [State.aborting, State.updChannel_same]
    rfl
  refine ⟨(begins.trans (closeHeads_offers t _ _ _)).trans (offerPassage_offers _ t _), ?_, fun e => ?_, ?_⟩
  · exact (offer_heads _ t t _).trans (cancelHeads_heads (s.aborting t) t)
  · have timeline := cancelHeads_timeline (s.aborting t) t e
    rw [heads] at timeline
    rw [State.abortPassage, State.offerPassage, offer_timeline]
    exact timeline
  · refine (offer_channel_other (otherTrack_ne t) _ _).trans ?_
    exact (closeHeads_channel_other (otherTrack_ne t) _ _ (s.aborting t)).trans (State.updChannel_other s _ (otherTrack_ne t))

/-- Settles O18. -/
theorem offlineAbortsThePassage : Obligations.OfflineAbortsThePassage := by
  intro s t body idle length track target c works state inOrder room own
  obtain ⟨all, last, p, inTurn, offered, passage, owner, outcome, agreed, number, counts, closed⟩ :=
    abortPassage_turned inOrder room
  obtain ⟨offers, none_, timeline, other⟩ := abortPassage_frame s t
  generalize abort : s.abortPassage t = a at *
  have quiet (i : Fin 8) (here : (a.camera i).track = some t) (r : ShotRef) (mem : r ∈ (a.camera i).openShots) :
      a.shotHeadOpen r = false := by
    rw [State.camera_eq offers.keeps.2.2.1] at here mem
    have own_ : r.track = t := own i here r mem
    simp [State.shotHeadOpen, State.findHead, own_, none_]
  obtain ⟨powers, other', cameras, pool, channel⟩ := powerDownTrack_quiet (s := a) (t := t) (f := Channel.leaveService) rfl
    (by simp [Channel.leaveService]) quiet
  change Powers a (a.leaveService t) at powers
  have store : (a.leaveService t).store = a.store := by rw [powers]
  have link : (a.leaveService t).link = a.link := by rw [powers]
  have frame : a.leaveService t = { s with
      channels := (a.leaveService t).channels, timeline := (a.leaveService t).timeline, store := (a.leaveService t).store,
      attention := (a.leaveService t).attention, cameras := (a.leaveService t).cameras,
      strobes := (a.leaveService t).strobes, chargeQueue := (a.leaveService t).chargeQueue,
      charger := (a.leaveService t).charger, chgEn := (a.leaveService t).chgEn, chgSel := (a.leaveService t).chgSel } := by
    have first := offers.rest
    rw [offers.link_idle idle] at first
    rw [powers, first]
  refine ⟨a.leaveService t, _, all, last, p, setTrackMode_answers idle length ?_ (powers.ticks.trans offers.keeps.1), frame,
    inTurn.congr ⟨rfl, rfl, rfl, rfl⟩ ⟨store, link⟩, ?_, List.length_map _, fun i _ k => ?_, passage, owner, outcome, agreed,
    number, counts, closed, ?_, cameras.of_start offers.keeps.2.2.1, pool.of_start offers other, ?_⟩
  · rw [handleSetTrackMode_offline track target, State.goOffline, state, ← abort]
    rfl
  · rw [State.offeredOf, store]
    exact offered
  · rw [List.getElem_map]
    exact recordOf_cancelled s t c.heads[i]
  · rw [show (a.leaveService t).timeline = a.timeline by rw [powers]]
    exact timeline
  · rw [State.leaveService, channel]
    exact ⟨rfl, rfl, none_, rfl, rfl, rfl, rfl, other'.trans other⟩

end Sys2Proof.Machine
end

section
/-! Proofs: sensor faults and the close report, entry by entry. -/

namespace Sys2Proof.Machine

variable {s u v : State} {t : TrackId}

/-! ## Latched events stay latched -/

/-- Every event that is latched in `s` is latched in `u`. -/
def State.KeepsEvents (s u : State) : Prop :=
  ∀ i, s.attention.latched.getLsbD i = true → u.attention.latched.getLsbD i = true

theorem State.KeepsEvents.refl (s : State) : s.KeepsEvents s := fun _ h => h

theorem State.KeepsEvents.trans (h : s.KeepsEvents u) (k : u.KeepsEvents v) : s.KeepsEvents v := fun i x => k i (h i x)

theorem latch_keepsEvents (s : State) (e : Event) : s.KeepsEvents (s.latch e) := by
  intro i h
  change (s.attention.latch e s.ticks).latched.getLsbD i = true
  have joins : (s.attention.latched ||| e.mask).getLsbD i = true := by rw [BitVec.getLsbD_or, h, Bool.true_or]
  unfold Attention.latch
  split
  · dsimp only
    split
    · simpa only [Attention.settle, ‹s.attention.mode = AttnMode.level›] using joins
    · split <;> exact joins
  · exact h

theorem latchSome_keepsEvents (s : State) (e : Option Event) : s.KeepsEvents (s.latchSome e) := by
  cases e with
  | none => exact .refl s
  | some e => exact latch_keepsEvents s e

theorem fault_keepsEvents (s : State) (i : Fin 12) : s.KeepsEvents (s.fault i) :=
  State.KeepsEvents.trans (u := s.updHealth i Health.fault) (.refl s) (latchSome_keepsEvents _ _)

theorem offer_keepsEvents (s : State) (t : TrackId) (body : RecordBody) : s.KeepsEvents (s.offer t body) := by
  unfold State.offer
  split
  · dsimp only
    split
    · exact latch_keepsEvents { s with store := s.store.append t s.localTime false body } _
    · exact .refl s
  · split
    · exact State.KeepsEvents.trans (u := s.countLost t body) (by cases body <;> exact .refl s) (latch_keepsEvents _ _)
    · exact latch_keepsEvents { s with store := ({ s.store with records := s.store.records.drop 1 } : Store).append t s.localTime true body } _

/-! ## Faults and the close report, entry by entry (R135, R138, R141) -/

@[simp] theorem latchSome_health (s : State) (e : Option Event) : (s.latchSome e).health = s.health := by
  cases e <;> rfl

@[simp] theorem fault_health (s : State) (i j : Fin 12) :
    (s.fault i).health[j] = if j = i then s.health[j].fault else s.health[j] := by
  rw [State.fault, latchSome_health]
  exact State.updHealth_health s i j _

@[simp] theorem latchSome_autoRejoin (s : State) (e : Option Event) : (s.latchSome e).autoRejoin = s.autoRejoin := by
  cases e <;> rfl

/-- A health entry after the close report on its sensor (R138, R141). -/
def Health.reported (h : Health) (autoRejoin : Bool) (agreed : Option Nat) (count : Nat) : Health :=
  match agreed with
  | none => if h.state = .excluded then { h with progress := 0 } else h
  | some n =>
    if count = n then
      if h.state = .excluded then
        if min 3 (h.progress + 1) = 3 && autoRejoin then h.rejoin else { h with progress := min 3 (h.progress + 1) }
      else h
    else if h.state = .excluded then { h.fault with progress := 0 } else h.fault

theorem agree_health (s : State) (i j : Fin 12) : (s.agree i).health[j]
    = if j = i then
        if min 3 (s.health[j].progress + 1) = 3 && s.autoRejoin then s.health[j].rejoin
        else { s.health[j] with progress := min 3 (s.health[j].progress + 1) }
      else s.health[j] := by
  unfold State.agree
  dsimp only
  by_cases same : j = i
  · subst same
    split
    · exact (State.updHealth_health s j j _).trans (by simp)
    · exact (State.updHealth_health s j j _).trans (by simp)
  · split
    · exact (State.updHealth_health s i j _).trans (by simp [same])
    · exact (State.updHealth_health s i j _).trans (by simp [same])

theorem reportSensor_health (s : State) (t : TrackId) (agreed : Option Nat) (counts : PerSensor Nat) (w : WheelSensor)
    (j : Fin 12) : (s.reportSensor t agreed counts w).health[j]
      = if j = wheelIndex t w then s.health[j].reported s.autoRejoin agreed (counts.get w) else s.health[j] := by
  unfold State.reportSensor
  dsimp only
  by_cases same : j = wheelIndex t w
  · subst same
    rw [if_pos rfl]
    unfold Health.reported
    by_cases excluded : s.health[wheelIndex t w].state = .excluded
    · rw [if_pos excluded]
      cases agreed with
      | none => simp only [State.updHealth_health, if_true, excluded]
      | some n => by_cases agrees : counts.get w = n <;>
          simp only [agrees, excluded, agree_health, State.updHealth_health, fault_health, if_true, if_false]
    · rw [if_neg excluded]
      cases agreed with
      | none => simp only [excluded, if_false]
      | some n => by_cases agrees : counts.get w = n <;> simp only [agrees, excluded, fault_health, if_true, if_false]
  · rw [if_neg same]
    by_cases excluded : s.health[wheelIndex t w].state = .excluded
    · rw [if_pos excluded]
      cases agreed with
      | none => simp only [State.updHealth_health, same, if_false]
      | some n => by_cases agrees : counts.get w = n <;>
          simp only [agrees, same, agree_health, State.updHealth_health, fault_health, if_true, if_false]
    · rw [if_neg excluded]
      cases agreed with
      | none => rfl
      | some n => by_cases agrees : counts.get w = n <;> simp only [agrees, same, fault_health, if_true, if_false]

theorem reportSensor_autoRejoin (s : State) (t : TrackId) (agreed : Option Nat) (counts : PerSensor Nat) (w : WheelSensor) :
    (s.reportSensor t agreed counts w).autoRejoin = s.autoRejoin :=
  (reportSensor_records s t agreed counts w).work.keeps.2.2.2.2.2.2.2.1

theorem wheelIndex_injective (t : TrackId) : (wheelIndex t).Injective := by
  intro w v h
  cases t <;> cases w <;> cases v <;> simp [wheelIndex] at h ⊢

theorem foldl_reportSensor_health (t : TrackId) (agreed : Option Nat) (counts : PerSensor Nat) (l : List WheelSensor)
    (different : l.Nodup) (s : State) (w : WheelSensor) :
    (l.foldl (fun s w => s.reportSensor t agreed counts w) s).health[wheelIndex t w]
      = if w ∈ l then s.health[wheelIndex t w].reported s.autoRejoin agreed (counts.get w) else s.health[wheelIndex t w] := by
  induction l generalizing s with
  | nil => simp
  | cons v rest ih =>
    obtain ⟨new, different⟩ := List.nodup_cons.mp different
    rw [List.foldl_cons, ih different, reportSensor_autoRejoin, reportSensor_health]
    by_cases same : w = v
    · subst same
      simp [new]
    · have other : wheelIndex t w ≠ wheelIndex t v := fun h => same (wheelIndex_injective t h)
      simp [same, other]

theorem foldl_reportSensor_other (t : TrackId) (agreed : Option Nat) (counts : PerSensor Nat) (l : List WheelSensor) (s : State)
    {i : Fin 12} (h : ∀ w, i ≠ wheelIndex t w) :
    (l.foldl (fun s w => s.reportSensor t agreed counts w) s).health[i] = s.health[i] := by
  induction l generalizing s with
  | nil => rfl
  | cons v rest ih => rw [List.foldl_cons, ih, reportSensor_health, if_neg (h v)]

theorem allSensors_nodup : allSensors.Nodup := by decide

/-- The close report on each wheel sensor of the track. -/
theorem closeReport_health (s : State) (t : TrackId) (agreed : Option Nat) (counts : PerSensor Nat) :
    (∀ w, (s.closeReport t agreed counts).health[wheelIndex t w]
      = s.health[wheelIndex t w].reported s.autoRejoin agreed (counts.get w))
    ∧ ∀ i : Fin 12, (∀ w, i ≠ wheelIndex t w) → (s.closeReport t agreed counts).health[i] = s.health[i] :=
  ⟨fun w => (foldl_reportSensor_health t agreed counts _ allSensors_nodup s w).trans (if_pos (mem_allSensors w)),
    fun _ h => foldl_reportSensor_other t agreed counts _ s h⟩

/-! ## A sensor that rejoins latches its event -/

theorem reportSensor_keepsEvents (s : State) (t : TrackId) (agreed : Option Nat) (counts : PerSensor Nat) (w : WheelSensor) :
    s.KeepsEvents (s.reportSensor t agreed counts w) := by
  have agrees (i : Fin 12) : s.KeepsEvents (s.agree i) := by
    unfold State.agree
    dsimp only
    split
    · exact State.KeepsEvents.trans (u := s.updHealth i Health.rejoin) (.refl s) (latch_keepsEvents _ _)
    · exact .refl s
  unfold State.reportSensor
  dsimp only
  split
  · split
    · split
      · exact agrees _
      · exact fault_keepsEvents s _
    · exact .refl s
  · split
    · split
      · exact .refl s
      · exact fault_keepsEvents s _
    · exact .refl s

theorem foldl_keepsEvents {α : Type} (f : State → α → State) (h : ∀ (s : State) x, s.KeepsEvents (f s x)) (l : List α)
    (s : State) : s.KeepsEvents (l.foldl f s) := by
  induction l generalizing s with
  | nil => exact .refl s
  | cons x rest ih => exact (h s x).trans (ih _)

theorem reportSensor_rejoins {n : Nat} {counts : PerSensor Nat} {w : WheelSensor}
    (excluded : s.health[wheelIndex t w].state = .excluded) (agrees : counts.get w = n)
    (third : 2 ≤ s.health[wheelIndex t w].progress) (switch : s.autoRejoin = true) :
    s.reportSensor t (some n) counts w = (s.updHealth (wheelIndex t w) Health.rejoin).latch .sensorRejoined := by
  have three : min 3 (s.health[wheelIndex t w].progress + 1) = 3 := by omega
  unfold State.reportSensor
  dsimp only
  rw [if_pos excluded, if_pos agrees, State.agree, three, switch]
  rfl

theorem foldl_reportSensor_rejoins {n : Nat} {counts : PerSensor Nat} {w : WheelSensor} (agrees : counts.get w = n)
    (l : List WheelSensor) (mem : w ∈ l) (different : l.Nodup) (s : State)
    (excluded : s.health[wheelIndex t w].state = .excluded) (third : 2 ≤ s.health[wheelIndex t w].progress)
    (switch : s.autoRejoin = true) :
    (l.foldl (fun s w => s.reportSensor t (some n) counts w) s).attention.latched.getLsbD 5 = true := by
  induction l generalizing s with
  | nil => simp at mem
  | cons v rest ih =>
    obtain ⟨new, different⟩ := List.nodup_cons.mp different
    rw [List.foldl_cons]
    rcases List.mem_cons.mp mem with rfl | mem
    · have keeps := foldl_keepsEvents _ (fun s v => reportSensor_keepsEvents s t (some n) counts v) rest
        (s.reportSensor t (some n) counts w) 5
      refine keeps ?_
      rw [reportSensor_rejoins excluded agrees third switch]
      exact latch_latched _ .sensorRejoined
    · have other : wheelIndex t w ≠ wheelIndex t v := fun h => new (wheelIndex_injective t h ▸ mem)
      have entry : (s.reportSensor t (some n) counts v).health[wheelIndex t w] = s.health[wheelIndex t w] := by
        rw [reportSensor_health, if_neg other]
      exact ih mem different _ (by rw [entry]; exact excluded) (by rw [entry]; exact third)
        (by rw [reportSensor_autoRejoin, switch])

/-- An EXCLUDED sensor that agrees for the third time rejoins where the switch is on, and its event is latched. -/
theorem closeReport_rejoins {n : Nat} {counts : PerSensor Nat} {w : WheelSensor}
    (excluded : s.health[wheelIndex t w].state = .excluded) (agrees : counts.get w = n)
    (third : 2 ≤ s.health[wheelIndex t w].progress) (switch : s.autoRejoin = true) :
    (s.closeReport t (some n) counts).attention.latched.getLsbD 5 = true := by
  rw [State.closeReport]
  exact foldl_reportSensor_rejoins agrees allSensors (mem_allSensors w) allSensors_nodup s excluded third switch

end Sys2Proof.Machine
end

section
/-! Proofs: what a close is made of: heads under test, the vote, stuck curtains. -/

namespace Sys2Proof.Machine

variable {s u v : State} {t : TrackId}

/-! ## Final statuses (R71) -/

theorem finalStatus_ordinary (h : Head) : finalStatus .ordinary h = h.ordinaryStatus := by
  have taken : h.shots.any Shot.taken = true ↔ ∃ x ∈ h.shots, x.outcome = .takenLit ∨ x.outcome = .takenUnlit := by
    simp [Shot.taken]
  unfold finalStatus Head.ordinaryStatus
  cases h.cursor <;> simp [taken]

theorem finalStatus_passageClose (h : Head) : finalStatus .passageClose h = h.passageCloseStatus := by
  have ordinary := finalStatus_ordinary h
  unfold finalStatus at ordinary ⊢
  unfold Head.passageCloseStatus
  by_cases missed : h.status = .untimed ∨ h.crossed = false
  · rw [if_pos missed]
    simp [missed]
  · rw [if_neg missed, ← ordinary]
    simp [missed]

/-! ## Heads under test as a passage closes (R14) -/

/-- While the passage of a track closes, the heads that no camera works for close. -/
theorem closeTests_closing (l : List Nat) (s : State) (closing : (s.channel t).closing = true) :
    s.closeTests t l = s.closeHeads t .passageClose (l.filter fun n => !s.headBusy t n) := by
  induction l generalizing s with
  | nil => rfl
  | cons n rest ih =>
    have cause : (s.channel t).closeCause = .passageClose := by simp [Channel.closeCause, closing]
    by_cases busy : s.headBusy t n = true
    · have stays : s.closeTest t n = s := by
        rw [State.closeTest]
        split
        · rfl
        · next h found =>
          obtain ⟨rfl, -⟩ := findHead_index found
          rw [if_neg (by simp [State.mayClose, busy])]
      rw [closeTests_cons, stays, ih s closing, List.filter_cons_of_neg (by simp [busy])]
    · have closes : s.closeTest t n = s.closeHead t n .passageClose := by
        rw [State.closeTest]
        split
        · next none => rw [closeHead_none none]
        · next h found =>
          obtain ⟨rfl, -⟩ := findHead_index found
          rw [if_pos (by simp [State.mayClose, busy, closing]), cause]
      have keeps := (closeHead_tends s t n .passageClose t).keeps
      have same (k : Nat) : (s.closeHead t n .passageClose).headBusy t k = s.headBusy t k := by
        simp only [State.headBusy, State.camera, (closeHead_offers s t n .passageClose).keeps.2.2.1, keeps.2.2.2.2.2.2.1]
      rw [closeTests_cons, closes, ih _ (keeps.1.trans closing), List.filter_cons_of_pos (by simp [busy])]
      simp only [same]
      rfl

/-! ## The channel as some heads leave it -/

theorem countClosed_eq (p : Passage) (captured : p.captured ≤ 255) (missed : p.missed ≤ 255) (status : FinalStatus) :
    p.countClosed status = { p with
      captured := min 255 (p.captured + if status = .captured then 1 else 0)
      missed := min 255 (p.missed + if status = .missed then 1 else 0) } := by
  cases status <;> simp [Passage.countClosed, satSucc_eq, top8, captured, missed]

theorem foldl_closedHead (cause : CloseCause) (l : List Head) (c : Channel) (captured : c.passage.captured ≤ 255)
    (missed : c.passage.missed ≤ 255) : l.foldl (Channel.closedHead cause) c = { c with
      heads := c.heads.filter fun h => h.index ∉ l.map fun h => h.index
      passage := { c.passage with
        captured := min 255 (c.passage.captured + l.countP fun h => finalStatus cause h = .captured)
        missed := min 255 (c.passage.missed + l.countP fun h => finalStatus cause h = .missed) } } := by
  induction l generalizing c with
  | nil => simp [captured, missed]
  | cons h rest ih =>
    have first : c.closedHead cause h = { c with
        heads := c.heads.filter fun g => g.index != h.index
        passage := { c.passage with
          captured := min 255 (c.passage.captured + if finalStatus cause h = .captured then 1 else 0)
          missed := min 255 (c.passage.missed + if finalStatus cause h = .missed then 1 else 0) } } := by
      rw [Channel.closedHead, countClosed_eq c.passage captured missed]
      rfl
    have saturates (a b n : Nat) : min 255 (min 255 (a + b) + n) = min 255 (a + (n + b)) := by omega
    rw [List.foldl_cons, first, ih _ (Nat.min_le_left _ _) (Nat.min_le_left _ _)]
    simp only [saturates, List.countP_cons, decide_eq_true_eq, List.filter_filter]
    congr 1
    refine List.filter_congr fun g _ => ?_
    by_cases same : g.index = h.index <;> simp [same]

/-! ## The vote (R15) -/

theorem PerSensor.countOf_eq (c : PerSensor Nat) (n : Nat) : c.countOf n = allSensors.countP fun w => c.get w == n :=
  (List.countP_eq_length_filter).symm

theorem PerSensor.countOf_sum (c : PerSensor Nat) (n : Nat) : c.countOf n
    = (if c.wao = n then 1 else 0) + (if c.wai = n then 1 else 0) + (if c.wbi = n then 1 else 0)
      + (if c.wbo = n then 1 else 0) := by
  rw [PerSensor.countOf_eq]
  simp [allSensors, List.countP_cons, PerSensor.get]
  omega

/-- Three of four sensors share one value at most, and the first or the second is one of them. -/
theorem PerSensor.countOf_unique {c : PerSensor Nat} {n m : Nat} (h : 3 ≤ c.countOf n) (k : 3 ≤ c.countOf m) : n = m := by
  rw [PerSensor.countOf_sum] at h k
  split_ifs at h k <;> omega

theorem PerSensor.countOf_first {c : PerSensor Nat} {n : Nat} (h : 3 ≤ c.countOf n) : n = c.wao ∨ n = c.wai := by
  rw [PerSensor.countOf_sum] at h
  split_ifs at h <;> omega

theorem vote_iff (c : PerSensor Nat) (n : Nat) : vote c = some n ↔ 3 ≤ allSensors.countP fun w => c.get w == n := by
  rw [← PerSensor.countOf_eq, vote]
  constructor
  · intro h
    split at h
    · next first =>
      obtain rfl := Option.some.inj h
      exact first
    · split at h
      · next second =>
        obtain rfl := Option.some.inj h
        exact second
      · exact absurd h (by simp)
  · intro shared
    split
    · next first => rw [PerSensor.countOf_unique first shared]
    · next first =>
      rcases PerSensor.countOf_first shared with rfl | rfl
      · exact absurd shared first
      · rw [if_pos shared]

/-! ## Stuck curtains (R73) -/

/-- A detector is stuck, outside rehearsal. -/
def Channel.Stuck (c : Channel) (d : Detector) : Prop := c.passage.rehearsal = false ∧ c.stuck d = true

theorem stuckTest_cases (s : State) (t : TrackId) (d : Detector) :
    ((s.channel t).Stuck d ∧ s.stuckTest t d = s.fault (detectorIndex t d))
    ∨ (¬(s.channel t).Stuck d ∧ s.stuckTest t d = s) := by
  unfold Channel.Stuck State.stuckTest State.faultUnlessRehearsal
  cases (s.channel t).stuck d <;> cases (s.channel t).passage.rehearsal <;> simp

/-- Only health entries and the attention unit may differ. -/
def Faults (s u : State) : Prop := u = { s with health := u.health, attention := u.attention }

theorem Faults.trans (h : Faults s u) (k : Faults u v) : Faults s v := by
  unfold Faults at *
  rw [k, h]

theorem fault_faults (s : State) (i : Fin 12) : Faults s (s.fault i) := by
  unfold State.fault
  cases healthEvent s.health[i].state s.health[i].fault.state <;> rfl

theorem stuckTest_faults (s : State) (t : TrackId) (d : Detector) : Faults s (s.stuckTest t d) := by
  obtain ⟨-, h⟩ | ⟨-, h⟩ := stuckTest_cases s t d
  · rw [h]
    exact fault_faults s _
  · rw [h]
    rfl

theorem stuckTest_health (s : State) (t : TrackId) (d : Detector) (i : Fin 12) :
    ((i = detectorIndex t d ∧ (s.channel t).Stuck d) → (s.stuckTest t d).health[i] = s.health[i].fault)
    ∧ (¬(i = detectorIndex t d ∧ (s.channel t).Stuck d) → (s.stuckTest t d).health[i] = s.health[i]) := by
  obtain ⟨stuck, h⟩ | ⟨free, h⟩ := stuckTest_cases s t d
  · rw [h]
    refine ⟨fun here => by rw [fault_health, if_pos here.1], fun other => ?_⟩
    rw [fault_health, if_neg fun same => other ⟨same, stuck⟩]
  · rw [h]
    exact ⟨fun here => absurd here.2 free, fun _ => rfl⟩

/-- Both detectors are tested. -/
def State.stuckTests (s : State) (t : TrackId) : State := allDetectors.foldl (fun s d => s.stuckTest t d) s

theorem stuckTests_faults (s : State) (t : TrackId) : Faults s (s.stuckTests t) :=
  (stuckTest_faults s t .hda).trans (stuckTest_faults _ t .hdb)

theorem detectorIndex_injective (t : TrackId) : (detectorIndex t).Injective := by
  intro d e h
  cases t <;> cases d <;> cases e <;> simp [detectorIndex] at h ⊢

theorem stuckTests_health (s : State) (t : TrackId) (i : Fin 12) :
    ((∃ d, i = detectorIndex t d ∧ (s.channel t).Stuck d) → (s.stuckTests t).health[i] = s.health[i].fault)
    ∧ ((¬∃ d, i = detectorIndex t d ∧ (s.channel t).Stuck d) → (s.stuckTests t).health[i] = s.health[i]) := by
  have first := stuckTest_health s t .hda i
  have second := stuckTest_health (s.stuckTest t .hda) t .hdb i
  rw [State.channel_eq (stuckTest_channels s t .hda)] at second
  change (_ → ((s.stuckTest t .hda).stuckTest t .hdb).health[i] = _) ∧ (_ → ((s.stuckTest t .hda).stuckTest t .hdb).health[i] = _)
  constructor
  · rintro ⟨_ | _, here, stuck⟩
    · have other : ¬(i = detectorIndex t .hdb ∧ (s.channel t).Stuck .hdb) := fun h => by
        have := detectorIndex_injective t (here.symm.trans h.1)
        simp at this
      rw [second.2 other, first.1 ⟨here, stuck⟩]
    · have other : ¬(i = detectorIndex t .hda ∧ (s.channel t).Stuck .hda) := fun h => by
        have := detectorIndex_injective t (here.symm.trans h.1)
        simp at this
      rw [second.1 ⟨here, stuck⟩, first.2 other]
  · intro free
    rw [second.2 fun h => free ⟨.hdb, h⟩, first.2 fun h => free ⟨.hda, h⟩]

/-! ## The close begins (R14) -/

/-- The track as its passage begins to close, before its heads are tested. -/
def State.beganClose (s : State) (t : TrackId) : State :=
  ((s.stuckTests t).updChannel t fun c => c.beginClose s.localTime s.ticks).dropEntries t

theorem beganClose_channels (s : State) (t : TrackId) :
    (s.beganClose t).channels = (s.updChannel t fun c => c.beginClose s.localTime s.ticks).channels := by
  have same : (s.stuckTests t).channels = s.channels := by rw [stuckTests_faults s t]
  rw [State.beganClose, State.dropEntries_channels]
  exact updChannel_channels_congr same

theorem beganClose_frame (s : State) (t : TrackId) : s.beganClose t = { s with
    channels := (s.beganClose t).channels, timeline := s.timeline.filter fun e => e.track != t
    health := (s.stuckTests t).health, attention := (s.beganClose t).attention } := by
  have faults := stuckTests_faults s t
  unfold Faults at faults
  unfold State.beganClose State.dropEntries State.updChannel
  rw [faults]

/-- The heads that close as the close begins. -/
def State.ended (s : State) (t : TrackId) : List Head := (s.channel t).heads.filter fun h => !s.headBusy t h.index

/-- The clear interval has run out: the heads that no camera works for close. -/
theorem beginClose_eq (s : State) (t : TrackId) (state : (s.channel t).state = .passage) : s.beginClose t
    = (s.beganClose t).closeHeads t .passageClose ((s.ended t).map fun h => h.index) := by
  have channel : (s.beganClose t).channel t = (s.channel t).beginClose s.localTime s.ticks := by
    rw [State.channel_eq (beganClose_channels s t), State.updChannel_same]
  have closing : ((s.beganClose t).channel t).closing = true := by
    rw [channel]
    simp [Channel.closing, Channel.beginClose, state]
  have busy (n : Nat) : (s.beganClose t).headBusy t n = s.headBusy t n := by
    have cameras : (s.beganClose t).cameras = s.cameras := by rw [beganClose_frame]
    simp only [State.headBusy, State.camera, cameras, channel]
    rfl
  change (s.beganClose t).closeTests t (s.channel t).headIndices = _
  rw [closeTests_closing _ _ closing, Channel.headIndices, State.ended, List.filter_map]
  simp only [busy, Function.comp_def]

theorem Head.abandon_eq (h : Head) :
    h.abandon = if h.status = .scheduled ∨ h.status = .held then { h with status := .finished } else h := by
  unfold Head.abandon
  cases status : h.status <;> simp

@[simp] theorem Head.abandon_index (h : Head) : h.abandon.index = h.index := by
  unfold Head.abandon
  split <;> rfl

/-- A head whose plan is abandoned closes as it would have. -/
theorem Head.abandon_passageCloseStatus (h : Head) : h.abandon.passageCloseStatus = h.passageCloseStatus := by
  unfold Head.abandon
  split
  · next status => simp [Head.passageCloseStatus, Head.ordinaryStatus, status]
  · next status => simp [Head.passageCloseStatus, Head.ordinaryStatus, status]
  · rfl
  · rfl

theorem HeadRecord.IsOf.of_abandon {x : HeadRecord} {p : Passage} {h : Head} {status : FinalStatus}
    (k : x.IsOf p h.abandon status) : x.IsOf p h status := by
  unfold Head.abandon at k
  split at k <;> exact k

theorem countP_finalStatus (l : List Head) (status : FinalStatus) :
    (l.map Head.abandon).countP (fun h => finalStatus .passageClose h = status)
      = l.countP fun h => h.passageCloseStatus = status := by
  rw [List.countP_map]
  refine List.countP_congr fun h _ => ?_
  simp [finalStatus_passageClose, Head.abandon_passageCloseStatus]

/-- The heads that stay are those that a camera works for. -/
theorem abandoned_waiting (s : State) (t : TrackId) :
    ((s.channel t).heads.map Head.abandon).filter (fun h => h.index ∉ ((s.ended t).map Head.abandon).map fun h => h.index)
      = ((s.channel t).heads.filter fun h => s.headBusy t h.index).map Head.abandon := by
  rw [List.filter_map]
  refine congrArg _ (List.filter_congr fun h mem => ?_)
  have ended : h.index ∈ ((s.ended t).map Head.abandon).map (fun h => h.index) ↔ s.headBusy t h.index = false := by
    simp only [List.map_map, List.mem_map, State.ended, List.mem_filter, Function.comp_apply, Head.abandon_index]
    constructor
    · rintro ⟨g, ⟨-, free⟩, same⟩
      simpa [same] using free
    · exact fun free => ⟨h, ⟨mem, by simp [free]⟩, rfl⟩
  simp only [Function.comp_apply, Head.abandon_index, ended]
  simp

/-- The heads that close as the close begins give their records in turn, with room in the store. -/
theorem beginClose_turned (state : (s.channel t).state = .passage) (inOrder : s.InOrder t)
    (room : s.store.records.length + (s.channel t).heads.length ≤ 32) :
    (s.beganClose t).Turned (s.beginClose t) t (((s.ended t).map Head.abandon).map ((s.beganClose t).recordOf t .passageClose))
      ((s.beginClose t).offeredOf t)
    ∧ (s.beginClose t).channels
      = ((s.beganClose t).updChannel t fun c => ((s.ended t).map Head.abandon).foldl (Channel.closedHead .passageClose) c).channels := by
  have heads : ((s.beganClose t).channel t).heads = (s.channel t).heads.map Head.abandon := by
    rw [State.channel_eq (beganClose_channels s t), State.updChannel_same]
    rfl
  have store : (s.beganClose t).store = s.store := by rw [beganClose_frame]
  have indices : (s.ended t).map (fun h => h.index) = ((s.ended t).map Head.abandon).map fun h => h.index := by simp
  have inOrder' : (s.beganClose t).InOrder t := by
    obtain ⟨order, offers, apart⟩ := inOrder
    have same : (fun h : Head => h.index) ∘ Head.abandon = fun h => h.index := funext Head.abandon_index
    refine ⟨by rw [heads, List.map_map, same]; exact order, by rw [State.offeredOf, store]; exact offers,
      fun x mem h closes => ?_⟩
    rw [heads] at closes
    obtain ⟨g, mem', rfl⟩ := List.mem_map.mp closes
    rw [Head.abandon_index]
    rw [State.offeredOf, store] at mem
    exact apart x mem g mem'
  have fewer : (s.ended t).length ≤ (s.channel t).heads.length := List.length_filter_le _ _
  rw [beginClose_eq s t state, indices]
  exact closeHeads_turned inOrder' (by rw [heads]; exact List.filter_sublist.map _)
    (by rw [store, List.length_map]; omega)

/-! ## The end of a close (R15, R16) -/

theorem clearDue_iff (c : Channel) (ticks : Nat) :
    c.clearDue ticks = true ↔ c.Counting ∧ ∃ d, c.clearTimer = some d ∧ d ≤ ticks := by
  cases timer : c.clearTimer <;> simp [Channel.clearDue, Channel.counting, Channel.Counting, timerDue, timer]

theorem closeOver_iff (c : Channel) :
    c.closeOver = true ↔ c.state = .passage ∧ c.passage.closed ≠ none ∧ c.heads = [] := by
  simp [Channel.closeOver, Channel.closing, Option.isSome_iff_ne_none, and_assoc]

end Sys2Proof.Machine
end

section
/-! Proofs: the clear interval closes a passage (O50). -/

namespace Sys2Proof.Machine

variable {s u v : State} {t : TrackId}

/-- What the beginning of a close changes, whatever the store holds. -/
theorem beginClose_frame (state : (s.channel t).state = .passage) :
    s.beginClose t = { s with
      channels := (s.beginClose t).channels, timeline := (s.beginClose t).timeline, health := (s.stuckTests t).health
      store := (s.beginClose t).store, attention := (s.beginClose t).attention, link := (s.beginClose t).link }
    ∧ s.LinkFollows (s.beginClose t)
    ∧ (∀ e, e ∈ (s.beginClose t).timeline ↔ e ∈ s.timeline ∧ e.track ≠ t)
    ∧ ((s.beginClose t).channel t).state = .passage
    ∧ ((s.beginClose t).channel t).passage.closed = some s.localTime := by
  have began := beganClose_frame s t
  have offers := closeHeads_offers t .passageClose ((s.ended t).map fun h => h.index) (s.beganClose t)
  have timeline := closeHeads_timeline t .passageClose ((s.ended t).map fun h => h.index) (s.beganClose t)
  have keeps := (closeHeads_tends t .passageClose ((s.ended t).map fun h => h.index) (s.beganClose t) t).keeps
  rw [State.channel_eq (beganClose_channels s t), State.updChannel_same] at keeps
  rw [← beginClose_eq s t state] at offers timeline keeps
  obtain ⟨-, -, -, -, state', closed, -, -⟩ := keeps
  refine ⟨?_, ?_, fun e => ?_, state'.trans state, closed⟩
  · have rest := offers.rest
    rw [began] at rest
    exact rest
  · have follows := offers.follows
    unfold State.LinkFollows at follows ⊢
    rw [show (s.beganClose t).link = s.link by rw [began], show (s.beganClose t).ticks = s.ticks by rw [began]] at follows
    exact follows
  · have left : (s.beganClose t).timeline = s.timeline.filter fun e => e.track != t := by rw [began]
    rw [timeline e, left, List.mem_filter]
    constructor
    · exact fun h => ⟨h.1.1, by simpa using h.1.2⟩
    · exact fun h => ⟨⟨h.1, by simpa using h.2⟩, fun k => h.2 k.1⟩

theorem recordOf_isOf (s : State) (t : TrackId) {cause : CloseCause} (h : cause ≠ .cancelled) (x : Head) :
    (s.recordOf t cause x).IsOf (s.channel t).passage x (finalStatus cause x) := by
  have shots : s.settledShots t x cause = x.shots := if_neg h
  rw [State.recordOf, shots]
  exact headRecord_isOf _ x _

/-- The heads that close as the close begins, their records and what is left of the track. -/
theorem beginClose_closes (state : (s.channel t).state = .passage) (inOrder : s.InOrder t)
    (room : s.store.records.length + (s.channel t).heads.length ≤ 32) (captured : (s.channel t).passage.captured ≤ 255)
    (missed : (s.channel t).passage.missed ≤ 255) :
    let c := s.channel t
    let ended := s.ended t
    let waiting := c.heads.filter fun h => s.headBusy t h.index
    ∃ given all : List HeadRecord, given.length = ended.length
      ∧ (∀ i (h : i < given.length) (k : i < ended.length), given[i].IsOf c.passage ended[i] ended[i].passageCloseStatus)
      ∧ s.InTurn (s.beginClose t) t given all [] ∧ (s.beginClose t).offeredOf t = all
      ∧ (s.beginClose t).channels = (s.updChannel t fun c =>
        { c with
          clearTimer := none
          staleTimer := none
          closingSince := some s.ticks
          passage := { c.passage with
            closed := some s.localTime, approachOpen := none
            captured := min 255 (c.passage.captured + ended.countP fun h => h.passageCloseStatus = .captured)
            missed := min 255 (c.passage.missed + ended.countP fun h => h.passageCloseStatus = .missed) }
          heads := waiting.map fun h =>
            if h.status = .scheduled ∨ h.status = .held then { h with status := .finished } else h }).channels := by
  intro c ended waiting
  have began := beganClose_frame s t
  have channel : (s.beganClose t).channel t = c.beginClose s.localTime s.ticks := by
    rw [State.channel_eq (beganClose_channels s t), State.updChannel_same]
  obtain ⟨turned, channels⟩ := beginClose_turned state inOrder room
  refine ⟨_, _, by simp [ended], fun i h k => ?_, turned.inTurn.congr ?_ ⟨rfl, rfl⟩, rfl, ?_⟩
  · rw [List.getElem_map, List.getElem_map]
    have record := recordOf_isOf (s.beganClose t) t (cause := .passageClose) (by simp) ended[i].abandon
    rw [finalStatus_passageClose, Head.abandon_passageCloseStatus, channel] at record
    exact record.of_abandon.congr ⟨rfl, rfl, rfl, rfl⟩
  · rw [began]
    exact ⟨rfl, rfl, rfl, rfl⟩
  · rw [channels, updChannel_channels_congr (beganClose_channels s t), State.updChannel_updChannel]
    refine congrArg State.channels (State.updChannel_congr ?_)
    have closed := foldl_closedHead .passageClose ((s.ended t).map Head.abandon) (c.beginClose s.localTime s.ticks) captured missed
    have stays : (c.beginClose s.localTime s.ticks).heads.filter
        (fun h => h.index ∉ ((s.ended t).map Head.abandon).map fun h => h.index) = waiting.map Head.abandon :=
      abandoned_waiting s t
    have abandons : waiting.map Head.abandon = waiting.map fun h =>
        if h.status = .scheduled ∨ h.status = .held then { h with status := .finished } else h :=
      List.map_congr_left fun h _ => h.abandon_eq
    rw [stays, countP_finalStatus, countP_finalStatus, abandons] at closed
    exact closed

/-! ## The last step of a close (R15, R16) -/

theorem Faults.foldl {α : Type} (f : State → α → State) (h : ∀ s x, Faults s (f s x)) (l : List α) (s : State) :
    Faults s (l.foldl f s) := by
  induction l generalizing s with
  | nil => rfl
  | cons x rest ih => exact (h s x).trans (ih _)

theorem reportSensor_faults (s : State) (t : TrackId) (agreed : Option Nat) (counts : PerSensor Nat) (w : WheelSensor) :
    Faults s (s.reportSensor t agreed counts w) := by
  have agrees (i : Fin 12) : Faults s (s.agree i) := by
    unfold State.agree
    dsimp only
    split <;> rfl
  unfold State.reportSensor
  dsimp only
  split
  · split
    · split
      · exact agrees _
      · exact (fault_faults s _).trans rfl
    · rfl
  · split
    · split
      · rfl
      · exact fault_faults s _
    · rfl

theorem reportClose_faults (s : State) (t : TrackId) : Faults s (s.reportClose t) := by
  unfold State.reportClose
  dsimp only
  split
  · exact .foldl _ (fun s w => reportSensor_faults s t _ _ w) _ s
  · rfl

/-- The last step of a close, with room in the store: the PASSAGE record is stored, and the track is IDLE. -/
theorem completeClose_room (s : State) (t : TrackId) (room : s.store.records.length < 32) :
    ∃ number next attention, (s.reportClose t).KeepsEvents { s with attention := attention }
      ∧ s.completeClose t = State.updChannel { s with
          health := (s.reportClose t).health
          store := { s.store.passageOver t with
            records := s.store.records ++ [{
              number := number, track := t, stored := s.localTime, displaced := false
              body := .passage (passageRecord (s.channel t) (s.channel t).passage.agreed s.localTime) }]
            nextNumber := next }
          attention := attention } t fun c => c.endPassage.enterIdle s.ticks := by
  have faults := reportClose_faults s t
  unfold Faults at faults
  have store : (s.reportClose t).store = s.store := by rw [faults]
  have channel : (s.reportClose t).channel t = s.channel t := by rw [faults]; rfl
  have time : (s.reportClose t).localTime = s.localTime := by rw [faults]
  obtain ⟨number, next, attention, offers⟩ := offerPassage_room (s := s.reportClose t) (by rw [store]; exact room) t
    (s.channel t).passage.agreed
  refine ⟨number, next, attention, ?_, ?_⟩
  · have keeps : (s.reportClose t).KeepsEvents ((s.reportClose t).offerPassage t (s.channel t).passage.agreed) :=
      offer_keepsEvents { s.reportClose t with store := (s.reportClose t).store.passageOver t } t _
    rw [offers] at keeps
    exact keeps
  · rw [State.completeClose, offers, store, channel, time, faults]

/-- An entry after the close report, as O50 says it. -/
theorem reported_cases (h : Health) (autoRejoin : Bool) (agreed : Option Nat) (count : Nat) :
    let after := h.reported autoRejoin agreed count
    (h.state ≠ .excluded → (agreed = none ∨ agreed = some count) → after = h)
    ∧ (h.state ≠ .excluded → agreed ≠ none → ¬agreed = some count → after = h.fault)
    ∧ (h.state = .excluded → agreed = none → after = { h with progress := 0 })
    ∧ (h.state = .excluded → agreed ≠ none → ¬agreed = some count →
        after = { h with faults := satSucc 4294967295 h.faults, progress := 0 })
    ∧ (h.state = .excluded → agreed = some count → ¬(2 ≤ h.progress ∧ autoRejoin = true) →
        after = { h with progress := min 3 (h.progress + 1) })
    ∧ (h.state = .excluded → agreed = some count → 2 ≤ h.progress → autoRejoin = true →
        after = { h with score := 0, progress := 0, state := .normal }) := by
  cases agreed with
  | none => by_cases excluded : h.state = .excluded <;> simp [Health.reported, excluded]
  | some n =>
    by_cases agrees : count = n
    · by_cases excluded : h.state = .excluded
      · by_cases rejoins : 2 ≤ h.progress ∧ autoRejoin = true
        · simp [Health.reported, agrees, excluded, rejoins, Health.rejoin]
        · simp [Health.reported, agrees, excluded, rejoins]
          exact fun enough => Bool.eq_false_iff.mpr fun switch => rejoins ⟨enough, switch⟩
      · simp [Health.reported, agrees, excluded]
    · have other : ¬n = count := fun h => agrees h.symm
      by_cases excluded : h.state = .excluded
      · simp [Health.reported, agrees, other, excluded, Health.fault, top32]
      · simp [Health.reported, agrees, other, excluded]

theorem reportClose_live (normal : (s.channel t).passage.outcome = .normal) (live : (s.channel t).passage.rehearsal = false) :
    s.reportClose t = s.closeReport t (s.channel t).passage.agreed (s.channel t).passage.counts := by
  rw [State.reportClose, if_pos (by simp [normal, live])]

/-- Settles O50. -/
theorem clearIntervalClosesThePassage : Obligations.ClearIntervalClosesThePassage := by
  intro s t c
  refine ⟨fun early open_ => ?_, fun d counting timer due => ?_, fun closed state closing empty room => ?_⟩
  · have timed : (s.channel t).clearDue s.ticks = false := by
      rw [Bool.eq_false_iff, Ne, clearDue_iff]
      rintro ⟨counting, d, timer, due⟩
      rcases early with idle | early
      · exact idle counting
      · have := early d timer
        omega
    have ended : (s.channel t).closeOver = false := by
      rw [Bool.eq_false_iff, Ne, closeOver_iff]
      exact open_
    change execClearIntervalExpiry t s = _
    rw [execClearIntervalExpiry, timed, ended]
    rfl
  · intro stuck
    obtain ⟨frame, follows, timeline, state, closed⟩ := beginClose_frame (s := s) (t := t) counting.1
    have health : (s.beginClose t).health = (s.stuckTests t).health := by rw [frame]
    refine ⟨s.beginClose t, ?_, ?_, follows, fun i => ?_, timeline, state, closed, fun inOrder room captured missed =>
      beginClose_closes counting.1 inOrder room captured missed⟩
    · change execClearIntervalExpiry t s = _
      rw [execClearIntervalExpiry, if_pos ((clearDue_iff _ _).mpr ⟨counting, d, timer, due⟩)]
    · rw [health]
      exact frame
    · have stuck_iff : stuck i ↔ ∃ d, i = detectorIndex t d ∧ (s.channel t).Stuck d := by
        simp only [stuck, Channel.Stuck, Channel.stuck, Bool.and_eq_true]
        constructor
        · rintro ⟨live, x, here, blocked, used⟩
          exact ⟨x, here, live, blocked, used⟩
        · rintro ⟨x, here, live, blocked, used⟩
          exact ⟨live, x, here, blocked, used⟩
      rw [stuck_iff, health]
      exact stuckTests_health s t i
  · obtain ⟨number, next, attention, events, completes⟩ := completeClose_room s t room
    have timed : (s.channel t).clearDue s.ticks = false := by
      rw [Bool.eq_false_iff, Ne, clearDue_iff]
      rintro ⟨⟨-, running⟩, -⟩
      rw [running] at closing
      exact absurd closing (by simp)
    have ended : (s.channel t).closeOver = true := (closeOver_iff _).mpr ⟨state, fun open_ => by simp [open_, c] at closing, empty⟩
    let x := passageRecord (s.channel t) (s.channel t).passage.agreed s.localTime
    have agreed : x.agreed = if c.passage.outcome = .normal then vote c.passage.counts else none := rfl
    refine ⟨s.completeClose t, { number := number, track := t, stored := s.localTime, displaced := false, body := .passage x }, x,
      ?_, ?_, ?_, rfl, rfl, ?_, fun other => ?_, fun normal n => ?_, ?_, ?_, fun quiet => ?_, fun normal live => ⟨fun i other => ?_,
        fun w => ?_⟩⟩
    · change execClearIntervalExpiry t s = _
      rw [execClearIntervalExpiry, timed, ended]
      rfl
    · rw [completes]
      rfl
    · rw [completes]
      rfl
    · have closed_ : x.closed = closed := by
        change (s.channel t).passage.closed.getD _ = _
        rw [show (s.channel t).passage.closed = some closed from closing]
        rfl
      rw [← closed_]
      rfl
    · rw [agreed, if_neg other]
    · rw [agreed, if_pos normal, vote_iff]
    · rw [completes]
      exact State.updChannel_other _ _ (otherTrack_ne t)
    · have heads : (s.channel t).heads = [] := empty
      rw [completes, State.updChannel_same]
      change (s.channel t).endPassage.enterIdle s.ticks = _
      simp [Channel.endPassage, Channel.emptyQueues, Channel.enterIdle, Channel.dormantStart, ticksPerS, heads, c]
    · have none_ : s.reportClose t = s := by
        rw [State.reportClose, if_neg]
        rcases quiet with other | dry
        · simp [show ¬(s.channel t).passage.outcome = .normal from other]
        · simp [show (s.channel t).passage.rehearsal = true from dry]
      rw [completes]
      change (s.reportClose t).health = s.health
      rw [none_]
    · have report := reportClose_live normal live
      have entry := (closeReport_health s t (s.channel t).passage.agreed (s.channel t).passage.counts).2 i other
      rw [← report] at entry
      rw [completes]
      exact entry
    · have report := reportClose_live normal live
      have entry := (closeReport_health s t (s.channel t).passage.agreed (s.channel t).passage.counts).1 w
      rw [← report] at entry
      have cases := reported_cases s.health[wheelIndex t w] s.autoRejoin x.agreed (c.passage.counts.get w)
      have after : (s.completeClose t).health[wheelIndex t w]
          = s.health[wheelIndex t w].reported s.autoRejoin x.agreed (c.passage.counts.get w) := by
        rw [completes]
        exact entry
      rw [← after] at cases
      obtain ⟨kept, faulted, cleared, counted, progressed, rejoined⟩ := cases
      refine ⟨kept, faulted, cleared, counted, progressed, fun excluded agrees third switch =>
        ⟨rejoined excluded agrees third switch, ?_⟩⟩
      have latched : (s.reportClose t).attention.latched.getLsbD 5 = true := by
        rw [report, show (s.channel t).passage.agreed = some (c.passage.counts.get w) from agrees]
        exact closeReport_rejoins excluded rfl third switch
      rw [completes]
      change attention.latched.getLsbD 5 = true
      exact events 5 latched

end Sys2Proof.Machine
end

section
/-! Proofs: results that are noted, and the heads that they close. -/

namespace Sys2Proof.Machine

variable {s u v : State} {t : TrackId} {r q : ShotRef} {result second : Confirmation} {h : Head} {n : Nat} {given all : List HeadRecord}

/-! ## A result that is noted (R111) -/

theorem shotHeadOpen_iff : s.shotHeadOpen r = true ↔ (s.channel r.track).state = .passage
    ∧ (s.channel r.track).passage.number = r.passage ∧ s.findHead r.track r.index ≠ none := by
  simp [State.shotHeadOpen, Option.isSome_iff_ne_none, and_assoc]

/-- The state with a result noted on the head of its shot. -/
def State.noted (s : State) (r : ShotRef) (result : Confirmation) : State :=
  s.updHead r.track r.index fun h => h.settleShot r.step result

theorem settleResult_open (open_ : s.shotHeadOpen r = true) : s.settleResult r result = s.noted r result := if_pos open_

theorem settleResult_closed (closed : s.shotHeadOpen r = false) : s.settleResult r result = s := by
  simp [State.settleResult, closed]

/-- Noting a result changes shots alone. -/
theorem findHead_noted (s : State) (r : ShotRef) (result : Confirmation) (t : TrackId) (n : Nat) :
    (s.noted r result).findHead t n
      = (s.findHead t n).map fun h => if t = r.track ∧ h.index = r.index then h.settleShot r.step result else h := by
  unfold State.findHead State.noted State.updHead
  by_cases same : t = r.track
  · subst same
    rw [State.updChannel_same, List.find?_map]
    have index : ((fun h : Head => h.index == n) ∘ fun h => if h.index = r.index then h.settleShot r.step result else h)
        = fun h => h.index == n := by
      funext h
      by_cases here : h.index = r.index <;> simp [here, Head.settleShot]
    rw [index]
    simp
  · rw [State.updChannel_other _ _ same]
    simp [same]

theorem noted_channel (s : State) (r : ShotRef) (result : Confirmation) (t : TrackId) :
    ∃ heads, (s.noted r result).channel t = { s.channel t with heads := heads } := by
  by_cases same : t = r.track
  · subst same
    exact ⟨_, State.updChannel_same s r.track _⟩
  · exact ⟨(s.channel t).heads, State.updChannel_other s _ same⟩

theorem settleResult_keeps (s : State) (r : ShotRef) (result : Confirmation) (t : TrackId) :
    (∃ heads, (s.settleResult r result).channel t = { s.channel t with heads := heads })
    ∧ (s.settleResult r result).cameras = s.cameras ∧ (s.settleResult r result).ticks = s.ticks
    ∧ ∀ n, ((s.settleResult r result).findHead t n = none ↔ s.findHead t n = none) := by
  obtain ⟨-, same⟩ | ⟨-, same⟩ := settleResult_cases s r result
  · rw [same]
    exact ⟨⟨_, rfl⟩, rfl, rfl, fun _ => Iff.rfl⟩
  · refine same ▸ ⟨noted_channel s r result t, rfl, rfl, fun n => ?_⟩
    have found := findHead_noted s r result t n
    unfold State.noted at found
    rw [found, Option.map_eq_none_iff]

theorem shotHeadOpen_settleResult (s : State) (r q : ShotRef) (result : Confirmation) :
    (s.settleResult q result).shotHeadOpen r = s.shotHeadOpen r := by
  obtain ⟨⟨heads, channel⟩, -, -, found⟩ := settleResult_keeps s q result r.track
  rw [Bool.eq_iff_iff, shotHeadOpen_iff, shotHeadOpen_iff, Ne, found, channel]

theorem headBusy_settleResult (s : State) (q : ShotRef) (result : Confirmation) (t : TrackId) (n : Nat) :
    (s.settleResult q result).headBusy t n = s.headBusy t n := by
  obtain ⟨⟨heads, channel⟩, cameras, -, -⟩ := settleResult_keeps s q result t
  simp only [State.headBusy, State.camera, cameras, channel]

/-! ## A shot whose head has closed gets nothing (R111) -/

theorem closeTest_shotHeadOpen (closed : s.shotHeadOpen r = false) (t : TrackId) (n : Nat) :
    (s.closeTest t n).shotHeadOpen r = false := by
  obtain same | ⟨h, -, -, closes⟩ := closeTest_cases s t n
  · rwa [same]
  · rw [closes]
    rw [Bool.eq_false_iff, Ne, shotHeadOpen_iff] at closed ⊢
    have keeps := (closeHead_tends s t n (s.channel t).closeCause r.track).keeps
    rintro ⟨state, number, found⟩
    refine closed ⟨keeps.2.2.2.2.1.symm.trans state, keeps.2.2.2.2.2.2.1.symm.trans number, fun none => found ?_⟩
    rw [findHead_none_iff] at none ⊢
    intro g mem
    by_cases same : r.track = t
    · subst same
      rw [closeHead_heads] at mem
      exact none g (List.mem_filter.mp mem).1
    · rw [closeHead_channel_other same] at mem
      exact none g mem

theorem completeClose_shotHeadOpen (closed : s.shotHeadOpen r = false) (t : TrackId) :
    (s.completeClose t).shotHeadOpen r = false := by
  rw [Bool.eq_false_iff, Ne, shotHeadOpen_iff] at closed ⊢
  by_cases same : r.track = t
  · subst same
    have idle : ((s.completeClose r.track).channel r.track).state = .idle := by
      rw [State.completeClose, State.updChannel_same]
      rfl
    rw [idle]
    exact fun h => absurd h.1 (by simp)
  · have channel : (s.completeClose t).channel r.track = s.channel r.track := by
      rw [State.completeClose, State.updChannel_other _ _ same, State.offerPassage, offer_channel_other same]
      exact State.channel_eq (reportClose_channels s t) _
    simpa only [State.findHead, channel] using closed

theorem testShotHead_shotHeadOpen (closed : s.shotHeadOpen r = false) (q : ShotRef) :
    (s.testShotHead q).shotHeadOpen r = false := by
  unfold State.testShotHead
  split
  · have tested := closeTest_shotHeadOpen closed q.track q.index
    obtain same | ⟨-, -, -, completes⟩ := settleClose_cases (s.closeTest q.track q.index) q.track
    · rw [State.testHead, same]
      exact tested
    · rw [State.testHead, completes]
      exact completeClose_shotHeadOpen tested q.track
  · exact closed

theorem testShotHead_closed (closed : s.shotHeadOpen r = false) : s.testShotHead r = s := by
  simp [State.testShotHead, closed]

theorem handOverBoth_closed (closed : s.shotHeadOpen r = false) (q : ShotRef) (result second : Confirmation) :
    s.handOverBoth r result q second = s.handOver q second ∧ s.handOverBoth q second r result = s.handOver q second := by
  have after : (s.settleResult q second).shotHeadOpen r = false := (shotHeadOpen_settleResult s r q second).trans closed
  constructor
  · rw [State.handOverBoth, settleResult_closed closed, testShotHead_closed after, State.handOver]
  · rw [State.handOverBoth, settleResult_closed after, testShotHead_closed (testShotHead_shotHeadOpen after q), State.handOver]

/-! ## A head that its result leaves open, and one that it closes (R70) -/

/-- A head in the open passage that does not meet the conditions of R70 stays. -/
theorem testShotHead_stays (open_ : (s.channel r.track).closing = false)
    (waits : ∀ h, s.findHead r.track r.index = some h → s.mayClose r.track h = false) : s.testShotHead r = s := by
  have stays : s.closeTest r.track r.index = s := by
    unfold State.closeTest
    split
    · rfl
    · next h found => simp [waits h found]
  unfold State.testShotHead
  split
  · rw [testHead_open (by rw [stays]; exact open_), stays]
  · rfl

theorem mayClose_settleResult (s : State) (q : ShotRef) (result : Confirmation) (t : TrackId) (h g : Head)
    (same : g.status = h.status ∧ g.confirmed = h.confirmed ∧ g.departed = h.departed ∧ g.index = h.index) :
    (s.settleResult q result).mayClose t g = s.mayClose t h := by
  obtain ⟨⟨heads, channel⟩, -, -, -⟩ := settleResult_keeps s q result t
  obtain ⟨status, confirmed, departed, index⟩ := same
  have closing : ((s.settleResult q result).channel t).closing = (s.channel t).closing := by rw [channel]; rfl
  simp only [State.mayClose, status, confirmed, departed, index, closing, headBusy_settleResult]

theorem findHead_settleResult (found : s.findHead t n = some h) (q : ShotRef) (result : Confirmation) :
    ∃ shots, (s.settleResult q result).findHead t n = some { h with shots := shots } := by
  obtain ⟨-, same⟩ | ⟨-, same⟩ := settleResult_cases s q result
  · rw [same]
    exact ⟨h.shots, found⟩
  · have note := findHead_noted s q result t n
    unfold State.noted at note
    rw [same, note, found, Option.map_some]
    split
    · exact ⟨_, rfl⟩
    · exact ⟨h.shots, rfl⟩

theorem findHead_noted_own (found : s.findHead r.track r.index = some h) (result : Confirmation) :
    (s.noted r result).findHead r.track r.index = some (h.settleShot r.step result) := by
  obtain ⟨index, -⟩ := findHead_index found
  rw [findHead_noted, found, Option.map_some, if_pos ⟨rfl, index⟩]

/-- A result that is the last condition of its head closes the head. -/
theorem handOver_closes (found : s.findHead r.track r.index = some h) (open_ : s.shotHeadOpen r = true)
    (closes : s.mayClose r.track h = true) : s.handOver r result
      = ((s.noted r result).closeHead r.track r.index (s.channel r.track).closeCause).settleClose r.track := by
  have noted := settleResult_open (result := result) open_
  have still : (s.noted r result).shotHeadOpen r = true := by
    rw [← noted, shotHeadOpen_settleResult, open_]
  have may : (s.noted r result).mayClose r.track (h.settleShot r.step result) = true := by
    rw [← noted, mayClose_settleResult s r result r.track h (h.settleShot r.step result) ⟨rfl, rfl, rfl, rfl⟩, closes]
  obtain ⟨heads, channel⟩ := noted_channel s r result r.track
  have cause : ((s.noted r result).channel r.track).closeCause = (s.channel r.track).closeCause := by
    rw [channel]
    rfl
  rw [State.handOver, noted, State.testShotHead, if_pos still, State.testHead, State.closeTest,
    findHead_noted_own found result]
  simp only [may, if_true, cause]

theorem noted_heads_left (s : State) (r : ShotRef) (result : Confirmation) :
    ((s.noted r result).channel r.track).heads.filter (fun h => h.index != r.index)
      = (s.channel r.track).heads.filter fun h => h.index != r.index := by
  unfold State.noted State.updHead
  rw [State.updChannel_same]
  dsimp only
  induction (s.channel r.track).heads with
  | nil => rfl
  | cons g rest ih =>
    by_cases same : g.index = r.index
    · simpa [same, Head.settleShot] using ih
    · simpa [same] using ih

/-- A head whose last condition is a result closes behind those that have closed. -/
theorem State.Turned.noted_closeHead {cause : CloseCause} (turned : s.Turned u r.track given all)
    (found : u.findHead r.track r.index = some h) (ordinary : cause ≠ .cancelled)
    (new : ∀ x ∈ all, x.index ≠ r.index) (room : s.store.records.length + given.length < 32)
    (apart : ∀ a ∈ given, a.index < r.index ∨ s.Without r.track a) :
    let settled := h.settleShot r.step result
    let v := (u.noted r result).closeHead r.track r.index cause
    ∃ record, s.Turned v r.track (given ++ [record]) (v.offeredOf r.track)
      ∧ record.IsOf (u.channel r.track).passage settled (finalStatus cause settled) ∧ record.index = r.index
      ∧ (v.channel r.track).heads = (u.channel r.track).heads.filter (fun h => h.index != r.index)
      ∧ (v.channel r.track).state = (u.channel r.track).state
      ∧ (v.channel r.track).passage.number = (u.channel r.track).passage.number
      ∧ (v.channel r.track).passage.closed = (u.channel r.track).passage.closed
      ∧ (v.channel r.track).closingSince = (u.channel r.track).closingSince
      ∧ (u.channel r.track).passage.SameHeader (v.channel r.track).passage
      ∧ v.cameras = u.cameras := by
  intro settled v
  obtain ⟨index, -⟩ := findHead_index found
  have index' : settled.index = r.index := index
  obtain ⟨heads, channel⟩ := noted_channel u r result r.track
  have noted : s.Turned (u.noted r result) r.track given all := turned.congr rfl rfl rfl rfl
  have own : (u.noted r result).findHead r.track settled.index = some settled := by
    rw [index']
    exact findHead_noted_own found result
  obtain ⟨closes, channels⟩ := noted.closeHead (cause := cause) own (by rw [index']; exact new) room
    (by rw [index']; exact apart)
  rw [index'] at closes channels
  have offered := closes.offered
  have isOf := recordOf_isOf (u.noted r result) r.track ordinary settled
  rw [channel] at isOf
  have left : v.channel r.track = ((u.noted r result).channel r.track).closedHead cause settled := by
    rw [State.channel_eq channels, State.updChannel_same]
  have left_heads : (v.channel r.track).heads = (u.channel r.track).heads.filter fun h => h.index != r.index := by
    rw [closeHead_heads, noted_heads_left]
  have header := countClosed_header (u.channel r.track).passage (finalStatus cause settled)
  rw [channel] at left
  have passage : (v.channel r.track).passage = (u.channel r.track).passage.countClosed (finalStatus cause settled) := by
    rw [left]
    rfl
  refine ⟨_, offered.symm ▸ closes, isOf, index', left_heads, ?_, ?_, ?_, ?_, ?_, (closeHead_offers _ _ _ _).keeps.2.2.1⟩
  · rw [left]
    rfl
  · rw [passage]
    exact header.1
  · rw [passage]
    cases finalStatus cause settled <;> rfl
  · rw [left]
    rfl
  · rw [passage]
    exact header

end Sys2Proof.Machine
end

section
/-! Proofs: windows that close with a result, one and two at an instant. -/

namespace Sys2Proof.Machine

variable {s u : State} {t : TrackId} {r : ShotRef} {result : Confirmation} {h a b : Head} {given all : List HeadRecord}
  {i j k : Fin 8} {w v : ConfirmWindow} {f : Camera → Camera}

/-! ## One camera holds the last shot of a head -/

/-- Camera `k` is recovering, its window is open for a shot of the head, and no other camera works for that head. -/
structure State.LastFor (s : State) (t : TrackId) (k : Fin 8) (w : ConfirmWindow) (h : Head) : Prop where
  window : (s.camera k).confirm = some w
  recovering : (s.camera k).state = .recovering
  track : w.shot.track = t
  passage : w.shot.passage = (s.channel t).passage.number
  index : w.shot.index = h.index
  only : ∀ m, ∀ r ∈ (s.camera m).openShots, r.track = t → r.passage = (s.channel t).passage.number → r.index = h.index → m = k

/-- The window of a camera is shut, its state as it was. -/
def Camera.Shuts (f : Camera → Camera) : Prop := ∀ c, (f c).confirm = none ∧ (f c).state = c.state

theorem openShots_shut (shuts : Camera.Shuts f) (recovering : (s.camera k).state = .recovering) :
    ((s.updCamera k f).camera k).openShots = [] := by
  obtain ⟨window, state⟩ := shuts (s.camera k)
  rw [State.updCamera_camera, if_pos rfl]
  simp [Camera.openShots, window, state, recovering]

/-- Once its window is shut, nothing works for the head any more. -/
theorem State.LastFor.free (last : s.LastFor t k w h) (shuts : Camera.Shuts f) :
    (s.updCamera k f).headBusy t h.index = false := by
  rw [Bool.eq_false_iff]
  intro busy
  simp only [State.headBusy, List.any_eq_true] at busy
  obtain ⟨m, -, r, mem, own⟩ := busy
  by_cases same : m = k
  · rw [same, openShots_shut shuts last.recovering] at mem
    simp at mem
  · rw [State.updCamera_camera, if_neg same] at mem
    simp only [ShotRef.isOf, Bool.and_eq_true, beq_iff_eq] at own
    obtain ⟨⟨track, passage⟩, index⟩ := own
    exact same (last.only m r mem track passage index)

/-- What `mayClose` asks of a head beside its shots. -/
def State.Due (s : State) (t : TrackId) (h : Head) : Prop :=
  (s.channel t).closing = true ∨ (h.status = .finished ∧ (h.confirmed = true ∨ h.departed = true))

theorem mayClose_iff (s : State) (t : TrackId) (h : Head) : s.mayClose t h = true ↔ s.Due t h ∧ s.headBusy t h.index = false := by
  simp [State.mayClose, State.Due, or_comm]

/-- The head with the result of a shot noted. -/
def Head.withResult (h : Head) (w : ConfirmWindow) (result : Confirmation) : Head := h.settleShot w.shot.step result

/-- The state as the last result of a head has closed it, before the passage is looked at. -/
def State.afterResult (s : State) (k : Fin 8) (f : Camera → Camera) (w : ConfirmWindow) (result : Confirmation) : State :=
  ((s.updCamera k f).noted w.shot result).closeHead w.shot.track w.shot.index (s.channel w.shot.track).closeCause

/-- The last result of a head closes it behind those that have closed. -/
theorem State.Turned.lastResult (turned : s.Turned u t given all) (last : u.LastFor t k w h) (shuts : Camera.Shuts f)
    (found : u.findHead t h.index = some h) (state : (u.channel t).state = .passage) (due : u.Due t h)
    (new : ∀ x ∈ all, x.index ≠ h.index) (room : s.store.records.length + given.length < 32)
    (apart : ∀ x ∈ given, x.index < h.index ∨ s.Without t x) (result : Confirmation) :
    let z := u.afterResult k f w result
    let settled := h.withResult w result
    (u.updCamera k f).handOver w.shot result = z.settleClose t
    ∧ ∃ record, s.Turned z t (given ++ [record]) (z.offeredOf t)
      ∧ record.IsOf (u.channel t).passage settled (finalStatus (u.channel t).closeCause settled) ∧ record.index = h.index
      ∧ (z.channel t).heads = (u.channel t).heads.filter (fun g => g.index != h.index)
      ∧ (z.channel t).state = (u.channel t).state
      ∧ (z.channel t).passage.number = (u.channel t).passage.number
      ∧ (z.channel t).passage.closed = (u.channel t).passage.closed
      ∧ (z.channel t).closingSince = (u.channel t).closingSince
      ∧ (u.channel t).passage.SameHeader (z.channel t).passage
      ∧ z.cameras = (u.updCamera k f).cameras := by
  obtain ⟨-, -, rfl, passage, index, -⟩ := id last
  rw [← index] at found new apart
  have free := last.free shuts
  have may : (u.updCamera k f).mayClose w.shot.track h = true := (mayClose_iff _ _ _).mpr ⟨due, free⟩
  have open_ : (u.updCamera k f).shotHeadOpen w.shot = true :=
    shotHeadOpen_iff.mpr ⟨state, passage.symm, by
      change u.findHead _ _ ≠ none
      rw [found]
      simp⟩
  have ordinary : (u.channel w.shot.track).closeCause ≠ .cancelled := by
    unfold Channel.closeCause
    split <;> simp
  have same : s.Turned (u.updCamera k f) w.shot.track given all := turned.congr rfl rfl rfl rfl
  have closes := same.noted_closeHead (result := result) found ordinary new room apart
  rw [index] at closes
  have hands := handOver_closes (result := result) (s := u.updCamera k f) found open_ may
  refine ⟨hands, ?_⟩
  unfold State.afterResult
  rw [index]
  exact closes

/-! ## Two heads at one instant -/

theorem settleClose_stays (h : (s.channel t).closing = false ∨ (s.channel t).heads ≠ []
    ∨ (s.channel t).closingSince = some s.ticks) : s.settleClose t = s := by
  obtain same | ⟨closing, empty, since, -⟩ := settleClose_cases s t
  · exact same
  · rcases h with open_ | more | now
    · simp [open_] at closing
    · exact absurd empty more
    · exact absurd now since

theorem closing_congr {c d : Channel} (state : d.state = c.state) (closed : d.passage.closed = c.passage.closed) :
    d.closing = c.closing := by
  simp only [Channel.closing, state, closed]

/-- Two heads that are due each get their last result at this instant, `a` first: the first closes, then the second. -/
theorem two_results (inOrder : s.InOrder t) (state : (s.channel t).state = .passage) (first : s.LastFor t i w a)
    (second : s.LastFor t j v b) (cameras : i ≠ j) (shuts : Camera.Shuts f) (foundFirst : s.findHead t a.index = some a)
    (foundSecond : s.findHead t b.index = some b) (heads : a.index ≠ b.index) (dueFirst : s.Due t a) (dueSecond : s.Due t b)
    (room : s.store.records.length + 2 ≤ 32) (result : Confirmation)
    (apart : a.index < b.index ∨ ∀ x : HeadRecord, x.IsOf (s.channel t).passage (a.withResult w result)
      (finalStatus (s.channel t).closeCause (a.withResult w result)) → s.Without t x) :
    let y := (s.updCamera i f).handOver w.shot result
    ∃ z ra rb, (y.updCamera j f).handOver v.shot result = z.settleClose t
      ∧ y.camera j = s.camera j ∧ y.ticks = s.ticks ∧ s.Turned z t [ra, rb] (z.offeredOf t)
      ∧ ra.IsOf (s.channel t).passage (a.withResult w result) (finalStatus (s.channel t).closeCause (a.withResult w result))
      ∧ rb.IsOf (s.channel t).passage (b.withResult v result) (finalStatus (s.channel t).closeCause (b.withResult v result))
      ∧ (z.channel t).heads
        = ((s.channel t).heads.filter fun g => g.index != a.index).filter (fun g => g.index != b.index)
      ∧ (z.channel t).state = .passage ∧ (z.channel t).passage.closed = (s.channel t).passage.closed
      ∧ (z.channel t).closingSince = (s.channel t).closingSince := by
  intro y
  obtain ⟨order, offers, offeredApart⟩ := inOrder
  have inFirst := (findHead_index foundFirst).2
  have inSecond := (findHead_index foundSecond).2
  obtain ⟨handsFirst, ra, turned, isOf, index, left, state', number, closed, since, header, worked⟩ :=
    (State.Turned.refl offers).lastResult first shuts foundFirst state dueFirst
      (fun x mem => (offeredApart x mem a inFirst).symm) (by simp; omega) (by simp) result
  generalize s.afterResult i f w result = y' at *
  have closing := closing_congr state' closed
  have stays : y'.settleClose t = y' := by
    refine settleClose_stays (.inr (.inl fun none => ?_))
    have : b ∈ (y'.channel t).heads := by
      rw [left]
      exact List.mem_filter.mpr ⟨inSecond, by simpa using Ne.symm heads⟩
    simp [none] at this
  have same : y = y' := handsFirst.trans stays
  have camera (m : Fin 8) : y'.camera m = (s.updCamera i f).camera m := State.camera_eq worked m
  have other : y'.camera j = s.camera j := by rw [camera, State.updCamera_camera, if_neg (Ne.symm cameras)]
  have last : y'.LastFor t j v b := by
    refine ⟨other ▸ second.window, other ▸ second.recovering, second.track, second.passage.trans number.symm, second.index,
      fun m r mem track passage index => ?_⟩
    by_cases here : m = i
    · rw [here, camera, openShots_shut shuts first.recovering] at mem
      simp at mem
    · rw [camera, State.updCamera_camera, if_neg here] at mem
      exact second.only m r mem track (passage.trans number) index
  have new (x : HeadRecord) (mem : x ∈ y'.offeredOf t) : x.index ≠ b.index := by
    rcases List.mem_append.mp (turned.perm.mem_iff.mp mem) with old | this
    · exact (offeredApart x old b inSecond).symm
    · obtain rfl : x = ra := by simpa using this
      rw [index]
      exact heads
  obtain ⟨handsSecond, rb, turned', isOf', -, left', state'', -, closed', since', -, -⟩ :=
    turned.lastResult last shuts ((findHead_of_filter left (Ne.symm heads)).trans foundSecond) (state'.trans state)
      (by unfold State.Due; rw [closing]; exact dueSecond) new (by simp; omega)
      (fun x mem => by
        obtain rfl : x = ra := by simpa using mem
        rw [index]
        exact apart.imp_right fun none => none x isOf) result
  have cause : (y'.channel t).closeCause = (s.channel t).closeCause := by simp only [Channel.closeCause, closing]
  rw [cause] at isOf'
  rw [same]
  exact ⟨_, ra, rb, handsSecond, other, turned.ticks, turned', isOf, isOf'.congr header, by rw [left', left],
    state''.trans (state'.trans state), closed'.trans closed, since'.trans since⟩

end Sys2Proof.Machine
end

section
/-! Proofs: windows close with a result (O42). -/

namespace Sys2Proof.Machine

variable {s u : State} {t : TrackId} {r : ShotRef} {result : Confirmation} {h : Head} {given all : List HeadRecord}
  {i : Fin 8} {w : ConfirmWindow}

/-! ## The close of the passage behind its last head (R16) -/

theorem State.InTurn.swap {rest : List Record} {a b : HeadRecord} (h : s.InTurn u t [a, b] all rest) :
    s.InTurn u t [b, a] all rest := by
  obtain ⟨perm, others⟩ := h
  exact ⟨perm.trans ((List.Perm.swap b a []).append_left _), others⟩

/-- The last step of a close, taken behind the last head, stores the PASSAGE record. -/
theorem State.Turned.completeClose (turned : s.Turned u t given all) (room : s.store.records.length + given.length < 32) :
    ∃ last p, s.InTurn (u.completeClose t) t given all [last] ∧ (u.completeClose t).offeredOf t = []
      ∧ last.track = t ∧ last.body = .passage p ∧ p.number = (u.channel t).passage.number
      ∧ p.closed = (u.channel t).passage.closed.getD u.localTime ∧ ((u.completeClose t).channel t).state = .idle
      ∧ ((u.completeClose t).channel t).heads = (u.channel t).heads := by
  have faults := reportClose_faults u t
  unfold Faults at faults
  have reported : s.Turned (u.reportClose t) t given all :=
    turned.congr (by rw [faults]) (by rw [faults]) (by rw [faults]) (by rw [faults])
  have channel : (u.reportClose t).channel t = u.channel t := State.channel_eq (reportClose_channels u t) t
  have time : (u.reportClose t).localTime = u.localTime := by rw [faults]
  obtain ⟨last, inTurn, offered, track, body, channels, -⟩ := reported.offerPassage room (u.channel t).passage.agreed
  rw [channel, time] at body
  refine ⟨last, _, inTurn.congr ⟨rfl, rfl, rfl, rfl⟩ ⟨rfl, rfl⟩, offered, track, body, rfl, rfl, ?_, ?_⟩
  · rw [State.completeClose, State.updChannel_same]
    rfl
  · rw [State.completeClose, State.updChannel_same, State.channel_eq channels, channel]
    rfl

/-- Behind the last head the passage is over, unless the clear interval ran out at this very instant. -/
theorem settleClose_last (turned : s.Turned u t given all) (room : s.store.records.length + given.length < 32)
    (closing : (u.channel t).closing = true) (none_ : (u.channel t).heads = []) :
    ((u.channel t).closingSince = some s.ticks → u.settleClose t = u)
    ∧ ((u.channel t).closingSince ≠ some s.ticks → ∃ last p, s.InTurn (u.settleClose t) t given all [last]
      ∧ (u.settleClose t).offeredOf t = [] ∧ last.track = t ∧ last.body = .passage p
      ∧ p.number = (u.channel t).passage.number ∧ p.closed = (u.channel t).passage.closed.getD u.localTime
      ∧ ((u.settleClose t).channel t).state = .idle ∧ ((u.settleClose t).channel t).heads = []) := by
  refine ⟨fun now => settleClose_stays (.inr (.inr (by rw [now, turned.ticks]))), fun before => ?_⟩
  have completes : u.settleClose t = u.completeClose t := by
    rw [State.settleClose, if_pos]
    simp [Channel.closeOver, closing, none_, turned.ticks, before]
  rw [completes, ← none_]
  exact turned.completeClose room

/-! ## One window (R110, R111) -/

theorem execCdoneEdge_window (window : (s.camera i).confirm = some w) :
    Completes (.cdoneEdge i) s ((s.updCamera i Camera.confirmReturn).handOver w.shot .confirmed) := by
  change execCdoneEdge i s = _
  rw [execCdoneEdge, window]

theorem windowDue_eq (window : (s.camera i).confirm = some w) :
    (s.camera i).windowDue s.ticks = decide (w.closes ≤ s.ticks) := by
  simp [Camera.windowDue, window]

theorem execConfirmationWindowExpiry_window (window : (s.camera i).confirm = some w) (due : w.closes ≤ s.ticks) :
    Completes (.confirmationWindowExpiry i) s (s.expireWindow i w.shot) := by
  change execConfirmationWindowExpiry i s = _
  simp only [execConfirmationWindowExpiry, window]
  rw [windowDue_eq window, decide_eq_true due, if_pos rfl]

theorem missReturn_run (s : State) (i : Fin 8) :
    ((s.updCamera i Camera.missReturn).camera i).noReturnRun = min 3 ((s.camera i).noReturnRun + 1) := by
  rw [State.updCamera_camera, if_pos rfl]
  rfl

theorem expireWindow_missed (early : (s.camera i).noReturnRun + 1 < 3) :
    s.expireWindow i r = (s.updCamera i Camera.missReturn).handOver r .noReturn := by
  have run := missReturn_run s i
  rw [State.expireWindow, if_neg (by rw [run]; omega)]

theorem expireWindow_failed (third : (s.camera i).noReturnRun + 1 = 3) :
    s.expireWindow i r = (s.updCamera i Camera.missReturn).failCamera i r := by
  have run := missReturn_run s i
  rw [State.expireWindow, if_pos (by rw [run]; omega)]

theorem updCamera_congr {f g : Camera → Camera} (h : f (s.camera i) = g (s.camera i)) : s.updCamera i f = s.updCamera i g := by
  simp only [State.updCamera, updateAt]
  simp only [State.camera] at h
  rw [h]

theorem confirmReturn_shuts : Camera.Shuts Camera.confirmReturn := fun _ => ⟨rfl, rfl⟩

theorem missReturn_shuts : Camera.Shuts Camera.missReturn := fun _ => ⟨rfl, rfl⟩

/-- A window that runs out, as O42 says it. -/
theorem missed_eq (s : State) (i : Fin 8) (within : (s.camera i).noReturnRun + 1 ≤ 3) :
    s.updCamera i Camera.missReturn = s.updCamera i fun c =>
      { c with confirm := none, noReturnRun := (s.camera i).noReturnRun + 1, noReturnTotal := satSucc 4294967295 c.noReturnTotal } := by
  refine updCamera_congr ?_
  rw [Camera.missReturn, Nat.min_eq_right within]
  rfl

theorem failCamera_idle (idle : ∀ other e, (s.camera i).state ≠ .exposing other e) :
    s.failCamera i r = ((s.updCamera i Camera.fail).handOver r .noReturn).latch .cameraFault := by
  unfold State.failCamera
  dsimp only
  split
  · exact absurd ‹_› (idle _ _)
  · rfl

theorem failCamera_exposing {other : ShotRef} {e : Nat} (exposing : (s.camera i).state = .exposing other e) :
    s.failCamera i r = ((s.updCamera i Camera.fail).handOverBoth r .noReturn other .aborted).latch .cameraFault := by
  unfold State.failCamera
  simp only [exposing]

/-! ## What a result does to its head (R70, R71, R111) -/

/-- A result that leaves its head open is noted, and the head waits on, whatever is noted besides. -/
theorem handOver_waits (open_ : s.shotHeadOpen r = true) (counting : (s.channel r.track).passage.closed = none)
    (found : s.findHead r.track r.index = some h)
    (waits : h.status ≠ .finished ∨ (h.confirmed = false ∧ h.departed = false) ∨ s.headBusy r.track r.index = true) :
    s.handOver r result = s.noted r result
    ∧ ∀ q second, s.handOverBoth r result q second = (s.noted r result).handOver q second := by
  obtain ⟨index, -⟩ := findHead_index found
  have notes := settleResult_open (result := result) open_
  have still : (s.channel r.track).closing = false := by simp [Channel.closing, counting]
  have barred : s.mayClose r.track h = false := by
    rw [Bool.eq_false_iff, Ne, mayClose_iff, State.Due, still, index]
    rintro ⟨due, free⟩
    rcases waits with running | ⟨inside, ahead⟩ | busy
    · simp [running] at due
    · simp [inside, ahead] at due
    · simp [busy] at free
  have open_channel (m : State) (q : ShotRef) (second : Confirmation) (same : (m.channel r.track).closing = false) :
      ((m.settleResult q second).channel r.track).closing = false := by
    obtain ⟨⟨heads, channel⟩, -, -, -⟩ := settleResult_keeps m q second r.track
    rw [channel]
    exact same
  have stays : (s.noted r result).testShotHead r = s.noted r result := by
    rw [← notes]
    refine testShotHead_stays (open_channel s r result still) fun g here => ?_
    rw [notes, findHead_noted_own found result] at here
    obtain rfl := Option.some.inj here
    exact (mayClose_settleResult s r result r.track h _ ⟨rfl, rfl, rfl, rfl⟩).trans barred
  refine ⟨by rw [State.handOver, notes, stays], fun q second => ?_⟩
  have again : ((s.noted r result).settleResult q second).testShotHead r = (s.noted r result).settleResult q second := by
    refine testShotHead_stays (open_channel _ q second (notes ▸ open_channel s r result still)) fun g here => ?_
    obtain ⟨shots, found'⟩ := findHead_settleResult (findHead_noted_own found result) q second
    rw [found'] at here
    obtain rfl := Option.some.inj here
    rw [mayClose_settleResult (s.noted r result) q second r.track (h.settleShot r.step result)
      { h.settleShot r.step result with shots := shots } ⟨rfl, rfl, rfl, rfl⟩, ← notes]
    exact (mayClose_settleResult s r result r.track h _ ⟨rfl, rfl, rfl, rfl⟩).trans barred
  rw [State.handOverBoth, notes, again, State.handOver]

/-- A result that closes its head. -/
theorem handOver_turned (open_ : s.shotHeadOpen r = true) (found : s.findHead r.track r.index = some h)
    (due : s.Due r.track h) (free : s.headBusy r.track r.index = false) (inOrder : s.InOrder r.track)
    (room : s.store.records.length < 32) : ∃ z given, s.handOver r result = z.settleClose r.track
      ∧ s.Turned z r.track [given] (z.offeredOf r.track)
      ∧ given.IsOf (s.channel r.track).passage (h.settleShot r.step result)
        (finalStatus (s.channel r.track).closeCause (h.settleShot r.step result))
      ∧ (z.channel r.track).heads = (s.channel r.track).heads.filter (fun g => g.index != r.index)
      ∧ (z.channel r.track).state = (s.channel r.track).state
      ∧ (z.channel r.track).passage.number = (s.channel r.track).passage.number
      ∧ (z.channel r.track).passage.closed = (s.channel r.track).passage.closed
      ∧ (z.channel r.track).closingSince = (s.channel r.track).closingSince := by
  obtain ⟨index, mem⟩ := findHead_index found
  have ordinary : (s.channel r.track).closeCause ≠ .cancelled := by
    unfold Channel.closeCause
    split <;> simp
  obtain ⟨given, turned, isOf, -, left, state, number, closed, since, -, -⟩ :=
    (State.Turned.refl inOrder.2.1).noted_closeHead (result := result) found ordinary
      (fun x offered => index ▸ (inOrder.2.2 x offered h mem).symm) (by simpa using room) (by simp)
  exact ⟨_, given, handOver_closes found open_ ((mayClose_iff _ _ _).mpr ⟨due, by rw [index]; exact free⟩), turned, isOf, left,
    state, number, closed, since⟩

/-! ## Two windows at one instant -/

theorem runAll_pair {a b : Instr} {m n : State} (first : Completes a s m) (second : Completes b m n) :
    runAll [a, b] s = .next n := by
  unfold Completes at first second
  simp only [runAll, first, second]

theorem State.Turned.swap {x y : HeadRecord} (h : s.Turned u t [x, y] all) : s.Turned u t [y, x] all :=
  ⟨h.inTurn.swap, h.offered, h.order, h.sunk, h.ticks, h.localTime⟩

/-- A camera's window closes with the result as its command runs, in every state that has the camera and the instant. -/
def State.ClosesWindow (s : State) (command : Instr) (k : Fin 8) (w : ConfirmWindow) (f : Camera → Camera)
    (result : Confirmation) : Prop :=
  ∀ y : State, y.camera k = s.camera k → y.ticks = s.ticks →
    Completes command y ((y.updCamera k f).handOver w.shot result)

variable {g : Head} {j : Fin 8} {v : ConfirmWindow} {f : Camera → Camera}

/-- Two windows close at one instant, each for the last shot of a head that is due: the heads close in detection order,
whichever window is taken first. -/
theorem two_windows (command : Fin 8 → Instr) (heads : (s.channel t).heads = [g, h]) (inOrder : s.InOrder t)
    (state : (s.channel t).state = .passage) (cameras : i ≠ j) (first : s.LastFor t i w g) (second : s.LastFor t j v h)
    (shuts : Camera.Shuts f) (dueFirst : s.Due t g) (dueSecond : s.Due t h) (room : s.store.records.length + 2 ≤ 32)
    (runFirst : s.ClosesWindow (command i) i w f result) (runSecond : s.ClosesWindow (command j) j v f result)
    (not : ¬s.Holds t (s.channel t).passage (h.withResult v result)
      (finalStatus (s.channel t).closeCause (h.withResult v result)))
    {order : List (Fin 8)} (taken : order = [i, j] ∨ order = [j, i]) :
    ∃ z a b, runAll (order.map command) s = .next (z.settleClose t) ∧ s.Turned z t [a, b] (z.offeredOf t)
      ∧ a.IsOf (s.channel t).passage (g.withResult w result) (finalStatus (s.channel t).closeCause (g.withResult w result))
      ∧ b.IsOf (s.channel t).passage (h.withResult v result) (finalStatus (s.channel t).closeCause (h.withResult v result))
      ∧ (z.channel t).heads = [] ∧ (z.channel t).state = .passage
      ∧ (z.channel t).passage.closed = (s.channel t).passage.closed
      ∧ (z.channel t).closingSince = (s.channel t).closingSince := by
  have foundFirst := findHead_of_mem inOrder.1 (h := g) (by simp [heads])
  have foundSecond := findHead_of_mem inOrder.1 (h := h) (by simp [heads])
  have earlier : g.index < h.index := by simpa [heads] using inOrder.1
  have startFirst := runFirst s rfl rfl
  have startSecond := runSecond s rfl rfl
  rcases taken with rfl | rfl
  · obtain ⟨z, a, b, hands, camera, ticks, turned, isOf, isOf', left, rest⟩ := two_results inOrder state first second cameras
      shuts foundFirst foundSecond (Nat.ne_of_lt earlier) dueFirst dueSecond room result (.inl earlier)
    refine ⟨z, a, b, ?_, turned, isOf, isOf', by simp [left, heads], rest⟩
    rw [← hands]
    exact runAll_pair startFirst (runSecond _ camera ticks)
  · have apart (x : HeadRecord) (isOf : x.IsOf (s.channel t).passage (h.withResult v result)
        (finalStatus (s.channel t).closeCause (h.withResult v result))) : s.Without t x :=
      fun r held track body => not ⟨r, held, x, track, body, isOf⟩
    obtain ⟨z, b, a, hands, camera, ticks, turned, isOf', isOf, left, rest⟩ := two_results inOrder state second first
      (Ne.symm cameras) shuts foundSecond foundFirst (Nat.ne_of_gt earlier) dueSecond dueFirst room result (.inr apart)
    refine ⟨z, a, b, ?_, turned.swap, isOf, isOf', by simp [left, heads], rest⟩
    rw [← hands]
    exact runAll_pair startSecond (runFirst _ camera ticks)

theorem closesWindow_confirmed (window : (s.camera i).confirm = some w) :
    s.ClosesWindow (.cdoneEdge i) i w Camera.confirmReturn .confirmed :=
  fun _ camera _ => execCdoneEdge_window (camera ▸ window)

theorem closesWindow_missed (window : (s.camera i).confirm = some w) (due : w.closes ≤ s.ticks)
    (early : (s.camera i).noReturnRun + 1 < 3) :
    s.ClosesWindow (.confirmationWindowExpiry i) i w Camera.missReturn .noReturn := by
  intro y camera ticks
  rw [← expireWindow_missed (by rw [camera]; exact early)]
  exact execConfirmationWindowExpiry_window (camera ▸ window) (ticks ▸ due)

/-- Settles O42. -/
theorem windowsCloseWithAResult : Obligations.WindowsCloseWithAResult := by
  refine ⟨fun s i none => ?_, fun s i w window => ?_, fun s r result => ⟨fun closed => ?_, fun h state number found => ?_⟩,
    fun s t g h i j w v => ?_, fun s t x g h i j w v => ?_⟩
  · refine ⟨?_, ?_⟩
    · change execCdoneEdge i s = _
      rw [execCdoneEdge, none]
    · change execConfirmationWindowExpiry i s = _
      rw [execConfirmationWindowExpiry, none]
  · refine ⟨execCdoneEdge_window window, fun early => ?_, fun due few => ?_, fun due third idle => ?_,
      fun other e due third exposing => ?_⟩
    · change execConfirmationWindowExpiry i s = _
      simp only [execConfirmationWindowExpiry, window]
      rw [windowDue_eq window, decide_eq_false (by omega)]
      rfl
    · rw [← missed_eq s i (by omega), ← expireWindow_missed few]
      exact execConfirmationWindowExpiry_window window due
    · have state : ((s.updCamera i Camera.missReturn).camera i).state = (s.camera i).state := by
        rw [State.updCamera_camera, if_pos rfl]
        rfl
      rw [← missed_eq s i (by omega)]
      refine (execConfirmationWindowExpiry_window window due).trans (congrArg Host.Outcome.next ?_)
      rw [expireWindow_failed third, failCamera_idle (by rw [state]; exact idle)]
      rfl
    · have state : ((s.updCamera i Camera.missReturn).camera i).state = .exposing other e := by
        rw [State.updCamera_camera, if_pos rfl]
        exact exposing
      rw [← missed_eq s i (by omega)]
      refine (execConfirmationWindowExpiry_window window due).trans (congrArg Host.Outcome.next ?_)
      rw [expireWindow_failed third, failCamera_exposing state]
      rfl
  · have shut : s.shotHeadOpen r = false := by
      rw [Bool.eq_false_iff, Ne, shotHeadOpen_iff]
      rintro ⟨state, number, found⟩
      rcases closed with outside | other | none
      · exact outside state
      · exact other number
      · exact found none
    exact ⟨handOver_closed shut result, fun q second => handOverBoth_closed shut q result second⟩
  · intro settled noted
    have open_ : s.shotHeadOpen r = true := shotHeadOpen_iff.mpr ⟨state, number, by rw [found]; simp⟩
    obtain ⟨index, -⟩ := findHead_index found
    refine ⟨fun counting => ⟨fun waits => ?_, fun finished confirmed free inOrder room => ?_⟩,
      fun x closed alone free inOrder room => ?_⟩
    · obtain ⟨hands, both⟩ := handOver_waits (result := result) open_ counting found waits
      exact ⟨hands, fun q second g _ _ _ _ _ => both q second⟩
    · have still : (s.channel r.track).closing = false := by simp [Channel.closing, counting]
      obtain ⟨z, given, hands, turned, isOf, left, -, -, closed, -⟩ :=
        handOver_turned (result := result) open_ found (.inr ⟨finished, confirmed⟩) free inOrder room
      have stays : z.settleClose r.track = z :=
        settleClose_stays (.inl (by simp [Channel.closing, closed, counting]))
      rw [show (s.channel r.track).closeCause = .ordinary by simp [Channel.closeCause, still], finalStatus_ordinary] at isOf
      rw [hands, stays]
      exact ⟨given, _, turned.inTurn, rfl, isOf, left⟩
    · have closing : (s.channel r.track).closing = true := by simp [Channel.closing, state, closed]
      obtain ⟨z, given, hands, turned, isOf, left, state', number', closed', since⟩ :=
        handOver_turned (result := result) open_ found (.inl closing) free inOrder (by omega)
      rw [show (s.channel r.track).closeCause = .passageClose by simp [Channel.closeCause, closing], finalStatus_passageClose] at isOf
      have none_ : (z.channel r.track).heads = [] := by simp [left, alone, index]
      obtain ⟨now, before⟩ := settleClose_last turned (by simp; omega) ((closing_congr state' closed').trans closing) none_
      rw [hands]
      refine ⟨given, z.offeredOf r.track, isOf, ?_, fun late => ?_, fun instant => ?_⟩
      · by_cases instant : (z.channel r.track).closingSince = some s.ticks
        · rw [now instant]
          exact none_
        · obtain ⟨_, _, _, _, _, _, _, _, _, empty⟩ := before instant
          exact empty
      · obtain ⟨last, p, inTurn, offered, track, body, numbered, ended, idle, -⟩ := before (by rw [since]; exact late)
        exact ⟨last, p, inTurn, offered, track, body, numbered.trans (number'.trans number),
          ended.trans (by rw [closed', closed]; rfl), idle⟩
      · rw [now (by rw [since]; exact instant)]
        exact ⟨turned.inTurn, rfl, state'.trans state, closed'.trans closed⟩
  · intro c returns settled ready counting heads inOrder readyFirst readySecond cameras first second room not order taken
    obtain ⟨state, counting⟩ := counting
    obtain ⟨window, recovering, track, passage, index, only⟩ := first
    obtain ⟨window', recovering', track', passage', index', only'⟩ := second
    have still : (s.channel t).closing = false := by
      simp [Channel.closing, show (s.channel t).passage.closed = none from counting]
    have ordinary : (s.channel t).closeCause = .ordinary := by simp [Channel.closeCause, still]
    obtain ⟨z, a, b, runs, turned, isOf, isOf', none_, -, closed, -⟩ := two_windows (result := .confirmed) (.cdoneEdge ·)
      heads inOrder state cameras ⟨window, recovering, track, passage, index, only⟩
      ⟨window', recovering', track', passage', index', only'⟩ confirmReturn_shuts (.inr readyFirst) (.inr readySecond) room
      (closesWindow_confirmed window) (closesWindow_confirmed window') (by rw [ordinary, finalStatus_ordinary]; exact not) taken
    rw [ordinary, finalStatus_ordinary] at isOf isOf'
    rw [settleClose_stays (.inl (by simp [Channel.closing, closed, show (s.channel t).passage.closed = none from counting]))]
      at runs
    exact ⟨z, a, b, _, runs, isOf, isOf', turned.inTurn, rfl, none_⟩
  · intro c ends settled state closed heads inOrder cameras first second room not order taken
    obtain ⟨window, due, early, recovering, track, passage, index, only⟩ := first
    obtain ⟨window', due', early', recovering', track', passage', index', only'⟩ := second
    have closing : (s.channel t).closing = true := by
      simp [Channel.closing, show (s.channel t).state = .passage from state,
        show (s.channel t).passage.closed = some x from closed]
    have cause : (s.channel t).closeCause = .passageClose := by simp [Channel.closeCause, closing]
    obtain ⟨z, a, b, runs, turned, isOf, isOf', none_, state', closed', since⟩ := two_windows (result := .noReturn)
      (.confirmationWindowExpiry ·) heads inOrder state cameras ⟨window, recovering, track, passage, index, only⟩
      ⟨window', recovering', track', passage', index', only'⟩ missReturn_shuts (.inl closing) (.inl closing) (by omega)
      (closesWindow_missed window due early) (closesWindow_missed window' due' early')
      (by rw [cause, finalStatus_passageClose]; exact not) taken
    rw [cause, finalStatus_passageClose] at isOf isOf'
    obtain ⟨now, before⟩ := settleClose_last turned (by simp; omega) ((closing_congr (state'.trans state.symm) closed').trans closing)
      none_
    refine ⟨_, a, b, z.offeredOf t, runs, isOf, isOf', fun late => ?_, fun instant => ?_⟩
    · obtain ⟨last, p, inTurn, offered, track, body, -, -, idle, -⟩ := before (by rw [since]; exact late)
      exact ⟨last, p, inTurn, offered, track, body, idle⟩
    · rw [now (by rw [since]; exact instant)]
      exact ⟨turned.inTurn, rfl, state', none_⟩

end Sys2Proof.Machine
end

section
/-! Proofs: edges at the input pins, and a first-sensor pulse at its axle queue (O23, O26). -/

namespace Sys2Proof.Machine

variable {s p : State} {t : TrackId} {w : WheelSensor} {d : Detector} {stamp : LocalTime} {r : PairRole} {c : Channel}

/-! ## Edges at the input pins (R24, R25, R57) -/

theorem Channel.live_iff : c.live = true ↔ c.mode = some .live ∧ c.state ≠ .offline := by simp [Channel.live]

theorem State.updChannel_id {f : Channel → Channel} (h : f (s.channel t) = s.channel t) : s.updChannel t f = s := by
  rw [State.updChannel_congr (g := fun c => c) h]
  cases t <;> rfl

theorem startCount_live (h : c.live = true) : s.startCount c = some (s.localTime, s.ticks + c.debounce) := if_pos h

theorem startCount_not_live (h : ¬c.live = true) : s.startCount c = none := if_neg h

/-- An edge to the level that the pin already has is none (log entry 21). -/
theorem execWheelLeadingEdge_high (high : ((s.channel t).wheels.get w).level = true) :
    Completes (.wheelLeadingEdge t w) s s :=
  congrArg Host.Outcome.next (if_pos high)

theorem execWheelLeadingEdge_low (low : ((s.channel t).wheels.get w).level = false) :
    Completes (.wheelLeadingEdge t w) s
      (s.updChannel t fun c => c.setWheel w { level := true, count := s.startCount c }) :=
  congrArg Host.Outcome.next (if_neg (by simp [low]))

theorem execWheelTrailingEdge_low (low : ((s.channel t).wheels.get w).level = false) :
    Completes (.wheelTrailingEdge t w) s s :=
  congrArg Host.Outcome.next (if_pos (by simp [low]))

/-- The pulse at a pin ends; it is chatter where its count still ran. -/
theorem execWheelTrailingEdge_high (high : ((s.channel t).wheels.get w).level = true) :
    let low := s.updChannel t fun c => c.setWheel w { level := false, count := none }
    Completes (.wheelTrailingEdge t w) s
      (if ((s.channel t).wheels.get w).count.isSome then low.chatter t w else low) :=
  congrArg Host.Outcome.next (if_neg (by simp [high]))

theorem chatter_counting (h : (s.channel t).Counting) : s.chatter t w = s.reports t (wheelIndex t w) :=
  if_pos (Channel.counting_iff.mpr h)

theorem chatter_not_counting (h : ¬(s.channel t).Counting) : s.chatter t w = s :=
  if_neg fun counts => h (Channel.counting_iff.mp counts)

/-- A head-detector pin that moves; in LIVE mode the edge is judged. -/
theorem execHeadDetectorEdge_moves {high : Bool} (moves : ((s.channel t).detectors.get d).pin ≠ high) :
    let seen := { (s.channel t).detectors.get d with pin := high }
    let judged := if (s.channel t).mode = some .live then seen.edge high (s.ticks + (s.channel t).debounce) else seen
    Completes (.headDetectorEdge t d high) s (s.updChannel t fun c => { c with detectors := c.detectors.set d judged }) :=
  congrArg Host.Outcome.next (State.updChannel_congr (if_neg moves))

/-- Settles O23, edge by edge: each event row is one update of the input, then the chatter or the judgement of the edge. -/
theorem inputEdgesRunTheDebounce : Obligations.InputEdgesRunTheDebounce := by
  refine ⟨fun s t w => ?_, fun s t d high => ?_⟩
  · intro x low
    have same : (low.channel t).Counting ↔ (s.channel t).Counting := by
      rw [State.updChannel_same]
      exact Iff.rfl
    refine ⟨execWheelLeadingEdge_high, fun level mode state => ?_, fun level quiet => ?_, execWheelTrailingEdge_low,
      fun level none => ?_, fun level some counting => ?_⟩
    · refine (execWheelLeadingEdge_low level).trans (congrArg Host.Outcome.next (State.updChannel_congr ?_))
      rw [startCount_live (Channel.live_iff.mpr ⟨mode, state⟩)]
      rfl
    · refine (execWheelLeadingEdge_low level).trans (congrArg Host.Outcome.next (State.updChannel_congr ?_))
      rw [startCount_not_live fun live => ?_]
      · rfl
      · obtain ⟨mode, state⟩ := Channel.live_iff.mp live
        exact quiet.elim (· mode) (state ·)
    · refine (execWheelTrailingEdge_high level).trans (congrArg Host.Outcome.next ?_)
      rcases none with none | idle
      · rw [if_neg (by simp [show ((s.channel t).wheels.get w).count = Option.none from none])]
        rfl
      · exact (ite_eq_right_iff.mpr fun _ => chatter_not_counting fun counts => idle (same.mp counts))
    · refine (execWheelTrailingEdge_high level).trans (congrArg Host.Outcome.next ?_)
      rw [if_pos (Option.isSome_iff_ne_none.mpr some)]
      exact chatter_counting (same.mpr counting)
  · intro x
    refine ⟨fun level => ?_, fun level mode => ?_, fun level mode => ?_⟩
    · exact congrArg Host.Outcome.next (State.updChannel_id (if_pos level))
    · refine (execHeadDetectorEdge_moves level).trans (congrArg Host.Outcome.next ?_)
      rw [if_neg mode]
    · refine (execHeadDetectorEdge_moves level).trans (congrArg Host.Outcome.next (State.updChannel_congr ?_))
      rw [if_pos mode]
      rfl

/-! ## A pulse at its pair (R11, R26, R27) -/

theorem counted_channel (s : State) (t : TrackId) (w : WheelSensor) : (s.counted t w).channel t = { s.channel t with
    clearTimer := some (s.ticks + (s.channel t).clearInterval * 1000)
    passage := { (s.channel t).passage with
      counts := (s.channel t).passage.counts.set w (min 65535 ((s.channel t).passage.counts.get w + 1)) } } :=
  State.updChannel_same s t _

theorem counted_pair (s : State) (t : TrackId) (w : WheelSensor) (r : PairRole) :
    ((s.counted t w).channel t).pair r = (s.channel t).pair r := by
  rw [counted_channel]
  cases r <;> rfl

theorem State.Accepts.pair (h : s.Accepts t w stamp p) (r : PairRole) : (p.channel t).pair r = (s.channel t).pair r := by
  obtain ⟨-, -, approach, departure⟩ := h.keeps
  cases r
  · exact approach
  · exact departure

/-- A pulse of a NORMAL passage is counted and taken by its pair. -/
theorem State.Accepts.takes (h : s.Accepts t w stamp p) (tracking : (s.channel t).Tracking) :
    Completes (.wheelPulseAccepted t w) s ((p.counted t w).pairPulse t w stamp) := by
  obtain ⟨state, passage, -, -⟩ := h.keeps
  refine (execWheelPulseAccepted_of h).trans (congrArg Host.Outcome.next ?_)
  rw [disposePulse_counting (by rw [Channel.Counting, state, passage]; exact tracking.1), ← countPulse_counted]
  exact if_pos (by rw [passage]; exact tracking.2)

/-- A first-sensor pulse of a pair with a queue enters it or is refused (R29, R30). -/
theorem pairPulse_first (role : sensorRole (s.channel t).passage.direction w = (r, true))
    (queued : ((s.channel t).pair r).state ≠ .out) : s.pairPulse t w stamp = s.firstSensorPulse t w r stamp := by
  dsimp only [State.pairPulse]
  rw [role, if_neg queued, if_pos rfl]

/-- Settles O26: the pulse is counted and taken by its pair, whose queue has room or has none. -/
theorem firstSensorPulseEntersTheQueue : Obligations.FirstSensorPulseEntersTheQueue := by
  intro s p t w stamp r accepts c tracking role queued
  have pair : ((p.counted t w).channel t).pair r = c.pair r := (counted_pair p t w r).trans (accepts.pair r)
  have direction : ((p.counted t w).channel t).passage.direction = c.passage.direction := by
    rw [counted_channel, accepts.keeps.2.1]
  have taken := accepts.takes tracking
  rw [pairPulse_first (by rw [direction]; exact role) (by rw [pair]; exact queued), State.firstSensorPulse, pair] at taken
  refine ⟨fun room => ?_, fun full => ?_⟩
  · rwa [if_pos (show (c.pair r).queue.length < Config.axleQueueMax from room)] at taken
  · rwa [if_neg (show ¬(c.pair r).queue.length < Config.axleQueueMax from Nat.not_lt.mpr full)] at taken

end Sys2Proof.Machine
end

section
/-! Proofs: a plausible match, up to the work on the heads of the track. -/

namespace Sys2Proof.Machine

variable {s p : State} {t : TrackId} {w : WheelSensor} {stamp entry : LocalTime} {rest : List LocalTime} {r : PairRole}
  {c : Channel} {dt v : Nat}

/-! ## The speed of a match (R39, R41, R43) -/

theorem isPlausible_of (h : ∀ e, c.speed = .fresh e → 2 ≤ c.window.length →
    (if e ≤ v then v - e else e - v) * 100 ≤ c.jumpLimit * e) : isPlausible c.speed c.window c.jumpLimit v = true := by
  unfold isPlausible
  split
  · next e fresh =>
    have gap : speedGap v e = if e ≤ v then v - e else e - v := by
      unfold speedGap
      split <;> omega
    rcases Nat.lt_or_ge c.window.length 2 with few | enough
    · simp [few]
    · rw [gap, decide_eq_true (h e fresh enough), Bool.or_true]
  · rfl
  · rfl

theorem enterWindow_eq (few : c.window.length ≤ 4) (v : Nat) : enterWindow c.speed c.window v
    = if c.speed.code = 2 then [v] else (if c.window.length = 4 then c.window.drop 1 else c.window) ++ [v] := by
  have last : c.window.drop (c.window.length - 3) = if c.window.length = 4 then c.window.drop 1 else c.window := by
    split
    · next full => rw [full]
    · rw [show c.window.length - 3 = 0 by omega, List.drop_zero]
  cases speed : c.speed <;> simp [enterWindow, Speed.code, last]

theorem mem_enterWindow_self (speed : Speed) (window : List Nat) (v : Nat) : v ∈ enterWindow speed window v := by
  cases speed <;> simp [enterWindow]

/-- A speed of at least four keeps the mean above 0, whatever else the window holds. -/
theorem windowEstimate_pos (speed : Speed) (window : List Nat) (fast : 4 ≤ v) :
    0 < windowEstimate (enterWindow speed window v) := by
  obtain ⟨few, some⟩ := length_enterWindow speed window v
  have sum := List.le_sum_of_mem (mem_enterWindow_self speed window v)
  exact Nat.div_pos (by omega) (List.length_pos_iff.mpr some)

/-- A match that is no crawl match is as fast as the crawl speed (R39). -/
theorem crawl_le_axleSpeed {spacing : Nat} (some : 0 < dt) (fast : dt * 300 ≤ spacing * 1000000) :
    300 ≤ axleSpeed spacing dt := by
  have raw : 300 ≤ rawSpeed spacing dt := (Nat.le_div_iff_mul_le some).mpr (by rwa [Nat.mul_comm])
  exact le_min (by decide) raw

/-! ## The match (R31, R42, R44) -/

/-- The channel as a plausible match leaves it, before the work on its heads. -/
def Channel.matched (c : Channel) (r : PairRole) (rest : List LocalTime) (dt ticks : Nat) : Channel :=
  Channel.takeSpeed
    { c.updPair r fun q => { q with queue := rest, implausible := 0 } with
      passage := c.passage.noteSpeed (c.frame.spacing r) dt }
    (axleSpeed (c.frame.spacing r) dt) ticks

/-- The estimate of a plausible match. -/
def Channel.matchEstimate (c : Channel) (r : PairRole) (dt : Nat) : Nat :=
  windowEstimate (enterWindow c.speed c.window (axleSpeed (c.frame.spacing r) dt))

/-- The work on the heads of a track that a new estimate asks for (R44). -/
def State.tendHeads (s : State) (t : TrackId) (speed : Speed) (estimate : Nat) (timed untimed : List Nat) : State :=
  let reanchored := s.reanchorAll t estimate timed
  if speed = .absent then reanchored.judgeAll t estimate untimed else reanchored

theorem judgeMatch_plausible (fast : dt * 300 ≤ (s.channel t).frame.spacing r * 1000000)
    (plausible : isPlausible (s.channel t).speed (s.channel t).window (s.channel t).jumpLimit
      (axleSpeed ((s.channel t).frame.spacing r) dt) = true) : s.judgeMatch t r dt
    = (s.updPassage t fun p => p.noteSpeed ((s.channel t).frame.spacing r) dt).plausibleMatch t r
      (axleSpeed ((s.channel t).frame.spacing r) dt) := by
  dsimp only [State.judgeMatch]
  rw [if_neg (by rw [isCrawl, decide_eq_true_eq]; exact Nat.not_lt.mpr fast), if_pos plausible]

/-- A second-sensor pulse that matches plausibly (R31, R39 to R44). -/
theorem pairPulse_plausible (role : sensorRole (s.channel t).passage.direction w = (r, false))
    (queue : ((s.channel t).pair r).queue = entry :: rest) (normal : ((s.channel t).pair r).state = .normal)
    (interval : matchInterval entry stamp = dt) (fast : dt * 300 ≤ (s.channel t).frame.spacing r * 1000000)
    (plausible : isPlausible (s.channel t).speed (s.channel t).window (s.channel t).jumpLimit
      (axleSpeed ((s.channel t).frame.spacing r) dt) = true) :
    let c := s.channel t
    let sensors := pairSensors c.passage.direction r
    s.pairPulse t w stamp
      = (((s.updChannel t fun c => c.matched r rest dt s.ticks).tendHeads t c.speed (c.matchEstimate r dt) c.timedIndices
        c.untimedIndices).praises t (wheelIndex t sensors.1)).praises t (wheelIndex t sensors.2) := by
  intro c sensors
  obtain ⟨q, removed⟩ : ∃ q, (s.updChannel t fun c => c.updPair r fun p => { p with queue := rest }) = q := ⟨_, rfl⟩
  have channel : q.channel t = c.updPair r fun p => { p with queue := rest } := by rw [← removed, State.updChannel_same]
  have keeps : (q.channel t).frame = c.frame ∧ (q.channel t).passage = c.passage ∧ (q.channel t).speed = c.speed
      ∧ (q.channel t).window = c.window ∧ (q.channel t).jumpLimit = c.jumpLimit := by
    rw [channel]
    cases r <;> exact ⟨rfl, rfl, rfl, rfl, rfl⟩
  obtain ⟨frame, passage, speed, window, jumpLimit⟩ := keeps
  have pulse : s.pairPulse t w stamp = q.judgeMatch t r dt := by
    dsimp only [State.pairPulse]
    rw [role, if_neg (by simp [normal]), if_neg (by simp), State.secondSensorPulse]
    simp only [queue, normal, if_true, interval, removed]
  rw [pulse, judgeMatch_plausible (by rw [frame]; exact fast) (by rw [frame, speed, window, jumpLimit]; exact plausible), frame]
  obtain ⟨m, trusted⟩ : ∃ m, (q.updPassage t fun p => p.noteSpeed (c.frame.spacing r) dt).updChannel t
      (fun c => c.updPair r fun p => { p with implausible := 0 }) = m := ⟨_, rfl⟩
  have estimated : m.updChannel t (fun x => x.takeSpeed (axleSpeed (c.frame.spacing r) dt) m.ticks)
      = s.updChannel t fun c => c.matched r rest dt s.ticks := by
    rw [← trusted, ← removed, State.updPassage, State.updChannel_updChannel, State.updChannel_updChannel,
      State.updChannel_updChannel]
    refine State.updChannel_congr ?_
    cases r <;> rfl
  have held : (m.channel t).heads = c.heads ∧ (m.channel t).speed = c.speed ∧ (m.channel t).window = c.window := by
    rw [← trusted, State.updChannel_same, State.updPassage, State.updChannel_same, channel]
    cases r <;> exact ⟨rfl, rfl, rfl⟩
  obtain ⟨heads, speed', window'⟩ := held
  have tends : m.newEstimate t (axleSpeed (c.frame.spacing r) dt)
      = (s.updChannel t fun c => c.matched r rest dt s.ticks).tendHeads t c.speed (c.matchEstimate r dt) c.timedIndices
        c.untimedIndices := by
    dsimp only [State.newEstimate]
    rw [estimated, speed', window', Channel.timedIndices, Channel.untimedIndices, heads]
    rfl
  have direction : ((q.updPassage t fun p => p.noteSpeed (c.frame.spacing r) dt).channel t).passage.direction
      = c.passage.direction := by
    rw [State.updPassage, State.updChannel_same, ← passage]
    rfl
  dsimp only [State.plausibleMatch]
  rw [trusted, tends, direction]
  rfl

/-- A plausible match, pulse and all (R11, R31, R44). -/
theorem State.Accepts.matches (accepts : s.Accepts t w stamp p) (tracking : (s.channel t).Tracking)
    (role : sensorRole (s.channel t).passage.direction w = (r, false))
    (queue : ((s.channel t).pair r).queue = entry :: rest) (normal : ((s.channel t).pair r).state = .normal)
    (fast : max 1 (span entry stamp) * 300 ≤ (s.channel t).frame.spacing r * 1000000)
    (plausible : isPlausible (s.channel t).speed (s.channel t).window (s.channel t).jumpLimit
      (axleSpeed ((s.channel t).frame.spacing r) (max 1 (span entry stamp))) = true) :
    let c := s.channel t
    let sensors := pairSensors c.passage.direction r
    let dt := max 1 (span entry stamp)
    Completes (.wheelPulseAccepted t w) s
      ((((p.counted t w).updChannel t fun c => c.matched r rest dt s.ticks).tendHeads t c.speed (c.matchEstimate r dt)
        c.timedIndices c.untimedIndices).praises t (wheelIndex t sensors.1) |>.praises t (wheelIndex t sensors.2)) := by
  intro c sensors dt
  have pair : ((p.counted t w).channel t).pair r = c.pair r := (counted_pair p t w r).trans (accepts.pair r)
  have taken := accepts.takes tracking
  obtain ⟨wheels, synthetic, rfl⟩ := accepts.updates
  have channel := counted_channel (s.updChannel t fun c => { c with wheels := wheels, synthetic := synthetic }) t w
  rw [State.updChannel_same] at channel
  rw [pairPulse_plausible (rest := rest) (dt := dt) (entry := entry) (by rw [channel]; exact role) (by rw [pair]; exact queue)
    (by rw [pair]; exact normal) rfl (by rw [channel]; exact fast) (by rw [channel]; exact plausible), channel] at taken
  exact taken

end Sys2Proof.Machine
end

section
/-! Proofs: a run of a plan works on its own head alone. -/

namespace Sys2Proof.Machine

variable {s u v : State} {t : TrackId} {n : Nat} {h : Head} {f : Head → Head}

/-! ## Heads of other indices -/

/-- Only heads of one index may come, go or differ. -/
def State.Elsewhere (s u : State) (t : TrackId) (n : Nat) : Prop :=
  ((u.channel t).heads.filter fun g => g.index != n) = (s.channel t).heads.filter fun g => g.index != n

/-- The head stands in the list of its track, and no other has its index. -/
def State.Alone (s : State) (t : TrackId) (h : Head) : Prop :=
  ((s.channel t).heads.filter fun g => g.index == h.index) = [h]

theorem State.Alone.findHead (alone : s.Alone t h) : s.findHead t h.index = some h := by
  rw [State.findHead, ← List.head?_filter, alone, List.head?_cons]

theorem State.Alone.only (alone : s.Alone t h) {g : Head} (mem : g ∈ (s.channel t).heads) (same : g.index = h.index) :
    g = h :=
  List.mem_singleton.mp (alone ▸ List.mem_filter.mpr ⟨mem, by simpa using same⟩)

theorem State.Alone.congr (alone : s.Alone t h) (heads : (u.channel t).heads = (s.channel t).heads) : u.Alone t h := by
  unfold State.Alone at alone ⊢
  rwa [heads]

theorem alone_of_mem (distinct : ((s.channel t).heads.map fun h => h.index).Nodup) (mem : h ∈ (s.channel t).heads) :
    s.Alone t h := by
  unfold State.Alone
  generalize (s.channel t).heads = l at distinct mem
  induction l with
  | nil => simp at mem
  | cons g rest ih =>
    obtain ⟨first, distinct⟩ := List.nodup_cons.mp distinct
    rcases List.mem_cons.mp mem with rfl | mem
    · have others : rest.filter (fun g => g.index == h.index) = [] := List.filter_eq_nil_iff.mpr fun x inside => by
        simpa using fun same : x.index = h.index => first (List.mem_map.mpr ⟨x, inside, same⟩)
      rw [List.filter_cons_of_pos (by simp), others]
    · have other : g.index ≠ h.index := fun same => first (List.mem_map.mpr ⟨h, mem, same.symm⟩)
      rw [List.filter_cons_of_neg (by simpa using other)]
      exact ih distinct mem

theorem State.Alone.elsewhere (alone : s.Alone t h) (away : s.Elsewhere u t n) (other : h.index ≠ n) : u.Alone t h := by
  have looks (l : List Head) : (l.filter fun g => g.index == h.index)
      = (l.filter fun g => g.index != n).filter fun g => g.index == h.index := by
    rw [List.filter_filter]
    refine List.filter_congr fun g _ => ?_
    by_cases same : g.index = h.index <;> simp [same, other]
  unfold State.Alone at alone ⊢
  rwa [looks, away, ← looks]

theorem State.Elsewhere.trans (h : s.Elsewhere u t n) (k : u.Elsewhere v t n) : s.Elsewhere v t n := Eq.trans k h

theorem State.Elsewhere.of_heads (h : (u.channel t).heads = (s.channel t).heads) : s.Elsewhere u t n := by
  rw [State.Elsewhere, h]

theorem updHead_heads (s : State) (t : TrackId) (n : Nat) (f : Head → Head) :
    ((s.updHead t n f).channel t).heads = (s.channel t).heads.map fun h => if h.index = n then f h else h := by
  rw [State.updHead, State.updChannel_same]

theorem updHead_elsewhere (s : State) (t : TrackId) (n : Nat) (index : ∀ h, h.index = n → (f h).index = n) :
    s.Elsewhere (s.updHead t n f) t n := by
  rw [State.Elsewhere, updHead_heads]
  induction (s.channel t).heads with
  | nil => rfl
  | cons g rest ih =>
    by_cases same : g.index = n
    · simpa [same, index g same] using ih
    · simpa [same] using ih

theorem removed_elsewhere (gone : (u.channel t).heads = (s.channel t).heads.filter fun g => g.index != n) :
    s.Elsewhere u t n := by
  rw [State.Elsewhere, gone, List.filter_filter]
  simp

/-! ## The run of a plan (R86 to R94) -/

/-- Only the head of an index is worked on, and neither confirmed nor departed by it. -/
structure State.RunsHead (s u : State) (t : TrackId) (n : Nat) : Prop where
  elsewhere : s.Elsewhere u t n
  flags : ∀ g ∈ (u.channel t).heads, g.index = n →
    ∃ h ∈ (s.channel t).heads, h.index = n ∧ g.confirmed = h.confirmed ∧ g.departed = h.departed

theorem State.RunsHead.of_heads (h : (u.channel t).heads = (s.channel t).heads) : s.RunsHead u t n :=
  ⟨.of_heads h, fun g mem index => ⟨g, h ▸ mem, index, rfl, rfl⟩⟩

theorem State.RunsHead.of_channels (h : u.channels = s.channels) : s.RunsHead u t n :=
  .of_heads (by rw [State.channel_eq h])

theorem State.RunsHead.trans (h : s.RunsHead u t n) (k : u.RunsHead v t n) : s.RunsHead v t n := by
  refine ⟨h.elsewhere.trans k.elsewhere, fun g mem index => ?_⟩
  obtain ⟨x, mem, index, confirmed, departed⟩ := k.flags g mem index
  obtain ⟨y, mem, index, confirmed', departed'⟩ := h.flags x mem index
  exact ⟨y, mem, index, confirmed.trans confirmed', departed.trans departed'⟩

theorem updHead_runsHead (s : State) (t : TrackId) (n : Nat)
    (keeps : ∀ h, (f h).index = h.index ∧ (f h).confirmed = h.confirmed ∧ (f h).departed = h.departed) :
    s.RunsHead (s.updHead t n f) t n := by
  refine ⟨updHead_elsewhere s t n fun h index => (keeps h).1.trans index, fun g mem index => ?_⟩
  rw [updHead_heads] at mem
  obtain ⟨h, held, rfl⟩ := List.mem_map.mp mem
  refine ⟨h, held, ?_⟩
  obtain ⟨index', confirmed, departed⟩ := keeps h
  by_cases same : h.index = n
  · rw [if_pos same]
    exact ⟨same, confirmed, departed⟩
  · rw [if_neg same] at index
    exact absurd index same

theorem closeHead_runsHead (s : State) (t : TrackId) (n : Nat) (cause : CloseCause) :
    s.RunsHead (s.closeHead t n cause) t n := by
  have gone := closeHead_heads s t n cause
  refine ⟨removed_elsewhere gone, fun g mem index => ?_⟩
  rw [gone] at mem
  simpa [index] using (List.mem_filter.mp mem).2

theorem closeTest_runsHead (s : State) (t : TrackId) (n : Nat) : s.RunsHead (s.closeTest t n) t n := by
  obtain same | ⟨_, -, -, closes⟩ := closeTest_cases s t n
  · rw [same]
    exact .of_heads rfl
  · rw [closes]
    exact closeHead_runsHead s t n _

theorem runExpose_runsHead (s : State) (t : TrackId) (h : Head) (step : Nat) (camera : Fin 8) (strobe : Option (Fin 6))
    (due : LocalTime) : s.RunsHead (s.runExpose t h step camera strobe due) t h.index := by
  have adds (u : State) (x : Shot) : u.RunsHead (u.addShot t h.index x) t h.index :=
    updHead_runsHead u t h.index fun _ => ⟨rfl, rfl, rfl⟩
  unfold State.runExpose
  dsimp only
  split
  · exact .trans (.of_channels (by rw [fireFor_channels, requestExposure_channels])) (adds _ _)
  all_goals exact adds s _

theorem runPlan_runsHead (t : TrackId) (n : Nat) (steps : List Step) (step : Nat) (run : Run) (s : State) :
    s.RunsHead (runPlan t n steps step run s) t n := by
  have updates (u : State) (f : Head → Head)
      (keeps : ∀ h, (f h).index = h.index ∧ (f h).confirmed = h.confirmed ∧ (f h).departed = h.departed) :=
    updHead_runsHead (f := f) u t n keeps
  have schedules (u : State) (step : Nat) (kind : WaitKind) (due : LocalTime) :
      u.RunsHead (u.schedule t n step kind due) t n :=
    (updates u (fun h => h.rest step .scheduled) fun _ => ⟨rfl, rfl, rfl⟩).trans (.of_channels rfl)
  induction steps generalizing step run s with
  | nil => exact (updates s (fun h => h.rest step .finished) fun _ => ⟨rfl, rfl, rfl⟩).trans (closeTest_runsHead _ t n)
  | cons x rest ih =>
    cases x with
    | atPos p =>
      unfold runPlan
      split
      · exact .of_heads rfl
      · split
        · exact updates s (fun h => h.hold step) fun _ => ⟨rfl, rfl, rfl⟩
        · split
          · exact schedules s step _ _
          · exact ih _ _ _
    | after d => exact schedules s step _ _
    | expose camera strobe =>
      unfold runPlan
      split
      · exact .of_heads rfl
      · next h found =>
        obtain ⟨rfl, -⟩ := findHead_index found
        refine .trans ?_ (ih _ _ _)
        split
        · exact updates s _ fun _ => ⟨rfl, rfl, rfl⟩
        · exact runExpose_runsHead s t h step camera strobe _
    | mark =>
      unfold runPlan
      refine .trans ?_ (ih _ _ _)
      split
      · exact .of_heads rfl
      · exact updates s _ fun _ => ⟨rfl, rfl, rfl⟩

theorem startPlan_runsHead (s : State) (t : TrackId) (n : Nat) : s.RunsHead (s.startPlan t n) t n := by
  unfold State.startPlan
  dsimp only
  split
  · exact updHead_runsHead s t n fun _ => ⟨rfl, rfl, rfl⟩
  · refine State.RunsHead.trans (updHead_runsHead s t n ?_) (runPlan_runsHead t n _ _ _ _)
    exact fun _ => ⟨rfl, rfl, rfl⟩

/-- A head that is neither confirmed nor departed stays open while its passage does not close (R70). -/
theorem closeTest_stays (running : (s.channel t).closing = false)
    (flags : ∀ g ∈ (s.channel t).heads, g.index = n → g.confirmed = false ∧ g.departed = false) :
    s.closeTest t n = s := by
  obtain same | ⟨h, found, may, -⟩ := closeTest_cases s t n
  · exact same
  · obtain ⟨index, mem⟩ := findHead_index found
    obtain ⟨confirmed, departed⟩ := flags h mem index
    simp [State.mayClose, confirmed, departed, running] at may

end Sys2Proof.Machine
end

section
/-! Proofs: the first estimate of a passage judges a head. -/

namespace Sys2Proof.Machine

/-! ## The judgement of a head (R59, R62 to R64) -/

/-- What the first timing of the heads of a track goes by: the distance of the approach detector, the position beyond which a
head has departed, the limits of its length, the estimate, local time, and the sensor that is praised or blamed. -/
structure Gauge where
  distance : Nat
  threshold : Nat
  shortest : Nat
  longest : Nat
  estimate : Nat
  now : LocalTime
  sensor : Fin 12

/-- The length of a head (R59). -/
def Gauge.length (k : Gauge) (h : Head) : Nat := k.estimate * h.duration / 1000000

/-- The predicted crossing of a head at its first timing (R54). -/
def Gauge.crossing (k : Gauge) (h : Head) : LocalTime :=
  later h.blockedStart (ceilDiv (k.distance * 1000 * 1000) k.estimate)

/-- The departed instant of a head at its first timing (R66). -/
def Gauge.departure (k : Gauge) (h : Head) : LocalTime :=
  later h.blockedStart (ceilDiv ((k.threshold + k.distance * 1000) * 1000) k.estimate)

variable {s u v : State} {t : TrackId} {n : Nat} {h : Head} {f : Head → Head} {c : Channel} {k : Gauge}

/-- A head at its first timing: its anchor, its length, its predicted crossing and its departed instant (R50, R62). -/
def Gauge.timed (k : Gauge) (h : Head) : Head :=
  { h with
    anchor := some { time := h.blockedStart, position := -((k.distance * 1000 : Nat) : Int), speed := k.estimate }
    length := some (k.length h), firstSpeed := some k.estimate, predicted := some (k.crossing h)
    departure := some (k.departure h) }

/-- A head is accepted, which is a good event (R62). -/
def Gauge.praised (k : Gauge) (t : TrackId) (u : State) : State :=
  (u.updPassage t fun p => { p with accepted := satSucc 255 p.accepted }).praises t k.sensor

/-- A head of a valid length is accepted and timed (R62). -/
def Gauge.accept (k : Gauge) (t : TrackId) (u : State) (h : Head) : State := (k.praised t u).updHead t h.index k.timed

/-- A head of another length leaves the list without a record, a fault event (R64). -/
def Gauge.reject (k : Gauge) (t : TrackId) (u : State) (h : Head) : State :=
  State.reports
    (u.updChannel t fun x =>
      { x with
        heads := x.heads.filter fun g => g.index != h.index
        passage := { x.passage with rejected := satSucc 255 x.passage.rejected } }) t k.sensor

/-- A head is judged: rejected, or accepted and handed to its plan, or accepted and MISSED (R62 to R64). -/
def Gauge.judge (k : Gauge) (t : TrackId) (u : State) (h : Head) : State :=
  if k.shortest ≤ k.length h ∧ k.length h ≤ k.longest then
    if after (k.crossing h) k.now then (k.accept t u h).startPlan t h.index
    else (k.accept t u h).closeHead t h.index .missedAtFirstTiming
  else k.reject t u h

/-! ## The gauge of a track -/

/-- The heads of a track are judged by a gauge. -/
structure Gauge.Fits (k : Gauge) (t : TrackId) (u : State) : Prop where
  distance : (u.channel t).frame.approachDistance = k.distance
  threshold : (u.channel t).threshold = (k.threshold : Nat)
  shortest : (u.channel t).lengthMin = k.shortest
  longest : (u.channel t).lengthMax = k.longest
  speed : (u.channel t).speed = .fresh k.estimate
  now : u.localTime = k.now
  sensor : detectorIndex t (approachDetector (u.channel t).passage.direction) = k.sensor
  running : (u.channel t).closing = false

theorem Gauge.Fits.tends (fits : k.Fits t u) (tends : u.Tends v) (time : v.localTime = u.localTime) : k.Fits t v := by
  obtain ⟨distance, threshold, shortest, longest, speed, now, sensor, running⟩ := fits
  obtain ⟨_, _, _, _, _, _, _, _, same⟩ := tends t
  constructor <;> simp only [same, time] <;> assumption

/-! ## The first timing of a head -/

theorem hasCome_some (x now : LocalTime) : hasCome (some x) now = !after x now := by
  simp [hasCome, atOrBefore, after, ← decide_not]

/-- A position ahead is reached after the time that the way takes at the anchor speed (R53). -/
theorem Anchor.reaches_ahead {a : Anchor} {target : Int} {way : Nat} (moves : 0 < a.speed) (some : 0 < way)
    (ahead : target - a.position = way) : a.reaches target = Option.some (later a.time (ceilDiv (way * 1000) a.speed)) := by
  rw [Anchor.reaches, if_neg (by omega), ahead, if_neg (by omega), Int.toNat_natCast]

theorem Gauge.Fits.timed_eq (fits : k.Fits t u) (far : 0 < k.distance) (fast : 0 < k.estimate) (fresh : h.crossed = false)
    (here : h.departed = false) : (u.channel t).timed h k.estimate u.localTime
      = { k.timed h with
          crossed := !after (k.crossing h) k.now, departed := !after (k.departure h) k.now } := by
  have anchor : (u.channel t).firstAnchor h
      = { time := h.blockedStart, position := -((k.distance * 1000 : Nat) : Int), speed := k.estimate } := by
    rw [Channel.firstAnchor, fits.distance, fits.speed]
    rfl
  have crosses : Anchor.dueAt { time := h.blockedStart, position := -((k.distance * 1000 : Nat) : Int), speed := k.estimate } 0
      = some (k.crossing h) :=
    Anchor.reaches_ahead fast (by omega) (by simp)
  have departs : Anchor.reaches { time := h.blockedStart, position := -((k.distance * 1000 : Nat) : Int), speed := k.estimate }
      (k.threshold : Nat) = some (k.departure h) :=
    Anchor.reaches_ahead fast (by omega) (by simp)
  rw [Channel.timed, anchor, fits.threshold, fits.now]
  simp only [Head.predict, Head.predictDeparture, fresh, here, Bool.false_eq_true, if_false, Option.bind_some, crosses,
    departs, hasCome_some]
  rfl

/-! ## Updates that commute, and updates of one head -/

theorem praises_updHead (s : State) (t : TrackId) (n : Nat) (f : Head → Head) (i : Fin 12) :
    (s.updHead t n f).praises t i = (s.praises t i).updHead t n f := by
  have rehearsal : ((s.updHead t n f).channel t).passage.rehearsal = (s.channel t).passage.rehearsal := by
    rw [State.updHead, State.updChannel_same]
  unfold State.praises
  rw [rehearsal]
  split
  · rfl
  · unfold State.good
    rw [State.updHead_health]
    cases healthEvent s.health[i].state s.health[i].good.state <;> rfl

theorem State.Alone.updHead_congr (alone : s.Alone t h) {g : Head → Head} (same : f h = g h) :
    s.updHead t h.index f = s.updHead t h.index g := by
  have heads : ((s.channel t).heads.map fun x => if x.index = h.index then f x else x)
      = (s.channel t).heads.map fun x => if x.index = h.index then g x else x := by
    refine List.map_congr_left fun x mem => ?_
    by_cases index : x.index = h.index
    · rw [alone.only mem index, if_pos rfl, if_pos rfl, same]
    · rw [if_neg index, if_neg index]
  exact State.updChannel_congr (congrArg (fun heads => { s.channel t with heads := heads }) heads)

theorem State.Alone.updHead (alone : s.Alone t h) (index : ∀ x, x.index = h.index → (f x).index = h.index) :
    (s.updHead t h.index f).Alone t (f h) := by
  unfold State.Alone at alone ⊢
  have same (x : Head) : ((if x.index = h.index then f x else x).index == h.index) = (x.index == h.index) := by
    split
    · next here => rw [index x here, here]
    · rfl
  rw [updHead_heads, index h rfl, List.filter_map, Function.comp_def]
  simp only [same, alone, List.map_cons, List.map_nil, if_true]

/-- A head that closes MISSED at its first timing leaves the list, and its record is offered (R63, R72). -/
theorem closeHead_missed (alone : s.Alone t h) (index : ∀ x, x.index = h.index → (f x).index = h.index) :
    (s.updHead t h.index f).closeHead t h.index .missedAtFirstTiming
      = ((s.dropEntry t h.index).updChannel t fun c => c.closedHead .missedAtFirstTiming h).offerInOrder
        (ofTrack t (headRecord (s.channel t).passage (f h) .missed)) := by
  have found := (alone.updHead index).findHead
  rw [index h rfl] at found
  have record : (s.updHead t h.index f).recordOf t .missedAtFirstTiming (f h)
      = headRecord (s.channel t).passage (f h) .missed := by
    change headRecord ((s.updHead t h.index f).channel t).passage (f h) .missed = _
    rw [State.updHead, State.updChannel_same]
  have leaves : (((s.updHead t h.index f).dropEntry t h.index).updChannel t fun c => c.closedHead .missedAtFirstTiming (f h))
      = (s.dropEntry t h.index).updChannel t fun c => c.closedHead .missedAtFirstTiming h := by
    change ((s.dropEntry t h.index).updHead t h.index f).updChannel t _ = _
    have away := updHead_elsewhere (s.dropEntry t h.index) t h.index index
    rw [State.Elsewhere, updHead_heads] at away
    rw [State.updHead, State.updChannel_updChannel]
    refine State.updChannel_congr ?_
    rw [Channel.closedHead, Channel.removeHead, index h rfl, away]
    rfl
  rw [closeHead_eq found, record, leaves]

/-! ## The model judges by the gauge (R62 to R64) -/

theorem Gauge.timed_index (k : Gauge) (h x : Head) (same : x.index = h.index) : (k.timed x).index = h.index := same

/-- A valid head is timed: its crossing decides whether it is handed to its plan. -/
theorem Gauge.Fits.firstTiming_eq (fits : k.Fits t u) (far : 0 < k.distance) (fast : 0 < k.estimate) (alone : u.Alone t h)
    (flags : h.crossed = false ∧ h.departed = false ∧ h.confirmed = false)
    (timely : after (k.crossing h) k.now = true → after (k.departure h) k.now = true) :
    u.firstTiming t h.index k.estimate
      = if after (k.crossing h) k.now then ((u.praises t k.sensor).updHead t h.index k.timed).startPlan t h.index
        else ((u.praises t k.sensor).updHead t h.index k.timed).closeHead t h.index .missedAtFirstTiming := by
  obtain ⟨crossed, departed, confirmed⟩ := flags
  have praised : (u.praises t k.sensor).channels = u.channels := goodUnlessRehearsal_channels u t k.sensor
  have alone' : (u.praises t k.sensor).Alone t h := alone.congr (by rw [State.channel_eq praised])
  have anchored (x : Head) : (u.updHead t h.index fun _ => x).goodUnlessRehearsal t k.sensor
      = (u.praises t k.sensor).updHead t h.index fun _ => x := praises_updHead u t h.index _ k.sensor
  dsimp only [State.firstTiming]
  rw [alone.findHead, fits.sensor]
  dsimp only
  rw [fits.timed_eq far fast crossed departed, anchored]
  by_cases ahead : after (k.crossing h) k.now = true
  · have same : { k.timed h with crossed := false, departed := false } = k.timed h := by
      simp only [Gauge.timed, crossed, departed]
    simp only [ahead, timely ahead, Bool.not_true, Bool.false_eq_true, if_false, if_true]
    rw [same, alone'.updHead_congr (f := fun _ => k.timed h) (g := k.timed) rfl]
    refine closeTest_stays ?_ fun g mem index => ?_
    · have tends : u.Tends (((u.praises t k.sensor).updHead t h.index k.timed).startPlan t h.index) :=
        ((State.Tends.of_eq praised).trans (updHead_tends _ t h.index k.timed)).trans (tending_tends.startPlan _ t h.index)
      exact (tends t).keeps.1.trans fits.running
    · obtain ⟨x, held, same, confirms, departs⟩ := (startPlan_runsHead _ t h.index).flags g mem index
      have := (alone'.updHead (k.timed_index h)).only held same
      subst this
      exact ⟨confirms.trans confirmed, departs.trans departed⟩
  · simp only [ahead, Bool.not_false, if_true, Bool.false_eq_true, if_false]
    have missed := closeHead_missed alone'
      (f := fun _ => { k.timed h with crossed := true, departed := !after (k.departure h) k.now }) fun _ _ => rfl
    exact missed.trans (closeHead_missed alone' (k.timed_index h)).symm

theorem Gauge.Fits.lengthValid_iff (fits : k.Fits t u) (h : Head) :
    (u.channel t).lengthValid (lengthOf k.estimate h.duration) = true
      ↔ k.shortest ≤ k.length h ∧ k.length h ≤ k.longest := by
  rw [Channel.lengthValid, fits.shortest, fits.longest, inRange, Bool.and_eq_true, decide_eq_true_eq, decide_eq_true_eq]
  rfl

/-- Judging an UNTIMED head is judging it by the gauge (R64). -/
theorem Gauge.Fits.judgeUntimed_eq (fits : k.Fits t u) (far : 0 < k.distance) (fast : 0 < k.estimate) (alone : u.Alone t h)
    (flags : h.crossed = false ∧ h.departed = false ∧ h.confirmed = false)
    (timely : k.shortest ≤ k.length h → k.length h ≤ k.longest →
      after (k.crossing h) k.now = true → after (k.departure h) k.now = true) :
    u.judgeUntimed t h.index k.estimate = k.judge t u h := by
  rw [State.judgeUntimed, alone.findHead, Gauge.judge]
  by_cases valid : k.shortest ≤ k.length h ∧ k.length h ≤ k.longest
  · have accepted : k.Fits t (u.updPassage t Passage.countAccepted) := fits.tends (tending_tends.accepted u t) rfl
    have alone' : (u.updPassage t Passage.countAccepted).Alone t h :=
      alone.congr (by rw [State.updPassage, State.updChannel_same])
    rw [if_pos valid]
    dsimp only
    rw [if_pos ((fits.lengthValid_iff h).mpr valid), accepted.firstTiming_eq far fast alone' flags (timely valid.1 valid.2)]
    rfl
  · rw [if_neg valid]
    dsimp only
    rw [if_neg fun length => valid ((fits.lengthValid_iff h).mp length), Gauge.reject, ← fits.sensor, State.rejectInterval,
      State.approachFault, State.updPassage, State.updChannel_updChannel, State.updChannel_same]
    rfl

end Sys2Proof.Machine
end

section
/-! Proofs: the first estimate of a passage judges its heads in detection order. -/

namespace Sys2Proof.Machine

variable {s u v : State} {t : TrackId} {h : Head} {l : List Head} {k : Gauge}

/-! ## Heads that wait for their judgement -/

/-- The heads of a list wait for their judgement by a gauge, one after another (R44, R64). -/
structure Gauge.Awaits (k : Gauge) (t : TrackId) (u : State) (l : List Head) : Prop where
  fits : k.Fits t u
  far : 0 < k.distance
  fast : 0 < k.estimate
  alone : ∀ h ∈ l, u.Alone t h
  distinct : (l.map fun h => h.index).Nodup
  flags : ∀ h ∈ l, h.crossed = false ∧ h.departed = false ∧ h.confirmed = false
  timely : ∀ h ∈ l, k.shortest ≤ k.length h → k.length h ≤ k.longest →
    after (k.crossing h) k.now = true → after (k.departure h) k.now = true

theorem Gauge.Awaits.head (awaits : k.Awaits t u (h :: l)) : u.Alone t h := awaits.alone h List.mem_cons_self

theorem Gauge.Awaits.judgeUntimed_eq (awaits : k.Awaits t u (h :: l)) :
    u.judgeUntimed t h.index k.estimate = k.judge t u h :=
  awaits.fits.judgeUntimed_eq awaits.far awaits.fast awaits.head (awaits.flags h List.mem_cons_self)
    (awaits.timely h List.mem_cons_self)

theorem praises_channels (s : State) (t : TrackId) (i : Fin 12) : (s.praises t i).channels = s.channels :=
  goodUnlessRehearsal_channels s t i

theorem reports_channels (s : State) (t : TrackId) (i : Fin 12) : (s.reports t i).channels = s.channels :=
  faultUnlessRehearsal_channels s t i

/-- Accepting a head leaves the other heads alone. -/
theorem Gauge.accept_elsewhere (k : Gauge) (t : TrackId) (u : State) (h : Head) : u.Elsewhere (k.accept t u h) t h.index := by
  refine .trans (.of_heads ?_) (updHead_elsewhere (k.praised t u) t h.index (k.timed_index h))
  rw [Gauge.praised, State.channel_eq (praises_channels _ t k.sensor), State.updPassage, State.updChannel_same]

/-- The judgement of a head leaves the other heads alone. -/
theorem Gauge.judge_elsewhere (k : Gauge) (t : TrackId) (u : State) (h : Head) : u.Elsewhere (k.judge t u h) t h.index := by
  unfold Gauge.judge
  split
  · split
    · exact (k.accept_elsewhere t u h).trans (startPlan_runsHead _ t h.index).elsewhere
    · exact (k.accept_elsewhere t u h).trans (closeHead_runsHead _ t h.index _).elsewhere
  · exact removed_elsewhere (by rw [Gauge.reject, State.channel_eq (reports_channels _ t k.sensor), State.updChannel_same])

/-- The others still wait once the first head is judged. -/
theorem Gauge.Awaits.next (awaits : k.Awaits t u (h :: l)) : k.Awaits t (k.judge t u h) l := by
  have judged := awaits.judgeUntimed_eq
  obtain ⟨fits, far, fast, alone, distinct, flags, timely⟩ := awaits
  obtain ⟨first, distinct⟩ := List.nodup_cons.mp distinct
  have still : k.Fits t (k.judge t u h) := by
    rw [← judged]
    exact fits.tends (tending_tends.judgeUntimed u t h.index _) (judgeUntimed_work u t h.index _).keeps.2.1
  have others (g : Head) (mem : g ∈ l) : (k.judge t u h).Alone t g :=
    (alone g (List.mem_cons_of_mem h mem)).elsewhere (k.judge_elsewhere t u h) fun same =>
      first (List.mem_map.mpr ⟨g, mem, same⟩)
  exact ⟨still, far, fast, others, distinct, fun g mem => flags g (List.mem_cons_of_mem h mem),
    fun g mem => timely g (List.mem_cons_of_mem h mem)⟩

/-- Judging the UNTIMED heads is judging them by the gauge, one after another (R44, R64). -/
theorem Gauge.Awaits.judgeAll_eq (awaits : k.Awaits t u l) :
    u.judgeAll t k.estimate (l.map fun h => h.index) = l.foldl (k.judge t) u := by
  induction l generalizing u with
  | nil => rfl
  | cons h rest ih =>
    rw [List.map_cons, State.judgeAll, awaits.judgeUntimed_eq]
    exact ih awaits.next

theorem reanchorAll_eq (s : State) (t : TrackId) (speed : Nat) (l : List Nat) :
    s.reanchorAll t speed l = l.foldl (fun u index => u.reanchorHead t speed index) s := by
  induction l generalizing s with
  | nil => rfl
  | cons n rest ih => exact ih _

/-! ## The work on heads that a new estimate asks for (R44) -/

theorem tendHeads_none (s : State) (t : TrackId) (speed : Speed) (estimate : Nat) : s.tendHeads t speed estimate [] [] = s :=
  ite_self s

theorem tendHeads_timed {speed : Speed} (some : speed ≠ .absent) (s : State) (t : TrackId) (estimate : Nat)
    (timed untimed : List Nat) : s.tendHeads t speed estimate timed untimed
      = timed.foldl (fun u index => u.reanchorHead t estimate index) s :=
  (if_neg some).trans (reanchorAll_eq s t estimate timed)

/-- With no head timed, the first estimate judges every head. -/
theorem Gauge.Awaits.tendHeads_eq {c : Channel} (awaits : k.Awaits t u c.heads) (untimed : ∀ h ∈ c.heads, h.anchor = none) :
    u.tendHeads t .absent k.estimate c.timedIndices c.untimedIndices = c.heads.foldl (k.judge t) u := by
  have timed : c.timedIndices = [] := by
    rw [Channel.timedIndices, List.filter_eq_nil_iff.mpr fun h mem => by simp [untimed h mem], List.map_nil]
  have all : c.untimedIndices = c.heads.map fun h => h.index := by
    rw [Channel.untimedIndices, List.filter_eq_self.mpr fun h mem => by simp [untimed h mem]]
  rw [timed, all]
  exact awaits.judgeAll_eq

end Sys2Proof.Machine
end

section
/-! Proofs: heads that are judged with no plan bound, one by one. -/

namespace Sys2Proof.Machine

variable {s u v : State} {t : TrackId} {h : Head} {l : List Head} {k : Gauge} {given all : List HeadRecord}

/-! ## What becomes of a head with no plan bound (R62 to R64) -/

/-- The length of a head lies within the limits (R59). -/
def Gauge.valid (k : Gauge) (h : Head) : Bool := decide (k.shortest ≤ k.length h ∧ k.length h ≤ k.longest)

/-- The predicted crossing of a head lies ahead. -/
def Gauge.ahead (k : Gauge) (h : Head) : Bool := after (k.crossing h) k.now

/-- A head that stays: timed, and FINISHED at once (R62). -/
def Gauge.finished (k : Gauge) (h : Head) : Head := { k.timed h with status := .finished }

/-- The record of a head that closes MISSED at its first timing (R63). -/
def Gauge.missed (k : Gauge) (t : TrackId) (u : State) (h : Head) : HeadRecord :=
  headRecord (u.channel t).passage (k.timed h) .missed

/-- The channel of a track as the judgement of a head leaves it. -/
def Gauge.judged (k : Gauge) (x : Channel) (h : Head) : Channel :=
  if k.valid h then
    if k.ahead h then
      { x with
        heads := x.heads.map fun g => if g.index = h.index then k.finished g else g
        passage := { x.passage with accepted := satSucc 255 x.passage.accepted } }
    else Channel.closedHead .missedAtFirstTiming
      { x with passage := { x.passage with accepted := satSucc 255 x.passage.accepted } } h
  else
    { x with
      heads := x.heads.filter fun g => g.index != h.index
      passage := { x.passage with rejected := satSucc 255 x.passage.rejected } }

/-- The health entry of the sensor as the judgement of a head leaves it. -/
def Gauge.credit (k : Gauge) (rehearsal : Bool) (e : Health) (h : Head) : Health :=
  if rehearsal then e else if k.valid h then e.good else e.fault

/-- The heads of a list wait for their judgement, and no plan is bound for their track and direction. -/
structure Gauge.AwaitsUnbound (k : Gauge) (t : TrackId) (u : State) (l : List Head) : Prop extends k.Awaits t u l where
  unbound : (u.binding t (u.channel t).passage.direction).plan = none

/-! ## The three ways -/

theorem Records.frame (h : Records s u) : u = { s with
    channels := u.channels, timeline := u.timeline, health := u.health, store := u.store, attention := u.attention,
    link := u.link } := by
  obtain ⟨_, _, _, _, _, _, rfl, -⟩ := h
  rfl

theorem good_faults (s : State) (i : Fin 12) : Faults s (s.good i) := by
  unfold State.good
  cases healthEvent s.health[i].state s.health[i].good.state <;> rfl

theorem praises_faults (s : State) (t : TrackId) (i : Fin 12) : Faults s (s.praises t i) := by
  unfold State.praises
  split
  · rfl
  · exact good_faults s i

theorem reports_faults (s : State) (t : TrackId) (i : Fin 12) : Faults s (s.reports t i) := by
  unfold State.reports
  split
  · rfl
  · exact fault_faults s i

theorem Faults.keeps (h : Faults s u) : u.channels = s.channels ∧ u.timeline = s.timeline ∧ u.store = s.store
    ∧ u.link = s.link ∧ u.ticks = s.ticks ∧ u.localTime = s.localTime ∧ u.bindings = s.bindings := by
  rw [h]
  exact ⟨rfl, rfl, rfl, rfl, rfl, rfl, rfl⟩

theorem Gauge.praised_keeps (k : Gauge) (t : TrackId) (u : State) : let a := k.praised t u
    a.channels = (u.updPassage t fun p => { p with accepted := satSucc 255 p.accepted }).channels
    ∧ a.timeline = u.timeline ∧ a.store = u.store ∧ a.link = u.link ∧ a.ticks = u.ticks ∧ a.localTime = u.localTime
    ∧ a.bindings = u.bindings :=
  (praises_faults (u.updPassage t fun p => { p with accepted := satSucc 255 p.accepted }) t k.sensor).keeps

theorem Gauge.praised_channel (k : Gauge) (t : TrackId) (u : State) : (k.praised t u).channel t
    = { u.channel t with
        passage := { (u.channel t).passage with accepted := satSucc 255 (u.channel t).passage.accepted } } := by
  rw [State.channel_eq (k.praised_keeps t u).1, State.updPassage, State.updChannel_same]

theorem updHead_updHead (s : State) (t : TrackId) (n : Nat) {f : Head → Head} (g : Head → Head)
    (index : ∀ x, x.index = n → (f x).index = n) : (s.updHead t n f).updHead t n g = s.updHead t n fun x => g (f x) := by
  have heads : (((s.channel t).heads.map fun x => if x.index = n then f x else x).map fun x => if x.index = n then g x else x)
      = (s.channel t).heads.map fun x => if x.index = n then g (f x) else x := by
    rw [List.map_map]
    refine List.map_congr_left fun x _ => ?_
    by_cases same : x.index = n
    · simp only [Function.comp_apply, if_pos same, if_pos (index x same)]
    · simp only [Function.comp_apply, if_neg same]
  rw [State.updHead, State.updHead, State.updChannel_updChannel]
  exact State.updChannel_congr (congrArg (fun heads => { s.channel t with heads := heads }) heads)

/-- With no plan bound a head stays FINISHED, closes MISSED or is rejected. -/
theorem Gauge.AwaitsUnbound.judge_cases (awaits : k.AwaitsUnbound t u (h :: l)) :
    (k.valid h = true ∧ k.ahead h = true ∧ k.judge t u h = (k.praised t u).updHead t h.index k.finished)
    ∨ (k.valid h = true ∧ k.ahead h = false
      ∧ k.judge t u h = ((k.praised t u).updHead t h.index k.timed).closeHead t h.index .missedAtFirstTiming)
    ∨ (k.valid h = false ∧ k.judge t u h = k.reject t u h) := by
  unfold Gauge.judge
  by_cases valid : k.shortest ≤ k.length h ∧ k.length h ≤ k.longest
  · rw [if_pos valid]
    by_cases ahead : after (k.crossing h) k.now = true
    · have binding : ((k.accept t u h).binding t ((k.accept t u h).channel t).passage.direction).plan = none := by
        have direction : ((k.accept t u h).channel t).passage.direction = (u.channel t).passage.direction := by
          rw [Gauge.accept, State.updHead, State.updChannel_same, k.praised_channel]
        obtain ⟨-, -, -, -, -, -, bindings⟩ := k.praised_keeps t u
        have same : (k.accept t u h).bindings = u.bindings := bindings
        rw [State.binding, same, direction]
        exact awaits.unbound
      refine .inl ⟨decide_eq_true valid, ahead, ?_⟩
      rw [if_pos ahead, State.startPlan]
      dsimp only
      rw [binding]
      exact updHead_updHead (k.praised t u) t h.index _ (k.timed_index h)
    · exact .inr (.inl ⟨decide_eq_true valid, Bool.eq_false_iff.mpr ahead, if_neg ahead⟩)
  · exact .inr (.inr ⟨decide_eq_false valid, if_neg valid⟩)

theorem Gauge.AwaitsUnbound.judge_records (awaits : k.AwaitsUnbound t u (h :: l)) : Records u (k.judge t u h) := by
  have praised : Records u (k.praised t u) := (updPassage_records u t _).trans (goodUnlessRehearsal_records _ t k.sensor)
  obtain ⟨-, -, judge⟩ | ⟨-, -, judge⟩ | ⟨-, judge⟩ := awaits.judge_cases
  · rw [judge]
    exact praised.trans (updHead_records _ t h.index _)
  · rw [judge]
    exact (praised.trans (updHead_records _ t h.index _)).trans (closeHead_records _ t h.index _)
  · rw [judge]
    exact (updChannel_records u t _).trans (faultUnlessRehearsal_records _ t k.sensor)

theorem Gauge.AwaitsUnbound.next (awaits : k.AwaitsUnbound t u (h :: l)) : k.AwaitsUnbound t (k.judge t u h) l := by
  have tends : u.Tends (k.judge t u h) := by
    rw [← awaits.judgeUntimed_eq]
    exact tending_tends.judgeUntimed u t h.index _
  have direction : ((k.judge t u h).channel t).passage.direction = (u.channel t).passage.direction := by
    obtain ⟨_, _, _, _, _, _, _, _, same⟩ := tends t
    rw [same]
  refine ⟨awaits.toAwaits.next, ?_⟩
  obtain ⟨-, -, -, -, bindings, -⟩ := awaits.judge_records.work.keeps
  rw [State.binding, bindings, direction]
  exact awaits.unbound

/-! ## What each part of the state is left with -/

/-- The head closes MISSED as it is judged. -/
def Gauge.gone (k : Gauge) (h : Head) : Bool := k.valid h && !k.ahead h

theorem Gauge.AwaitsUnbound.judge_closes (awaits : k.AwaitsUnbound t u (h :: l)) (valid : k.valid h = true)
    (ahead : k.ahead h = false) : k.judge t u h
      = (((k.praised t u).dropEntry t h.index).updChannel t fun c => c.closedHead .missedAtFirstTiming h).offerInOrder
        (ofTrack t (k.missed t u h)) := by
  have alone : (k.praised t u).Alone t h := awaits.head.congr (by rw [k.praised_channel])
  obtain ⟨-, late, -⟩ | ⟨-, -, judge⟩ | ⟨invalid, -⟩ := awaits.judge_cases
  · simp [late] at ahead
  · rw [judge, closeHead_missed alone (k.timed_index h), k.praised_channel]
    rfl
  · simp [invalid] at valid

theorem Gauge.AwaitsUnbound.judge_timeline (awaits : k.AwaitsUnbound t u (h :: l)) : (k.judge t u h).timeline
    = if k.gone h then u.timeline.filter (fun e => !e.isOf t h.index) else u.timeline := by
  obtain ⟨-, timeline, -⟩ := k.praised_keeps t u
  obtain ⟨valid, ahead, judge⟩ | ⟨valid, ahead, -⟩ | ⟨valid, judge⟩ := awaits.judge_cases
  · rw [judge, if_neg (by simp [Gauge.gone, ahead]), State.updHead_timeline, timeline]
  · rw [awaits.judge_closes valid ahead, if_pos (by simp [Gauge.gone, valid, ahead]), State.offerInOrder, offer_timeline]
    change (k.praised t u).timeline.filter _ = _
    rw [timeline]
  · rw [judge, if_neg (by simp [Gauge.gone, valid])]
    exact (reports_faults _ t k.sensor).keeps.2.1

theorem good_health (s : State) (i j : Fin 12) :
    (s.good i).health[j] = if j = i then s.health[j].good else s.health[j] := by
  rw [State.good, latchSome_health]
  exact State.updHealth_health s i j _

theorem praises_health (s : State) (t : TrackId) (i j : Fin 12) : (s.praises t i).health[j]
    = if j = i then (if (s.channel t).passage.rehearsal then s.health[j] else s.health[j].good) else s.health[j] := by
  unfold State.praises
  split
  · simp
  · exact good_health s i j

theorem reports_health (s : State) (t : TrackId) (i j : Fin 12) : (s.reports t i).health[j]
    = if j = i then (if (s.channel t).passage.rehearsal then s.health[j] else s.health[j].fault) else s.health[j] := by
  unfold State.reports
  split
  · simp
  · exact fault_health s i j

theorem Gauge.AwaitsUnbound.judge_health (awaits : k.AwaitsUnbound t u (h :: l)) (j : Fin 12) : (k.judge t u h).health[j]
    = if j = k.sensor then k.credit (u.channel t).passage.rehearsal u.health[j] h else u.health[j] := by
  have praised : (k.praised t u).health[j]
      = if j = k.sensor then (if (u.channel t).passage.rehearsal then u.health[j] else u.health[j].good) else u.health[j] := by
    rw [Gauge.praised, praises_health, State.updPassage, State.updChannel_same]
    rfl
  obtain ⟨valid, ahead, judge⟩ | ⟨valid, ahead, judge⟩ | ⟨valid, judge⟩ := awaits.judge_cases
  · simp only [judge, State.updHead_health, praised, Gauge.credit, valid, if_true]
  · rw [judge, (closeHead_offers _ t h.index _).keeps.2.2.2]
    simp only [State.updHead_health, praised, Gauge.credit, valid, if_true]
  · rw [judge, Gauge.reject, reports_health, State.updChannel_same]
    simp only [State.updChannel_health, Gauge.credit, valid, Bool.false_eq_true, if_false]

/-- The record of a head that goes is given in turn; the channel is left as judged. -/
theorem Gauge.AwaitsUnbound.judge_turned (awaits : k.AwaitsUnbound t u (h :: l)) (turned : s.Turned u t given all)
    (new : ∀ x ∈ all, x.index ≠ h.index) (behind : ∀ a ∈ given, a.index < h.index)
    (room : s.store.records.length + given.length < 32) :
    let v := k.judge t u h
    (∃ all', s.Turned v t (given ++ if k.gone h then [k.missed t u h] else []) all'
      ∧ ∀ x ∈ all', x ∈ all ∨ x.index = h.index)
    ∧ v.channels = (u.updChannel t fun x => k.judged x h).channels := by
  obtain ⟨channels, -, store, link, ticks, time, -⟩ := k.praised_keeps t u
  have praised : s.Turned (k.praised t u) t given all := turned.congr store link ticks time
  obtain ⟨valid, ahead, judge⟩ | ⟨valid, ahead, -⟩ | ⟨valid, judge⟩ := awaits.judge_cases
  · rw [if_neg (by simp [Gauge.gone, ahead]), List.append_nil]
    refine ⟨⟨all, by rw [judge]; exact praised.congr rfl rfl rfl rfl, fun x mem => .inl mem⟩, ?_⟩
    rw [judge, State.updHead, updChannel_channels_congr channels, State.updPassage, State.updChannel_updChannel]
    refine congrArg State.channels (State.updChannel_congr ?_)
    simp only [Gauge.judged, valid, ahead, if_true]
  · rw [if_pos (by simp [Gauge.gone, valid, ahead]), awaits.judge_closes valid ahead]
    obtain ⟨q, same⟩ : ∃ q, ((k.praised t u).dropEntry t h.index).updChannel t
      (fun c => c.closedHead .missedAtFirstTiming h) = q := ⟨_, rfl⟩
    have leaves : s.Turned q t given all := same ▸ praised.congr rfl rfl rfl rfl
    have room' : q.store.records.length < 32 := by
      have length := leaves.inTurn.length
      rw [List.length_nil] at length
      omega
    rw [same]
    refine ⟨⟨_, leaves.offer new room' fun a mem => .inl (behind a mem), fun x mem => ?_⟩, ?_⟩
    · rcases List.mem_append.mp ((inDetectionOrder_perm turned.order new).mem_iff.mp mem) with old | this
      · exact .inl old
      · exact .inr (congrArg HeadRecord.index (List.mem_singleton.mp this))
    · obtain ⟨_, _, _, offers⟩ := offerInOrder_room room' t (k.missed t u h)
      have closed : q.channels = (u.updChannel t fun x => k.judged x h).channels := by
        rw [← same]
        refine (updChannel_channels_congr (u := (k.praised t u).dropEntry t h.index) channels).trans ?_
        rw [State.updPassage, State.updChannel_updChannel]
        refine congrArg State.channels (State.updChannel_congr ?_)
        simp only [Gauge.judged, valid, ahead, if_true, Bool.false_eq_true, if_false]
      rw [offers]
      exact closed
  · rw [if_neg (by simp [Gauge.gone, valid]), List.append_nil]
    obtain ⟨channels, -, store, link, ticks, time, -⟩ := (reports_faults (u.updChannel t fun x =>
      { x with
        heads := x.heads.filter fun g => g.index != h.index
        passage := { x.passage with rejected := satSucc 255 x.passage.rejected } }) t k.sensor).keeps
    rw [judge]
    refine ⟨⟨all, turned.congr store link ticks time, fun x mem => .inl mem⟩, channels.trans ?_⟩
    refine congrArg State.channels (State.updChannel_congr ?_)
    simp only [Gauge.judged, valid, Bool.false_eq_true, if_false]

end Sys2Proof.Machine
end

section
/-! Proofs: heads that are judged with no plan bound, all in turn. -/

namespace Sys2Proof.Machine

variable {s u v : State} {t : TrackId} {h : Head} {l : List Head} {k : Gauge} {given all : List HeadRecord}

/-! ## One after another -/

theorem Gauge.AwaitsUnbound.judge_tends (awaits : k.AwaitsUnbound t u (h :: l)) : u.Tends (k.judge t u h) := by
  rw [← awaits.judgeUntimed_eq]
  exact tending_tends.judgeUntimed u t h.index _

/-- Judging a head leaves the header of the records of the others. -/
theorem Gauge.missed_tends (tends : u.Tends v) (k : Gauge) (t : TrackId) : k.missed t v = k.missed t u := by
  obtain ⟨_, _, _, _, _, _, _, _, same⟩ := tends t
  funext g
  simp only [Gauge.missed, same]
  rfl

theorem Gauge.AwaitsUnbound.foldl_turned (awaits : k.AwaitsUnbound t u l) (turned : s.Turned u t given all)
    (new : ∀ h ∈ l, ∀ x ∈ all, x.index ≠ h.index) (order : (l.map fun h => h.index).Pairwise (· < ·))
    (behind : ∀ a ∈ given, ∀ h ∈ l, a.index < h.index) (room : s.store.records.length + given.length + l.length ≤ 32) :
    let v := l.foldl (k.judge t) u
    s.Turned v t (given ++ (l.filter k.gone).map (k.missed t u)) (v.offeredOf t)
    ∧ v.channels = (u.updChannel t fun x => l.foldl k.judged x).channels := by
  induction l generalizing u given all with
  | nil =>
    have offered := turned.offered
    subst offered
    refine ⟨by simpa using turned, ?_⟩
    rw [State.updChannel_id rfl]
    rfl
  | cons h rest ih =>
    obtain ⟨after_, order⟩ := List.pairwise_cons.mp order
    rw [List.length_cons] at room
    have later (g : Head) (mem : g ∈ rest) : h.index < g.index := after_ g.index (List.mem_map_of_mem mem)
    obtain ⟨⟨all', turned', either⟩, channels⟩ :=
      awaits.judge_turned turned (new h List.mem_cons_self) (fun a gave => behind a gave h List.mem_cons_self) (by omega)
    have gave : (given ++ if k.gone h then [k.missed t u h] else []).length ≤ given.length + 1 := by
      split <;> simp
    obtain ⟨inTurn, channels'⟩ := ih awaits.next turned'
      (fun g mem x held => by
        rcases either x held with old | same
        · exact new g (List.mem_cons_of_mem h mem) x old
        · have := later g mem
          omega)
      order
      (fun a gave g mem => by
        rcases List.mem_append.mp gave with old | this
        · exact behind a old g (List.mem_cons_of_mem h mem)
        · split at this
          · obtain rfl := List.mem_singleton.mp this
            exact later g mem
          · simp at this)
      (by omega)
    have records : (given ++ if k.gone h then [k.missed t u h] else []) ++ (rest.filter k.gone).map (k.missed t u)
        = given ++ ((h :: rest).filter k.gone).map (k.missed t u) := by
      rw [List.append_assoc, List.filter_cons]
      split <;> simp
    rw [Gauge.missed_tends awaits.judge_tends, records] at inTurn
    refine ⟨inTurn, channels'.trans ((updChannel_channels_congr channels).trans ?_)⟩
    rw [State.updChannel_updChannel]
    rfl

theorem Gauge.AwaitsUnbound.foldl_timeline (awaits : k.AwaitsUnbound t u l) : (l.foldl (k.judge t) u).timeline
    = u.timeline.filter fun e => !(e.track == t && (l.filter k.gone).any fun h => h.index == e.index) := by
  induction l generalizing u with
  | nil => simp
  | cons h rest ih =>
    rw [List.foldl_cons, ih awaits.next, awaits.judge_timeline, List.filter_cons]
    split
    · rw [List.filter_filter]
      refine List.filter_congr fun e _ => ?_
      rw [TimelineEntry.isOf, List.any_cons, Bool.beq_comm (a := e.index)]
      cases e.track == t <;> cases h.index == e.index <;> simp
    · rfl

theorem Gauge.AwaitsUnbound.foldl_health (awaits : k.AwaitsUnbound t u l) (j : Fin 12) :
    (l.foldl (k.judge t) u).health[j]
      = if j = k.sensor then l.foldl (k.credit (u.channel t).passage.rehearsal) u.health[j] else u.health[j] := by
  induction l generalizing u with
  | nil => simp
  | cons h rest ih =>
    have rehearsal : ((k.judge t u h).channel t).passage.rehearsal = (u.channel t).passage.rehearsal := by
      obtain ⟨_, _, _, _, _, _, _, _, same⟩ := awaits.judge_tends t
      rw [same]
    rw [List.foldl_cons, ih awaits.next, awaits.judge_health, rehearsal]
    split <;> rfl

theorem Gauge.AwaitsUnbound.foldl_tends (awaits : k.AwaitsUnbound t u l) : u.Tends (l.foldl (k.judge t) u) := by
  induction l generalizing u with
  | nil => exact .refl u
  | cons h rest ih => exact awaits.judge_tends.trans (ih awaits.next)

theorem Gauge.AwaitsUnbound.foldl_records (awaits : k.AwaitsUnbound t u l) : Records u (l.foldl (k.judge t) u) := by
  induction l generalizing u with
  | nil => exact .refl u
  | cons h rest ih => exact awaits.judge_records.trans (ih awaits.next)

/-! ## The channel and the sensor in the end -/

theorem index_ne_of_distinct {done : List Head} (distinct : ((done ++ h :: l).map fun g => g.index).Nodup) :
    ((done ++ l).map fun g => g.index).Nodup ∧ (∀ g ∈ done, g.index ≠ h.index) ∧ ∀ g ∈ l, g.index ≠ h.index := by
  rw [List.map_append, List.map_cons, List.nodup_middle, List.nodup_cons, ← List.map_append] at distinct
  obtain ⟨new, distinct⟩ := distinct
  have other (g : Head) (mem : g ∈ done ++ l) : g.index ≠ h.index := fun same => new (List.mem_map.mpr ⟨g, mem, same⟩)
  exact ⟨distinct, fun g mem => other g (List.mem_append_left _ mem), fun g mem => other g (List.mem_append_right _ mem)⟩

/-- An update of the head of an index finds that head alone. -/
theorem map_head {done : List Head} (f : Head → Head) (distinct : ((done ++ h :: l).map fun g => g.index).Nodup) :
    ((done ++ h :: l).map fun g => if g.index = h.index then f g else g) = done ++ f h :: l := by
  obtain ⟨-, before, behind⟩ := index_ne_of_distinct distinct
  have stays {m : List Head} (others : ∀ g ∈ m, g.index ≠ h.index) :
      (m.map fun g => if g.index = h.index then f g else g) = m :=
    (List.map_congr_left fun g mem => if_neg (others g mem)).trans (List.map_id m)
  rw [List.map_append, List.map_cons, stays before, stays behind, if_pos rfl]

theorem filter_head {done : List Head} (distinct : ((done ++ h :: l).map fun g => g.index).Nodup) :
    ((done ++ h :: l).filter fun g => g.index != h.index) = done ++ l := by
  obtain ⟨-, before, behind⟩ := index_ne_of_distinct distinct
  have stays {m : List Head} (others : ∀ g ∈ m, g.index ≠ h.index) : (m.filter fun g => g.index != h.index) = m :=
    List.filter_eq_self.mpr fun g mem => by simpa using others g mem
  rw [List.filter_append, List.filter_cons_of_neg (by simp), stays before, stays behind]

theorem satSucc_le (top n : Nat) : satSucc top n ≤ top := by
  rw [satSucc_eq]
  exact Nat.min_le_left _ _

/-- A saturating count that counts one and then more. -/
theorem min_satSucc_add (top a n : Nat) : min top (satSucc top a + n) = min top (a + (n + 1)) := by
  rw [satSucc_eq]
  omega

/-- What the judgement of its heads makes of a channel. -/
theorem Gauge.foldl_judged (k : Gauge) (l done : List Head) (x : Channel) (heads : x.heads = done ++ l)
    (distinct : ((done ++ l).map fun h => h.index).Nodup) (accepted : x.passage.accepted ≤ 255)
    (rejected : x.passage.rejected ≤ 255) (missed : x.passage.missed ≤ 255) : l.foldl k.judged x = { x with
      heads := done ++ (l.filter fun h => k.valid h && k.ahead h).map k.finished
      passage := { x.passage with
        accepted := min 255 (x.passage.accepted + l.countP k.valid)
        rejected := min 255 (x.passage.rejected + l.countP fun h => !k.valid h)
        missed := min 255 (x.passage.missed + (l.filter k.gone).length) } } := by
  induction l generalizing done x with
  | nil => simp [accepted, rejected, missed, ← heads]
  | cons h rest ih =>
    have without := (index_ne_of_distinct distinct).1
    rw [List.foldl_cons, Gauge.judged]
    cases valid : k.valid h
    · rw [if_neg (by simp), heads, filter_head distinct]
      refine (ih done _ rfl without ?_ ?_ ?_).trans ?_
      · exact accepted
      · exact satSucc_le _ _
      · exact missed
      · simp [valid, Gauge.gone, min_satSucc_add]
    · cases ahead : k.ahead h
      · rw [if_pos rfl, if_neg (by simp), Channel.closedHead, Channel.removeHead, heads, filter_head distinct]
        refine (ih done _ rfl without ?_ ?_ ?_).trans ?_
        · exact satSucc_le _ _
        · exact rejected
        · exact satSucc_le _ _
        · simp [valid, ahead, Gauge.gone, min_satSucc_add, finalStatus, Passage.countClosed, top8]
      · have still : (((done ++ [k.finished h]) ++ rest).map fun g => g.index).Nodup := by
          simpa [Gauge.finished, Gauge.timed] using distinct
        rw [if_pos rfl, if_pos rfl, heads, map_head k.finished distinct]
        refine (ih (done ++ [k.finished h]) _ (by simp) still ?_ ?_ ?_).trans ?_
        · exact satSucc_le _ _
        · exact rejected
        · exact missed
        · simp [valid, ahead, Gauge.gone, min_satSucc_add]

theorem Gauge.foldl_credit_rehearsal (k : Gauge) (l : List Head) (e : Health) : l.foldl (k.credit true) e = e := by
  induction l generalizing e with
  | nil => rfl
  | cons h rest ih => exact ih e

theorem good_totals (e : Health) : e.good.goods = satSucc top32 e.goods ∧ e.good.faults = e.faults := by
  unfold Health.good
  dsimp only
  split <;> exact ⟨rfl, rfl⟩

theorem fault_totals (e : Health) : e.fault.faults = satSucc top32 e.faults ∧ e.fault.goods = e.goods := by
  unfold Health.fault
  dsimp only
  split <;> exact ⟨rfl, rfl⟩

/-- The totals of the sensor: a good event for each head that is accepted, a fault event for each that is rejected. -/
theorem Gauge.foldl_credit (k : Gauge) (l : List Head) (e : Health) (goods : e.goods ≤ 4294967295)
    (faults : e.faults ≤ 4294967295) :
    (l.foldl (k.credit false) e).goods = min 4294967295 (e.goods + l.countP k.valid)
    ∧ (l.foldl (k.credit false) e).faults = min 4294967295 (e.faults + l.countP fun h => !k.valid h) := by
  induction l generalizing e with
  | nil => simp [goods, faults]
  | cons h rest ih =>
    rw [List.foldl_cons, Gauge.credit, if_neg (by simp)]
    cases valid : k.valid h
    · obtain ⟨total, same⟩ := fault_totals e
      obtain ⟨goods', faults'⟩ := ih e.fault (by rwa [same]) (by rw [total]; exact satSucc_le _ _)
      rw [if_neg (by simp), goods', faults', same, total]
      simp [valid, min_satSucc_add, top32]
    · obtain ⟨total, same⟩ := good_totals e
      obtain ⟨goods', faults'⟩ := ih e.good (by rw [total]; exact satSucc_le _ _) (by rwa [same])
      rw [if_pos rfl, goods', faults', same, total]
      simp [valid, min_satSucc_add, top32]

end Sys2Proof.Machine
end

section
/-! Proofs: a plausible match gives a new estimate (O29). -/

namespace Sys2Proof.Machine

variable {s u v p m : State} {t : TrackId} {w : WheelSensor} {stamp entry : LocalTime} {rest : List LocalTime} {r : PairRole}
  {c : Channel} {dt : Nat} {l : List Head} {k : Gauge}

/-! ## The track as the match leaves it, before the work on its heads -/

/-- What a plausible match does to a channel, written out (R39, R41 to R44). -/
theorem Channel.matched_eq (few : c.window.length ≤ 4) (r : PairRole) (rest : List LocalTime) (dt ticks : Nat) :
    let raw := c.frame.spacing r * 1000000 / dt
    let v := min 110000 raw
    let window := if c.speed.code = 2 then [v] else (if c.window.length = 4 then c.window.drop 1 else c.window) ++ [v]
    let estimate := window.sum / window.length
    c.matchEstimate r dt = estimate
    ∧ c.matched r rest dt ticks
      = { c.updPair r fun q => { q with queue := rest, implausible := 0 } with
          window := window
          speed := .fresh estimate
          staleTimer := some (ticks + c.staleLimit * 1000)
          passage := { c.passage with
            overspeed := c.passage.overspeed || decide (110000 < raw)
            estimates :=
              match c.passage.estimates with
              | none => some (estimate, estimate)
              | some (low, high) => some (min low estimate, max high estimate) } } := by
  intro raw v window estimate
  have entered : enterWindow c.speed c.window (axleSpeed (c.frame.spacing r) dt) = window := enterWindow_eq few v
  have mean : c.matchEstimate r dt = estimate := congrArg windowEstimate entered
  have widened : widen c.passage.estimates estimate = match c.passage.estimates with
      | none => some (estimate, estimate)
      | some (low, high) => some (min low estimate, max high estimate) := by
    cases c.passage.estimates <;> rfl
  refine ⟨mean, ?_⟩
  rw [← widened, ← mean, ← entered]
  cases r <;> rfl

/-- What a plausible match leaves of a channel. -/
theorem Channel.matched_keeps (c : Channel) (r : PairRole) (rest : List LocalTime) (dt ticks : Nat) :
    let d := c.matched r rest dt ticks
    d.frame = c.frame ∧ d.lengthMin = c.lengthMin ∧ d.lengthMax = c.lengthMax ∧ d.margin = c.margin ∧ d.heads = c.heads
    ∧ d.closing = c.closing ∧ d.speed = .fresh (c.matchEstimate r dt) ∧ d.passage.direction = c.passage.direction
    ∧ d.passage.rehearsal = c.passage.rehearsal ∧ d.passage.accepted = c.passage.accepted
    ∧ d.passage.rejected = c.passage.rejected ∧ d.passage.missed = c.passage.missed := by
  cases r <;> exact ⟨rfl, rfl, rfl, rfl, rfl, rfl, rfl, rfl, rfl, rfl, rfl, rfl⟩

/-- What an accepted pulse that matches plausibly leaves of the part, before the work on the heads. -/
theorem State.Accepts.matched_keeps (accepts : s.Accepts t w stamp p) (r : PairRole) (rest : List LocalTime) (dt : Nat) :
    let m := (p.counted t w).updChannel t fun c => c.matched r rest dt s.ticks
    let c := s.channel t
    let d := m.channel t
    m = { s with channels := m.channels }
    ∧ d.frame = c.frame ∧ d.lengthMin = c.lengthMin ∧ d.lengthMax = c.lengthMax ∧ d.margin = c.margin ∧ d.heads = c.heads
    ∧ d.closing = c.closing ∧ d.speed = .fresh (c.matchEstimate r dt) ∧ d.passage.direction = c.passage.direction
    ∧ d.passage.rehearsal = c.passage.rehearsal ∧ d.passage.accepted = c.passage.accepted
    ∧ d.passage.rejected = c.passage.rejected ∧ d.passage.missed = c.passage.missed := by
  intro m c d
  have keeps := ((p.counted t w).channel t).matched_keeps r rest dt s.ticks
  have channel : d = ((p.counted t w).channel t).matched r rest dt s.ticks := State.updChannel_same _ t _
  obtain ⟨wheels, synthetic, rfl⟩ := accepts.updates
  refine ⟨rfl, ?_⟩
  rw [channel]
  rw [counted_channel, State.updChannel_same] at keeps ⊢
  exact keeps

/-- The gauge by which the heads of a track are judged. -/
def Channel.gauge (c : Channel) (t : TrackId) (estimate : Nat) (now : LocalTime) : Gauge where
  distance := c.frame.approachDistance
  threshold := (c.frame.departureDistance + c.margin) * 1000 + 1
  shortest := c.lengthMin
  longest := c.lengthMax
  estimate := estimate
  now := now
  sensor := detectorIndex t (approachDetector c.passage.direction)

theorem State.Accepts.matched_fits (accepts : s.Accepts t w stamp p) (tracking : (s.channel t).Tracking) (r : PairRole)
    (rest : List LocalTime) (dt : Nat) :
    ((s.channel t).gauge t ((s.channel t).matchEstimate r dt) s.localTime).Fits t
      ((p.counted t w).updChannel t fun c => c.matched r rest dt s.ticks) := by
  obtain ⟨only, frame, shortest, longest, margin, -, closing, speed, direction, -⟩ := accepts.matched_keeps r rest dt
  refine ⟨congrArg TravelFrame.approachDistance frame, ?_, shortest, longest, speed, by rw [only]; rfl, ?_, ?_⟩
  · rw [Channel.threshold, frame, margin]
    rfl
  · rw [direction]
    rfl
  · rw [closing]
    simp [Channel.closing, tracking.1.2]

/-- The heads of a track wait for the first estimate of their passage (R64). -/
theorem State.Accepts.matched_awaits (accepts : s.Accepts t w stamp p) (tracking : (s.channel t).Tracking) (r : PairRole)
    (rest : List LocalTime) (some : 0 < dt) (fast : dt * 300 ≤ (s.channel t).frame.spacing r * 1000000)
    (gauge : (s.channel t).gauge t ((s.channel t).matchEstimate r dt) s.localTime = k)
    (distinct : ((s.channel t).heads.map fun h => h.index).Nodup) (far : 0 < k.distance)
    (fresh : ∀ h ∈ (s.channel t).heads, h.anchor = none ∧ h.crossed = false ∧ h.departed = false ∧ h.confirmed = false)
    (timely : ∀ h ∈ (s.channel t).heads, k.shortest ≤ k.length h → k.length h ≤ k.longest →
      after (k.crossing h) k.now = true → after (k.departure h) k.now = true) :
    k.Awaits t ((p.counted t w).updChannel t fun c => c.matched r rest dt s.ticks) (s.channel t).heads := by
  obtain ⟨-, -, -, -, -, heads, -⟩ := accepts.matched_keeps r rest dt
  have fits := accepts.matched_fits tracking r rest dt
  have positive : 0 < k.estimate := by
    rw [← gauge]
    exact windowEstimate_pos _ _ (Nat.le_trans (by decide) (crawl_le_axleSpeed some fast))
  rw [gauge] at fits
  exact ⟨fits, far, positive, fun h mem => alone_of_mem (by rw [heads]; exact distinct) (by rw [heads]; exact mem), distinct,
    fun h mem => (fresh h mem).2, timely⟩

/-! ## The part in the end, with no plan bound -/

theorem detectorIndex_ne_wheelIndex (t k : TrackId) (d : Detector) (w : WheelSensor) :
    detectorIndex t d ≠ wheelIndex k w := by
  cases t <;> cases k <;> cases d <;> cases w <;> decide

theorem pairSensors_ne (d : Direction) (r : PairRole) : (pairSensors d r).1 ≠ (pairSensors d r).2 := by
  cases d <;> cases r <;> decide

theorem praises_rehearsal (s : State) (t : TrackId) (i : Fin 12) :
    ((s.praises t i).channel t).passage.rehearsal = (s.channel t).passage.rehearsal := by
  rw [State.channel_eq (praises_channels s t i)]

/-- The health entries once both sensors of the pair are praised behind the work on the heads (R31, R64). -/
theorem Gauge.AwaitsUnbound.health_after (awaits : k.AwaitsUnbound t m l) {i j : Fin 12} (different : i ≠ j)
    (first : k.sensor ≠ i) (second : k.sensor ≠ j) (x : Fin 12) :
    let reh := (m.channel t).passage.rehearsal
    (((l.foldl (k.judge t) m).praises t i).praises t j).health[x]
      = if x = k.sensor then l.foldl (k.credit reh) m.health[x]
        else if x = i ∨ x = j then (if reh then m.health[x] else m.health[x].good) else m.health[x] := by
  intro reh
  have rehearsal : ((l.foldl (k.judge t) m).channel t).passage.rehearsal = reh := by
    obtain ⟨_, _, _, _, _, _, _, _, same⟩ := awaits.foldl_tends t
    rw [same]
  rw [praises_health, praises_rehearsal, praises_health, rehearsal, awaits.foldl_health]
  by_cases sensor : x = k.sensor
  · subst sensor
    simp [first, second, reh]
  · by_cases one : x = i
    · subst one
      simp [sensor, different]
    · by_cases two : x = j
      · subst two
        simp [sensor, one]
      · simp [sensor, one, two]

/-- The entries that change, and the totals that they hold (R31, R59, R62, R64, R135, R136). -/
theorem Gauge.AwaitsUnbound.totals_after (awaits : k.AwaitsUnbound t m l) {i j : Fin 12} (different : i ≠ j)
    (first : k.sensor ≠ i) (second : k.sensor ≠ j) (entries : m.health = s.health)
    (totals : ∀ x : Fin 12, s.health[x].goods ≤ 4294967295 ∧ s.health[x].faults ≤ 4294967295) :
    let u := ((l.foldl (k.judge t) m).praises t i).praises t j
    (∀ x : Fin 12, x ≠ k.sensor → x ≠ i → x ≠ j → u.health[x] = s.health[x])
    ∧ ((m.channel t).passage.rehearsal = true → u.health = s.health)
    ∧ ((m.channel t).passage.rehearsal = false →
      u.health[k.sensor].goods = min 4294967295 (s.health[k.sensor].goods + l.countP k.valid)
      ∧ u.health[k.sensor].faults = min 4294967295 (s.health[k.sensor].faults + l.countP fun h => !k.valid h)
      ∧ u.health[i].goods = min 4294967295 (s.health[i].goods + 1)
      ∧ u.health[j].goods = min 4294967295 (s.health[j].goods + 1)) := by
  intro u
  have health := awaits.health_after different first second
  simp only [entries] at health
  refine ⟨fun x other one two => ?_, fun rehearses => ?_, fun live => ?_⟩
  · rw [health, if_neg other, if_neg (not_or.mpr ⟨one, two⟩)]
  · refine Vector.ext fun x inside => ?_
    have entry := health ⟨x, inside⟩
    rw [rehearses, k.foldl_credit_rehearsal, if_pos rfl, ite_self, ite_self] at entry
    exact entry
  · obtain ⟨goods, faults⟩ := k.foldl_credit l s.health[k.sensor] (totals k.sensor).1 (totals k.sensor).2
    have praised (x : Fin 12) (other : x ≠ k.sensor) (one : x = i ∨ x = j) :
        u.health[x].goods = min 4294967295 (s.health[x].goods + 1) := by
      rw [health, if_neg other, if_pos one, live, if_neg (by simp), (good_totals _).1, satSucc_eq]
      rfl
    refine ⟨?_, ?_, praised i first.symm (.inl rfl), praised j second.symm (.inr rfl)⟩
    · rw [health, if_pos rfl, live, goods]
    · rw [health, if_pos rfl, live, faults]

/-- The rest of the part once the heads are judged and both sensors of the pair are praised (R62 to R64, R72). -/
theorem Gauge.AwaitsUnbound.part_after (awaits : k.AwaitsUnbound t m l) (only : m = { s with channels := m.channels })
    (heads : (m.channel t).heads = l) (inOrder : m.InOrder t) (room : s.store.records.length + l.length ≤ 32)
    (accepted : (m.channel t).passage.accepted ≤ 255) (rejected : (m.channel t).passage.rejected ≤ 255)
    (missed : (m.channel t).passage.missed ≤ 255) (i j : Fin 12) :
    let u := ((l.foldl (k.judge t) m).praises t i).praises t j
    u = { s with channels := u.channels, timeline := u.timeline, health := u.health, store := u.store,
                 attention := u.attention, link := u.link }
    ∧ u.timeline = s.timeline.filter (fun e => !(e.track == t && (l.filter k.gone).any fun h => h.index == e.index))
    ∧ u.channels = (m.updChannel t fun x =>
        { x with
          heads := (l.filter fun h => k.valid h && k.ahead h).map k.finished
          passage := { x.passage with
            accepted := min 255 (x.passage.accepted + l.countP k.valid)
            rejected := min 255 (x.passage.rejected + l.countP fun h => !k.valid h)
            missed := min 255 (x.passage.missed + (l.filter k.gone).length) } }).channels
    ∧ s.InTurn u t ((l.filter k.gone).map (k.missed t m)) (u.offeredOf t) [] := by
  intro u
  obtain ⟨order, offers, apart⟩ := inOrder
  rw [heads] at order apart
  have start : m.store = s.store ∧ m.link = s.link ∧ m.ticks = s.ticks ∧ m.localTime = s.localTime
      ∧ m.timeline = s.timeline := by
    rw [only]
    exact ⟨rfl, rfl, rfl, rfl, rfl⟩
  obtain ⟨store, link, ticks, time, timeline⟩ := start
  have praised : Faults (l.foldl (k.judge t) m) u := (praises_faults _ t i).trans (praises_faults _ t j)
  obtain ⟨channels', timeline', store', link', -⟩ := praised.keeps
  obtain ⟨turned, channels⟩ := awaits.foldl_turned (State.Turned.refl offers)
    (fun h mem x held => (apart x held h mem).symm) order (by simp) (by rw [store, List.length_nil]; exact room)
  have offered : u.offeredOf t = (l.foldl (k.judge t) m).offeredOf t := by rw [State.offeredOf, store', State.offeredOf]
  refine ⟨?_, ?_, ?_, ?_⟩
  · have first : Records s m := by
      rw [only]
      exact .of s _ _ _ _ _
    exact ((first.trans awaits.foldl_records).trans
      ((goodUnlessRehearsal_records _ t i).trans (goodUnlessRehearsal_records _ t j))).frame
  · rw [timeline', awaits.foldl_timeline, timeline]
  · rw [channels', channels]
    refine congrArg State.channels (State.updChannel_congr ?_)
    exact k.foldl_judged l [] _ heads awaits.distinct accepted rejected missed
  · rw [offered]
    exact turned.inTurn.congr ⟨store.symm, link.symm, ticks.symm, time.symm⟩ ⟨store', link'⟩

/-- Settles O29: the pulse comes down to the work on the heads of the track (R44). The first estimate judges each head by
the gauge of the track, in detection order; with no plan bound the heads that go give their records in turn. -/
theorem plausibleMatchGivesAnEstimate : Obligations.PlausibleMatchGivesAnEstimate := by
  intro s p t w stamp entry rest r accepts c dt raw v window estimate sensors estimated tracking role queue normal fast few
    plausible
  have mean : c.matchEstimate r dt = estimate := (Channel.matched_eq few r rest dt s.ticks).1
  have matched : ((p.counted t w).updChannel t fun c => c.matched r rest dt s.ticks) = estimated := by
    refine State.updChannel_congr ?_
    have same : ((p.counted t w).channel t).frame = c.frame ∧ ((p.counted t w).channel t).window = c.window
        ∧ ((p.counted t w).channel t).speed = c.speed := by
      obtain ⟨wheels, synthetic, rfl⟩ := accepts.updates
      rw [counted_channel, State.updChannel_same]
      exact ⟨rfl, rfl, rfl⟩
    obtain ⟨frame, window', speed⟩ := same
    obtain ⟨-, eq⟩ := Channel.matched_eq (c := (p.counted t w).channel t) (by rw [window']; exact few) r rest dt s.ticks
    rw [frame, window', speed] at eq
    exact eq
  have taken : Completes (.wheelPulseAccepted t w) s
      (((estimated.tendHeads t c.speed estimate c.timedIndices c.untimedIndices).praises t
        (wheelIndex t sensors.1)).praises t (wheelIndex t sensors.2)) := by
    rw [← matched, ← mean]
    exact accepts.matches tracking role queue normal fast (isPlausible_of plausible)
  obtain ⟨k, gauge⟩ : ∃ k, c.gauge t estimate s.localTime = k := ⟨_, rfl⟩
  have awaits := accepts.matched_awaits (k := k) tracking r rest (by omega) fast (by rw [← gauge, ← mean])
  have keeps := accepts.matched_keeps r rest dt
  rw [matched] at awaits keeps
  obtain ⟨only, -, -, -, -, heads, -, -, direction, rehearsal, accepted, rejected, missed⟩ := keeps
  have judges (absent : c.speed = .absent) (waits : k.Awaits t estimated c.heads)
      (untimed : ∀ h ∈ c.heads, h.anchor = none) : Completes (.wheelPulseAccepted t w) s
        (((c.heads.foldl (k.judge t) estimated).praises t (wheelIndex t sensors.1)).praises t (wheelIndex t sensors.2)) := by
    have tends : estimated.tendHeads t c.speed estimate c.timedIndices c.untimedIndices
        = c.heads.foldl (k.judge t) estimated := by
      rw [absent]
      subst gauge
      exact waits.tendHeads_eq untimed
    rwa [tends] at taken
  refine ⟨fun empty => ?_, fun some => ?_, fun absent distinct fresh far => ?_,
    fun absent unbound inOrder room fresh fewAccepted fewRejected fewMissed far => ?_⟩
  · have timed : c.timedIndices = [] := by rw [Channel.timedIndices, empty]; rfl
    have untimed : c.untimedIndices = [] := by rw [Channel.untimedIndices, empty]; rfl
    rwa [timed, untimed, tendHeads_none] at taken
  · rw [tendHeads_timed some] at taken
    exact taken
  · intro distance q length crossing departure sensor judged timely
    subst gauge
    exact judges absent (awaits distinct far fresh timely) fun h mem => (fresh h mem).1
  · intro distance q length valid crossing departure gone sensor timely totals
    have distinct : (c.heads.map fun h => h.index).Nodup := inOrder.1.imp Nat.ne_of_lt
    subst gauge
    have waits := awaits distinct far fresh fun h mem short long => timely h mem (decide_eq_true ⟨short, long⟩)
    have binding : (estimated.binding t (estimated.channel t).passage.direction).plan = none := by
      rw [direction, only]
      exact unbound
    have alone : (c.gauge t estimate s.localTime).AwaitsUnbound t estimated c.heads := ⟨waits, binding⟩
    have inOrder' : estimated.InOrder t := inOrder.congr heads (by rw [only])
    obtain ⟨frame, timeline, channels, inTurn⟩ := alone.part_after only heads inOrder' room
      (by rw [accepted]; exact fewAccepted) (by rw [rejected]; exact fewRejected) (by rw [missed]; exact fewMissed)
      (wheelIndex t sensors.1) (wheelIndex t sensors.2)
    have different : wheelIndex t sensors.1 ≠ wheelIndex t sensors.2 :=
      fun same => pairSensors_ne c.passage.direction r (wheelIndex_injective t same)
    obtain ⟨others, still, live⟩ := alone.totals_after different (detectorIndex_ne_wheelIndex t t _ _)
      (detectorIndex_ne_wheelIndex t t _ _) (by rw [only]) totals
    refine ⟨_, _, _, judges absent waits fun h mem => (fresh h mem).1, frame, timeline, channels.trans ?_, inTurn, rfl,
      List.length_map _, fun i _ k => ?_, others, fun rehearses => still (rehearsal.trans rehearses),
      fun runs => live (rehearsal.trans runs)⟩
    · refine congrArg State.channels (State.updChannel_congr ?_)
      rw [accepted, rejected, missed]
      rfl
    · rw [List.getElem_map]
      exact headRecord_isOf _ _ _

end Sys2Proof.Machine
end

section
/-! Proofs: matches that give no estimate, and the first instant at which a head has reached a position (O28, O30). -/

namespace Sys2Proof.Machine

variable {s p : State} {t : TrackId} {w : WheelSensor} {stamp entry : LocalTime} {rest : List LocalTime} {r : PairRole}
  {c : Channel} {dt v : Nat}

/-! ## Matches (R31, R35, R39 to R42) -/

/-- The oldest entry of a queue is taken (R31). -/
def Channel.takeEntry (c : Channel) (r : PairRole) (rest : List LocalTime) : Channel :=
  c.updPair r fun q => { q with queue := rest }

theorem Channel.takeEntry_keeps (c : Channel) (r : PairRole) (rest : List LocalTime) :
    (c.takeEntry r rest).frame = c.frame ∧ (c.takeEntry r rest).speed = c.speed ∧ (c.takeEntry r rest).window = c.window
    ∧ (c.takeEntry r rest).jumpLimit = c.jumpLimit := by
  cases r <;> exact ⟨rfl, rfl, rfl, rfl⟩

/-- A second-sensor pulse that finds an entry takes it, and a NORMAL pair goes on to judge the match (R31, R35). -/
theorem pairPulse_match (role : sensorRole (s.channel t).passage.direction w = (r, false))
    (queued : ((s.channel t).pair r).state ≠ .out) (queue : ((s.channel t).pair r).queue = entry :: rest) :
    s.pairPulse t w stamp = if ((s.channel t).pair r).state = .normal
      then (s.updChannel t fun c => c.takeEntry r rest).judgeMatch t r (matchInterval entry stamp)
      else s.updChannel t fun c => c.takeEntry r rest := by
  dsimp only [State.pairPulse]
  rw [role, if_neg queued, if_neg (by simp), State.secondSensorPulse]
  dsimp only
  rw [queue]
  rfl

theorem judgeMatch_crawl (slow : (s.channel t).frame.spacing r * 1000000 < dt * 300) : s.judgeMatch t r dt = s :=
  if_pos (decide_eq_true slow)

theorem isPlausible_eq_false {e : Nat} (fresh : c.speed = .fresh e) (enough : 2 ≤ c.window.length)
    (far : c.jumpLimit * e < (if e ≤ v then v - e else e - v) * 100) :
    isPlausible c.speed c.window c.jumpLimit v = false := by
  have gap : speedGap v e = if e ≤ v then v - e else e - v := by
    unfold speedGap
    split <;> omega
  rw [fresh]
  dsimp only [isPlausible]
  rw [gap, decide_eq_false (Nat.not_lt.mpr enough), decide_eq_false (Nat.not_le.mpr far), Bool.or_false]

/-- A speed too far from the estimate is noted where it saturates, and makes its pair less trusted (R39, R41, R42). -/
theorem judgeMatch_implausible (fast : dt * 300 ≤ (s.channel t).frame.spacing r * 1000000)
    (implausible : isPlausible (s.channel t).speed (s.channel t).window (s.channel t).jumpLimit
      (axleSpeed ((s.channel t).frame.spacing r) dt) = false) : s.judgeMatch t r dt
    = (s.updPassage t fun p => p.noteSpeed ((s.channel t).frame.spacing r) dt).updChannel t
        fun c => c.updPair r AxlePair.distrust := by
  dsimp only [State.judgeMatch]
  rw [if_neg (by rw [isCrawl, decide_eq_true_eq]; exact Nat.not_lt.mpr fast), if_neg (by rw [implausible]; simp)]

/-- A NORMAL pair after an implausible match, and the saturation that the match shows (R39, R42). -/
theorem Channel.distrusted_eq (normal : (c.pair r).state = .normal) (rest : List LocalTime) (spacing dt : Nat) :
    Channel.updPair { c.takeEntry r rest with passage := (c.takeEntry r rest).passage.noteSpeed spacing dt } r AxlePair.distrust
      = { c.updPair r fun q =>
            { state := if q.implausible + 1 = 2 then .slipped else .normal, queue := rest,
              implausible := q.implausible + 1 } with
          passage := { c.passage with
            overspeed := c.passage.overspeed || decide (110000 < spacing * 1000000 / dt) } } := by
  cases r <;> rw [Channel.pair] at normal <;>
    simp only [Channel.takeEntry, Channel.updPair, AxlePair.distrust, normal] <;> rfl

/-- What a counted pulse leaves of a track. -/
theorem State.Accepts.counted_keeps (accepts : s.Accepts t w stamp p) :
    let d := (p.counted t w).channel t
    let c := s.channel t
    d.frame = c.frame ∧ d.speed = c.speed ∧ d.window = c.window ∧ d.jumpLimit = c.jumpLimit
    ∧ d.passage.direction = c.passage.direction := by
  obtain ⟨wheels, synthetic, rfl⟩ := accepts.updates
  intro d c
  have channel : d = _ := counted_channel _ t w
  rw [State.updChannel_same] at channel
  rw [channel]
  exact ⟨rfl, rfl, rfl, rfl, rfl⟩

/-- Settles O28: the pulse takes the oldest entry of its queue; a SLIPPED pair stops there, and so does a crawl match, while
an implausible match counts against its pair. -/
theorem matchesThatGiveNoEstimate : Obligations.MatchesThatGiveNoEstimate := by
  constructor
  · intro s p t w stamp entry rest r accepts c tracking role queue slow
    have pair : ((p.counted t w).channel t).pair r = c.pair r := (counted_pair p t w r).trans (accepts.pair r)
    obtain ⟨frame, -, -, -, direction⟩ := accepts.counted_keeps
    obtain ⟨frame', -⟩ := ((p.counted t w).channel t).takeEntry_keeps r rest
    have queued : (c.pair r).state ≠ .out := by rcases slow with slipped | ⟨normal, -⟩ <;> simp [*]
    have taken := accepts.takes tracking
    rw [pairPulse_match (by rw [direction]; exact role) (by rw [pair]; exact queued) (by rw [pair]; exact queue), pair] at taken
    rcases slow with slipped | ⟨normal, crawl⟩
    · rwa [if_neg (by simp [slipped])] at taken
    · rwa [if_pos normal, judgeMatch_crawl (by rw [State.updChannel_same, frame', frame]; exact crawl)] at taken
  · intro s p t w stamp entry rest r estimate accepts c dt raw v tracking role queue normal fast fresh enough far
    have pair : ((p.counted t w).channel t).pair r = c.pair r := (counted_pair p t w r).trans (accepts.pair r)
    obtain ⟨frame, speed, window, jumpLimit, direction⟩ := accepts.counted_keeps
    obtain ⟨frame', speed', window', jumpLimit'⟩ := ((p.counted t w).channel t).takeEntry_keeps r rest
    have taken := accepts.takes tracking
    rw [pairPulse_match (by rw [direction]; exact role) (by simp [pair, normal]) (by rw [pair]; exact queue), pair,
      if_pos normal, judgeMatch_implausible, State.updChannel_same, frame', frame, State.updPassage,
      State.updChannel_updChannel, State.updChannel_updChannel] at taken
    · exact taken.trans (congrArg Host.Outcome.next (State.updChannel_congr
        (Channel.distrusted_eq (pair ▸ normal) rest (c.frame.spacing r) dt)))
    · rw [State.updChannel_same, frame', frame]
      exact fast
    · rw [State.updChannel_same, frame', speed', window', jumpLimit', frame, speed, window, jumpLimit]
      exact isPlausible_eq_false fresh enough far

/-! ## Due times (R51, R53) -/

/-- The span to an instant less than half the range ahead is how far it lies ahead (R146). -/
theorem span_later (x : LocalTime) {k : Nat} (near : k < 2 ^ 47) : span x (later x k) = k := by
  have ahead : later x k - x = BitVec.ofNat 48 k := by rw [later, BitVec.add_comm, BitVec.add_sub_cancel]
  rw [span, timeDiff, ahead, BitVec.toInt_ofNat', Int.bmod_eq_of_le (by omega) (by omega), Int.toNat_natCast]

theorem later_zero (x : LocalTime) : later x 0 = x := BitVec.add_zero x

theorem le_clampPosition_iff {target x : Int} (above : -2147483648 < target) (below : target ≤ 2147483647) :
    target ≤ clampPosition x ↔ target ≤ x := by
  unfold clampPosition
  omega

theorem ceilDiv_le_iff {a b k : Nat} (some : 0 < b) : ceilDiv a b ≤ k ↔ a ≤ b * k := by
  rw [ceilDiv, Nat.div_le_iff_le_mul_add_pred some]
  omega

/-- Rounding down does not keep a head from a whole number of micrometres (R51). -/
theorem Anchor.le_positionAt_iff {a : Anchor} {target : Int} (above : -2147483648 < target) (below : target ≤ 2147483647)
    {k : Nat} (near : k < 2 ^ 47) :
    target ≤ a.positionAt (later a.time k) ↔ target - a.position ≤ ((a.speed * k / 1000 : Nat) : Int) := by
  rw [Anchor.positionAt, le_clampPosition_iff above below, span_later a.time near]
  omega

/-- Settles O30: a position that is reached at the anchor is reached at every instant after it, and any other once the
distance in nanometres is covered at the anchor speed. -/
theorem dueTimeIsTheFirstInstant : Obligations.DueTimeIsTheFirstInstant := by
  refine fun a target => ⟨fun rests => if_pos rests, fun moves above below => ?_⟩
  rw [Anchor.reaches, if_neg (by omega)]
  by_cases here : target - a.position ≤ 0
  · refine ⟨0, by rw [if_pos here, later_zero], fun k near => ?_⟩
    rw [Anchor.le_positionAt_iff above below near]
    omega
  · obtain ⟨way, eq⟩ := Int.eq_ofNat_of_zero_le (by omega : 0 ≤ target - a.position)
    refine ⟨_, if_neg here, fun k near => ?_⟩
    rw [Anchor.le_positionAt_iff above below near, eq, Int.toNat_natCast, Int.ofNat_le,
      Nat.le_div_iff_mul_le (by omega), ceilDiv_le_iff moves]

end Sys2Proof.Machine
end

section
/-! Proofs: a head at a wait of its plan. -/

namespace Sys2Proof.Machine

variable {s u : State} {t : TrackId} {n step : Nat} {h g : Head} {k : Cursor} {a : Anchor} {x : Int} {rest : List Step}
  {run : Run} {due : LocalTime} {f : Head → Head}

/-! ## The timeline (R90) -/

/-- An entry that is inserted in order of due time stands behind those with an equal one (log entry 29). -/
theorem placed_insertSorted (e : TimelineEntry) (l : List TimelineEntry) :
    Placed e l (insertSorted (fun x y => after y.due x.due) e l) := by
  induction l with
  | nil => exact ⟨[], [], rfl, rfl, by simp, by simp⟩
  | cons y rest ih =>
    rw [insertSorted]
    by_cases later : after y.due e.due = true
    · rw [if_pos later]
      exact ⟨[], y :: rest, rfl, rfl, by simp, by simpa using later⟩
    · rw [if_neg later]
      obtain ⟨ahead, behind, old, new, notAfter, first⟩ := ih
      exact ⟨y :: ahead, behind, congrArg (y :: ·) old, congrArg (y :: ·) new,
        List.forall_mem_cons.mpr ⟨Bool.eq_false_iff.mpr later, notAfter⟩, first⟩

theorem timeline_congr (same : u = s) (l : List TimelineEntry) :
    ({ u with timeline := l } : State) = { s with timeline := l } := by rw [same]

/-- A head that is scheduled rests at its step with one entry, placed in order of due time. -/
theorem schedule_placed (s : State) (t : TrackId) (n step : Nat) (kind : WaitKind) (due : LocalTime) :
    ∃ timeline,
      Placed { track := t, passage := (s.channel t).passage.number, index := n, step := step, kind := kind, due := due }
        s.timeline timeline
      ∧ s.schedule t n step kind due = { s.updHead t n (fun h => h.rest step .scheduled) with timeline := timeline } :=
  ⟨_, placed_insertSorted _ _, rfl⟩

theorem updHead_passage (s : State) (t : TrackId) (n : Nat) (f : Head → Head) :
    ((s.updHead t n f).channel t).passage = (s.channel t).passage := by
  rw [State.updHead, State.updChannel_same]

/-! ## A run that comes to a wait (R86) -/

/-- The due time of an AT wait of a head; none where its anchor speed is 0 (R53). -/
def Head.dueAt (h : Head) (p : Int) : Option LocalTime := h.anchor.bind fun a => a.dueAt p

theorem runPlan_atPos (found : s.findHead t n = some h) : runPlan t n (.atPos x :: rest) step run s
    = match h.dueAt x with
      | none => s.updHead t n fun h => h.hold step
      | some due =>
        if after due s.localTime then s.schedule t n step .atPos due
        else runPlan t n rest (step + 1) { due := due, skipped := h.skips due s.localTime } s := by
  rw [runPlan, found]
  rfl

/-- At anchor speed 0 the head is HELD. -/
theorem runPlan_held (found : s.findHead t n = some h) (still : h.dueAt x = none) :
    runPlan t n (.atPos x :: rest) step run s = s.updHead t n fun h => h.hold step := by
  rw [runPlan_atPos found, still]

/-- With the due instant ahead the head is SCHEDULED. -/
theorem runPlan_ahead (found : s.findHead t n = some h) (reaches : h.dueAt x = some due)
    (ahead : after due s.localTime = true) :
    runPlan t n (.atPos x :: rest) step run s = s.schedule t n step .atPos due := by
  rw [runPlan_atPos found, reaches]
  exact if_pos ahead

/-- A wait whose due instant has come completes at once, and the run goes on. -/
theorem runPlan_passed (found : s.findHead t n = some h) (reaches : h.dueAt x = some due)
    (passed : after due s.localTime = false) : runPlan t n (.atPos x :: rest) step run s
      = runPlan t n rest (step + 1) { due := due, skipped := h.skips due s.localTime } s := by
  rw [runPlan_atPos found, reaches]
  exact if_neg (by simp [passed])

/-! ## A head that is retimed (R95, R96) -/

/-- The head rests at an AT wait of its plan, SCHEDULED or HELD. -/
def State.AtWait (s : State) (h : Head) : Prop :=
  (h.status = .scheduled ∨ h.status = .held)
  ∧ ∃ k p rest, h.cursor = some k ∧ s.plans[k.plan].drop k.step = .atPos p :: rest

theorem restsAtPosition_iff : s.restsAtPosition k = true ↔ ∃ p rest, s.plans[k.plan].drop k.step = .atPos p :: rest := by
  unfold State.restsAtPosition
  split <;> simp_all

/-- The AT wait is set up afresh, with the entry off the timeline. -/
theorem retime_atPos (found : s.findHead t n = some h) (cursor : h.cursor = some k)
    (status : h.status = .held ∨ h.status = .scheduled) (plan : s.plans[k.plan].drop k.step = .atPos x :: rest) :
    s.retime t n
      = runPlan t n (.atPos x :: rest) k.step { due := s.localTime, skipped := false } (s.dropEntry t n) := by
  have rests : s.restsAtPosition k = true := restsAtPosition_iff.mpr ⟨x, rest, plan⟩
  rw [State.retime, found]
  dsimp only
  rw [cursor]
  dsimp only
  rw [if_pos (by simpa [rests] using status.symm), State.arrive, State.dropEntry_plans, plan]
  rfl

theorem retime_elsewhere (found : s.findHead t n = some h) (away : ¬s.AtWait h) : s.retime t n = s := by
  rw [State.retime, found]
  dsimp only
  split
  · rfl
  · next k cursor =>
    refine if_neg fun waits => away ?_
    simp only [Bool.and_eq_true, Bool.or_eq_true, decide_eq_true_eq, restsAtPosition_iff] at waits
    obtain ⟨status, p, rest, plan⟩ := waits
    exact ⟨status, k, p, rest, cursor, plan⟩

/-- A head that is not due stays open as it is tested for close (R70). -/
theorem closeTest_not_due (found : s.findHead t n = some h) (waits : ¬s.Due t h) : s.closeTest t n = s := by
  obtain same | ⟨g, here, may, -⟩ := closeTest_cases s t n
  · exact same
  · obtain rfl : h = g := Option.some.inj (found.symm.trans here)
    exact absurd ((mayClose_iff s t h).mp may).1 waits

theorem not_due (open_ : (s.channel t).passage.closed = none)
    (waits : h.status = .finished → h.confirmed = false ∧ h.departed = false) : ¬s.Due t h := by
  rintro (closing | ⟨finished, flag⟩)
  · simp [Channel.closing, open_] at closing
  · obtain ⟨confirmed, departed⟩ := waits finished
    simp [confirmed, departed] at flag

/-- A mark, and an AFTER wait behind it, in a run that is not skipped (R86, R89). -/
theorem runPlan_mark_after (s : State) (t : TrackId) (n step delay : Nat) (rest : List Step) (due : LocalTime) :
    ∃ timeline,
      Placed { track := t, passage := (s.channel t).passage.number, index := n, step := step + 1, kind := .after,
               due := later s.localTime delay } s.timeline timeline
      ∧ runPlan t n (.mark :: .after delay :: rest) step { due := due, skipped := false } s
        = { s.updHead t n (fun h => Head.rest
              { h with marks := h.marks ++ [{ step := step, instant := s.localTime }] } (step + 1) .scheduled) with
            timeline := timeline } := by
  obtain ⟨timeline, placed, schedules⟩ :=
    schedule_placed (s.runMark t n step) t n (step + 1) .after (later s.localTime delay)
  have passage : ((s.runMark t n step).channel t).passage = (s.channel t).passage := updHead_passage s t n _
  rw [passage] at placed
  refine ⟨timeline, placed, schedules.trans (timeline_congr ?_ timeline)⟩
  rw [State.runMark, updHead_updHead]
  exact fun x same => same

end Sys2Proof.Machine
end

section
/-! Proofs: heads that are re-anchored, and those that move on (O38). -/

namespace Sys2Proof.Machine

variable {s u : State} {t : TrackId} {v : Nat} {h : Head} {k : Cursor} {a : Anchor} {x : Int} {rest : List Step}
  {due : LocalTime}

/-! ## A head at its new anchor (R52, R54, R66) -/

theorem Head.reanchor_index (h : Head) (now : LocalTime) (speed : Nat) (threshold : Int) :
    (h.reanchor now speed threshold).index = h.index := by
  unfold Head.reanchor Head.predictDeparture Head.predict
  split <;> split <;> rfl

theorem hasCome_eq (x : Option LocalTime) (now : LocalTime) : hasCome x now = (x.map fun x => !after x now).getD false := by
  cases x with
  | none => rfl
  | some x => exact hasCome_some x now

/-- A head that has neither crossed nor departed has both instants recomputed, and passes those that have come. -/
theorem Head.reanchor_ahead (anchor : h.anchor = some a) (crossed : h.crossed = false) (departed : h.departed = false)
    (now : LocalTime) (speed : Nat) (threshold : Int) :
    let moved := a.moveTo now speed
    h.reanchor now speed threshold = { h with
      anchor := some moved, predicted := moved.reaches 0
      crossed := ((moved.reaches 0).map fun x => !after x now).getD false
      departure := moved.reaches threshold
      departed := ((moved.reaches threshold).map fun x => !after x now).getD false } := by
  intro moved
  rw [Head.reanchor, Head.predict]
  simp only [crossed, anchor, Option.map_some, Bool.false_eq_true, if_false, Option.bind_some, Head.predictDeparture,
    departed, hasCome_eq]
  rfl

/-- At speed 0 no instant lies ahead: one that has not come is absent (R54, R66). -/
theorem Head.reanchor_still (anchor : h.anchor = some a) (now : LocalTime) (threshold : Int) :
    h.reanchor now 0 threshold = { h with
      anchor := some (a.moveTo now 0)
      predicted := if h.crossed = true then h.predicted else none
      departure := if h.departed = true then h.departure else none } := by
  have never (target : Int) : (a.moveTo now 0).reaches target = none := if_pos rfl
  have crosses : (a.moveTo now 0).dueAt 0 = none := never _
  rw [Head.reanchor, Head.predict]
  simp only [anchor, Option.map_some, Option.bind_some, crosses]
  by_cases crossed : h.crossed = true <;> by_cases departed : h.departed = true <;>
    simp [Head.predictDeparture, crossed, departed, never, hasCome]

theorem after_self (x : LocalTime) : after x x = false := by simp [after, timeDiff]

theorem Head.skips_now (h : Head) (now : LocalTime) : h.skips now now = false := by simp [Head.skips, span, timeDiff]

/-- A head of a track, re-anchored now to a speed. -/
def State.anew (s : State) (t : TrackId) (v : Nat) (h : Head) : Head := h.reanchor s.localTime v (s.channel t).threshold

theorem State.anew_index (s : State) (t : TrackId) (v : Nat) (h x : Head) (same : x.index = h.index) :
    (s.anew t v x).index = h.index := (x.reanchor_index _ _ _).trans same

theorem State.Alone.found_anew (alone : s.Alone t h) (v : Nat) :
    (s.updHead t h.index (s.anew t v)).findHead t h.index = some (s.anew t v h) := by
  rw [← (alone.updHead (s.anew_index t v h)).findHead, s.anew_index t v h h rfl]

theorem State.Alone.found_dropped (alone : s.Alone t h) (v : Nat) :
    ((s.updHead t h.index (s.anew t v)).dropEntry t h.index).findHead t h.index = some (s.anew t v h) :=
  alone.found_anew v

/-- What becomes of a head behind its new anchor becomes of the head itself. -/
theorem State.Alone.updHead_anew (alone : s.Alone t h) {f F : Head → Head} (same : f (s.anew t v h) = F h) :
    (s.updHead t h.index (s.anew t v)).updHead t h.index f = s.updHead t h.index F :=
  (updHead_updHead s t h.index f (s.anew_index t v h)).trans (alone.updHead_congr same)

/-- A head that rests behind its new anchor stays open, unless it is FINISHED and confirmed or departed (R70). -/
theorem State.Alone.reanchorHead_rests (alone : s.Alone t h) (open_ : (s.channel t).passage.closed = none) {F : Head → Head}
    {timeline : List TimelineEntry}
    (retimed : (s.updHead t h.index (s.anew t v)).retime t h.index = { s.updHead t h.index F with timeline := timeline })
    (index : ∀ x, x.index = h.index → (F x).index = h.index)
    (status : (F h).status = .finished → (F h).confirmed = false ∧ (F h).departed = false) :
    s.reanchorHead t v h.index = { s.updHead t h.index F with timeline := timeline } := by
  have found := (alone.updHead index).findHead
  rw [index h rfl] at found
  refine (congrArg (fun z => State.closeTest z t h.index) retimed).trans (closeTest_not_due found (not_due ?_ status))
  change ((s.updHead t h.index F).channel t).passage.closed = none
  rw [updHead_passage, open_]

/-! ## Moving on (R48, R95) -/

section

variable (alone : s.Alone t h) (open_ : (s.channel t).passage.closed = none) (cursor : (s.anew t v h).cursor = some k)
  (status : (s.anew t v h).status = .held ∨ (s.anew t v h).status = .scheduled)
  (plan : s.plans[k.plan].drop k.step = .atPos x :: rest) (reaches : (s.anew t v h).dueAt x = some due)
  {F : Head → Head} (index : ∀ x, x.index = h.index → (F x).index = h.index) (scheduled : (F h).status = .scheduled)

include alone cursor status plan in
/-- At an AT wait the run of the plan begins anew, with the entry of the head off the timeline. -/
theorem State.Alone.retime_anew : (s.updHead t h.index (s.anew t v)).retime t h.index
    = runPlan t h.index (.atPos x :: rest) k.step { due := s.localTime, skipped := false }
        ((s.updHead t h.index (s.anew t v)).dropEntry t h.index) :=
  retime_atPos (alone.found_anew v) cursor status plan

include alone open_ cursor status plan reaches index scheduled

/-- Where the position of the wait lies ahead of its new anchor, the head is SCHEDULED with one entry. -/
theorem State.Alone.reanchorHead_ahead (ahead : after due s.localTime = true)
    (same : (s.anew t v h).rest k.step .scheduled = F h) : ∃ timeline,
      Placed { track := t, passage := (s.channel t).passage.number, index := h.index, step := k.step, kind := .atPos,
               due := due } (s.timeline.filter fun e => !e.isOf t h.index) timeline
      ∧ s.reanchorHead t v h.index = { s.updHead t h.index F with timeline := timeline } := by
  obtain ⟨timeline, placed, schedules⟩ :=
    schedule_placed ((s.updHead t h.index (s.anew t v)).dropEntry t h.index) t h.index k.step .atPos due
  have passage : (((s.updHead t h.index (s.anew t v)).dropEntry t h.index).channel t).passage = (s.channel t).passage :=
    updHead_passage s t h.index _
  rw [passage] at placed
  refine ⟨timeline, placed, alone.reanchorHead_rests open_ ?_ index (by simp [scheduled])⟩
  rw [alone.retime_anew cursor status plan, runPlan_ahead (alone.found_dropped v) reaches ahead, schedules]
  exact timeline_congr (alone.updHead_anew same) timeline

/-- Where the position has been reached, the wait completes at once; here a MARK and an AFTER wait follow. -/
theorem State.Alone.reanchorHead_marks {delay : Nat} {more : List Step} (run : rest = .mark :: .after delay :: more)
    (now : due = s.localTime)
    (same : Head.rest { s.anew t v h with
      marks := (s.anew t v h).marks ++ [{ step := k.step + 1, instant := s.localTime }] } (k.step + 2) .scheduled = F h) :
    ∃ timeline,
      Placed { track := t, passage := (s.channel t).passage.number, index := h.index, step := k.step + 2, kind := .after,
               due := later s.localTime delay } (s.timeline.filter fun e => !e.isOf t h.index) timeline
      ∧ s.reanchorHead t v h.index = { s.updHead t h.index F with timeline := timeline } := by
  obtain ⟨timeline, placed, marks⟩ := runPlan_mark_after ((s.updHead t h.index (s.anew t v)).dropEntry t h.index) t h.index
    (k.step + 1) delay more due
  have passage : (((s.updHead t h.index (s.anew t v)).dropEntry t h.index).channel t).passage = (s.channel t).passage :=
    updHead_passage s t h.index _
  rw [passage] at placed
  refine ⟨timeline, placed, alone.reanchorHead_rests open_ ?_ index (by simp [scheduled])⟩
  subst now run
  rw [alone.retime_anew cursor status plan]
  refine (runPlan_passed (alone.found_dropped v) reaches (after_self _)).trans ?_
  rw [State.dropEntry_localTime, State.updHead_localTime, Head.skips_now]
  exact marks.trans (timeline_congr (alone.updHead_anew same) timeline)

end

/-- Settles O38: the head is re-anchored; an AT wait is set up afresh, and an AFTER wait stays. -/
theorem movingOnReleasesAHeldHead : Obligations.MovingOnReleasesAHeldHead := by
  intro s t index v h a k moved crossing departure reanchored left entry moves open_ distinct found anchor cursor crossed
    departed
  obtain ⟨rfl, mem⟩ := findHead_index found
  have alone := alone_of_mem distinct mem
  have eq : s.anew t v h = reanchored h := Head.reanchor_ahead anchor crossed departed _ _ _
  refine ⟨fun x rest status plan => ⟨fun ahead late => ?_, fun delay more passed run => ?_⟩, fun delay rest status plan => ?_⟩
  · obtain ⟨way, far⟩ := Int.eq_ofNat_of_zero_le (by omega : 0 ≤ x * 1000 - moved.position)
    have reaches : (s.anew t v h).dueAt x
        = some (later s.localTime (ceilDiv ((x * 1000 - moved.position).toNat * 1000) v)) := by
      rw [eq, far]
      exact Anchor.reaches_ahead (a := moved) moves (by omega) far
    refine alone.reanchorHead_ahead open_ (by rw [eq]; exact cursor) (by rw [eq]; exact status) plan reaches ?_ rfl late ?_
    · exact fun _ same => same
    · simp [eq, Head.rest, reanchored, cursor]
  · have reaches : (s.anew t v h).dueAt x = some s.localTime := by
      rw [eq]
      refine (if_neg (Nat.ne_of_gt moves)).trans (if_pos ?_)
      omega
    refine alone.reanchorHead_marks open_ (by rw [eq]; exact cursor) (by rw [eq]; exact status) plan reaches ?_ rfl run rfl ?_
    · exact fun _ same => same
    · simp [eq, Head.rest, reanchored, cursor]
  · have away : ¬(s.updHead t h.index (s.anew t v)).AtWait (s.anew t v h) := by
      rw [eq]
      rintro ⟨-, k', p, rest', cursor', plan'⟩
      obtain rfl : k = k' := Option.some.inj (cursor.symm.trans cursor')
      exact absurd (plan.symm.trans plan') (by simp)
    refine alone.reanchorHead_rests (timeline := s.timeline) (F := reanchored) open_ ?_ (fun _ same => same) ?_
    · rw [retime_elsewhere (alone.found_anew v) away]
      exact alone.updHead_congr eq
    · exact fun finished => absurd (status.symm.trans finished) (by simp)

end Sys2Proof.Machine
end

section
/-! Proofs: staleness freezes the heads of a track (O31). -/

namespace Sys2Proof.Machine

variable {s : State} {t : TrackId} {h : Head} {l : List Head} {a : Anchor}

/-! ## A head that is frozen (R47, R96) -/

/-- The head rests at an AT wait of its plan, SCHEDULED or HELD. -/
def State.waits (s : State) (h : Head) : Bool :=
  (h.status = .scheduled || h.status = .held) && h.cursor.any s.restsAtPosition

theorem waits_iff : s.waits h = true ↔ s.AtWait h := by
  have rests : h.cursor.any s.restsAtPosition = true
      ↔ ∃ k p rest, h.cursor = some k ∧ s.plans[k.plan].drop k.step = .atPos p :: rest := by
    simp [Option.any_eq_true, restsAtPosition_iff]
  rw [State.waits, Bool.and_eq_true, rests, Bool.or_eq_true, decide_eq_true_eq, decide_eq_true_eq]
  rfl

/-- A head as it stands still: the instants that lie ahead are absent, and an AT wait holds it. -/
def State.frozen (s : State) (h : Head) : Head :=
  { h with
    anchor := h.anchor.map fun a => a.moveTo s.localTime 0
    predicted := if h.crossed = true then h.predicted else none
    departure := if h.departed = true then h.departure else none
    status := if s.waits h then .held else h.status
    speedHeld := s.waits h || h.speedHeld }

/-- Re-anchoring a head to speed 0 freezes it, and takes the entry of its AT wait off the timeline. -/
theorem State.Alone.reanchorHead_still (alone : s.Alone t h) (open_ : (s.channel t).passage.closed = none)
    (anchor : h.anchor = some a) (rests : h.status = .finished → h.confirmed = false ∧ h.departed = false) :
    s.reanchorHead t 0 h.index = { s.updHead t h.index s.frozen with
      timeline := if s.waits h then s.timeline.filter (fun e => !e.isOf t h.index) else s.timeline } := by
  have anew : s.anew t 0 h = { h with
      anchor := some (a.moveTo s.localTime 0), predicted := if h.crossed = true then h.predicted else none
      departure := if h.departed = true then h.departure else none } := Head.reanchor_still anchor _ _
  refine alone.reanchorHead_rests open_ ?_ (fun _ same => same) fun finished => ?_
  · by_cases waits : s.waits h = true
    · obtain ⟨status, k, p, rest, cursor, plan⟩ := waits_iff.mp waits
      have held : (s.anew t 0 h).hold k.step = s.frozen h := by
        simp [anew, Head.hold, Head.rest, State.frozen, anchor, cursor, waits]
      rw [if_pos waits, alone.retime_anew (by rw [anew]; exact cursor) (by rw [anew]; exact status.symm) plan,
        runPlan_held (alone.found_dropped 0) (by rw [anew]; rfl)]
      exact timeline_congr (alone.updHead_anew held) _
    · have away : ¬(s.updHead t h.index (s.anew t 0)).AtWait (s.anew t 0 h) := by
        rw [anew]
        exact fun waits' => waits (waits_iff.mpr waits')
      rw [if_neg waits, retime_elsewhere (alone.found_anew 0) away]
      refine alone.updHead_congr ?_
      simp [anew, State.frozen, anchor, waits]
  · by_cases waits : s.waits h = true
    · simp [State.frozen, waits] at finished
    · exact rests (by simpa [State.frozen, waits] using finished)

/-! ## One head after another -/

/-- Updating one head and then others is updating all of them. -/
theorem map_updated {n : Nat} {ns : List Nat} (new : n ∉ ns) {F : Head → Head} (index : ∀ h, (F h).index = h.index)
    (heads : List Head) : (heads.map fun g => if g.index = n then F g else g).map (fun g => if g.index ∈ ns then F g else g)
      = heads.map fun g => if g.index ∈ n :: ns then F g else g := by
  rw [List.map_map]
  refine List.map_congr_left fun g _ => ?_
  by_cases same : g.index = n
  · simp [same, index, new]
  · simp [same]

/-- A channel with some of its heads frozen. -/
def State.freezes (s : State) (l : List Head) (c : Channel) : Channel :=
  { c with heads := c.heads.map fun g => if g.index ∈ l.map (fun h => h.index) then s.frozen g else g }

/-- Some heads of a track are frozen, and the entries of their AT waits leave the timeline. -/
def State.freezeHeads (s : State) (t : TrackId) (l : List Head) : State :=
  { s.updChannel t (s.freezes l) with
    timeline := s.timeline.filter fun e => !l.any fun h => s.waits h && e.isOf t h.index }

/-- States that differ in channels and timeline alone. -/
theorem part_congr (s : State) {c d : PerTrack Channel} {l m : List TimelineEntry} (channels : c = d) (timeline : l = m) :
    ({ s with channels := c, timeline := l } : State) = { s with channels := d, timeline := m } := by
  rw [channels, timeline]

theorem freezeHeads_nil (s : State) (t : TrackId) : s.freezeHeads t [] = s := by
  refine part_congr s (congrArg State.channels (State.updChannel_id (s := s) (t := t) ?_)) (List.filter_true _)
  simp [State.freezes]

/-- Freezing one head and then others is freezing all of them. -/
theorem freezeHeads_cons (first : h.index ∉ l.map fun h => h.index) :
    State.freezeHeads { s.updHead t h.index s.frozen with
      timeline := if s.waits h then s.timeline.filter (fun e => !e.isOf t h.index) else s.timeline } t l
      = s.freezeHeads t (h :: l) := by
  refine part_congr s ?_ ?_
  · change ((s.updHead t h.index s.frozen).updChannel t (s.freezes l)).channels = _
    rw [State.updHead, State.updChannel_updChannel]
    refine congrArg State.channels (State.updChannel_congr ?_)
    exact congrArg (fun heads => { s.channel t with heads := heads })
      (map_updated (F := s.frozen) first (fun _ => rfl) (s.channel t).heads)
  · change (if s.waits h then _ else _ : List TimelineEntry).filter
      (fun e => !l.any fun h => s.waits h && e.isOf t h.index) = _
    split
    · next waits => simp [List.filter_filter, List.any_cons, waits, Bool.and_comm]
    · next moves => simp [List.any_cons, moves]

theorem reanchorAll_still (l : List Head) (alone : ∀ h ∈ l, s.Alone t h) (distinct : (l.map fun h => h.index).Nodup)
    (open_ : (s.channel t).passage.closed = none) (timed : ∀ h ∈ l, h.anchor.isSome = true)
    (rests : ∀ h ∈ l, h.status = .finished → h.confirmed = false ∧ h.departed = false) :
    s.reanchorAll t 0 (l.map fun h => h.index) = s.freezeHeads t l := by
  induction l generalizing s with
  | nil => exact (freezeHeads_nil s t).symm
  | cons h rest ih =>
    obtain ⟨first, distinct⟩ := List.nodup_cons.mp distinct
    obtain ⟨a, anchor⟩ := Option.isSome_iff_exists.mp (timed h List.mem_cons_self)
    have still := (alone h List.mem_cons_self).reanchorHead_still open_ anchor (rests h List.mem_cons_self)
    rw [List.map_cons, State.reanchorAll, still, ← freezeHeads_cons first]
    refine ih (fun g mem => ?_) distinct ?_ (fun g mem => timed g (List.mem_cons_of_mem h mem))
      fun g mem => rests g (List.mem_cons_of_mem h mem)
    · exact (alone g (List.mem_cons_of_mem h mem)).elsewhere (n := h.index)
        (updHead_elsewhere s t h.index fun _ same => same) fun same => first (List.mem_map.mpr ⟨g, mem, same⟩)
    · exact (congrArg Passage.closed (updHead_passage s t h.index _)).trans open_

/-! ## The heads of a track -/

theorem freezeHeads_channel (s : State) (t : TrackId) (l : List Head) :
    (s.freezeHeads t l).channel t = s.freezes l (s.channel t) := State.updChannel_same s t (s.freezes l)

/-- The timed heads of a list are those that are frozen. -/
theorem map_timed {heads : List Head} (distinct : (heads.map fun h => h.index).Nodup) (F : Head → Head) :
    (heads.map fun g => if g.index ∈ (heads.filter fun h => h.anchor.isSome).map (fun h => h.index) then F g else g)
      = heads.map fun g => if g.anchor = none then g else F g := by
  refine List.map_congr_left fun g mem => ?_
  have timed : g.index ∈ (heads.filter fun h => h.anchor.isSome).map (fun h => h.index) ↔ ¬g.anchor = none := by
    rw [List.mem_map]
    constructor
    · rintro ⟨h, inside, same⟩
      obtain ⟨mem', timed⟩ := List.mem_filter.mp inside
      obtain rfl := List.inj_on_of_nodup_map distinct mem' mem same
      exact Option.isSome_iff_ne_none.mp timed
    · exact fun timed => ⟨g, List.mem_filter.mpr ⟨mem, Option.isSome_iff_ne_none.mpr timed⟩, rfl⟩
  by_cases anchor : g.anchor = none
  · rw [if_neg (by simp [timed, anchor]), if_pos anchor]
  · rw [if_pos (timed.mpr anchor), if_neg anchor]

/-- A head as staleness leaves it, frozen where it is timed. -/
theorem frozen_or_untimed (s : State) (h : Head) : ∃ status speedHeld,
    (if h.anchor = none then h else s.frozen h)
      = { h with
          anchor := h.anchor.map fun a => { time := s.localTime, position := a.positionAt s.localTime, speed := 0 }
          predicted := if h.anchor = none ∨ h.crossed = true then h.predicted else none
          departure := if h.anchor = none ∨ h.departed = true then h.departure else none
          status := status, speedHeld := speedHeld }
    ∧ (h.anchor ≠ none → s.AtWait h → status = .held ∧ speedHeld = true)
    ∧ ((h.anchor = none ∨ ¬s.AtWait h) → status = h.status ∧ speedHeld = h.speedHeld) := by
  by_cases anchor : h.anchor = none
  · refine ⟨h.status, h.speedHeld, ?_, fun timed => absurd anchor timed, fun _ => ⟨rfl, rfl⟩⟩
    obtain ⟨⟩ := h
    simp_all
  · refine ⟨(s.frozen h).status, (s.frozen h).speedHeld, ?_, fun _ waits => ?_, fun away => ?_⟩
    · simp only [anchor, if_false, false_or]
      rfl
    · simp [State.frozen, waits_iff.mpr waits]
    · have moves : s.waits h = false := Bool.eq_false_iff.mpr fun waits => away.elim anchor (· (waits_iff.mp waits))
      simp [State.frozen, moves]

/-- Settles O31: each timed head is re-anchored to speed 0 in turn, which freezes it. -/
theorem stalenessFreezesTheHeads : Obligations.StalenessFreezesTheHeads := by
  intro s t d v c held counting timer due fresh distinct rests
  obtain ⟨q, stale⟩ : ∃ q, s.updChannel t (fun c => { c with speed := .stale v, staleTimer := none }) = q := ⟨_, rfl⟩
  have channel : q.channel t = { c with speed := .stale v, staleTimer := none } := by rw [← stale, State.updChannel_same]
  have heads : (q.channel t).heads = c.heads := by rw [channel]
  have frozen : q.reanchorAll t 0 c.timedIndices = q.freezeHeads t (c.heads.filter fun h => h.anchor.isSome) := by
    refine reanchorAll_still _ (fun h mem => ?_) (distinct.sublist (List.filter_sublist.map _)) ?_
      (fun h mem => (List.mem_filter.mp mem).2) fun h mem => rests h (List.mem_filter.mp mem).1
    · exact alone_of_mem (by rw [heads]; exact distinct) (by rw [heads]; exact (List.mem_filter.mp mem).1)
    · rw [channel]
      exact counting.2
  have completes : Completes (.stalenessExpiry t) s (q.freezeHeads t (c.heads.filter fun h => h.anchor.isSome)) := by
    rw [← frozen, ← stale]
    refine congrArg Host.Outcome.next ((if_pos ?_).trans ?_)
    · simp [timerDue, show (s.channel t).staleTimer = some d from timer, due]
    · refine congrArg (fun z => State.reanchorAll z t 0 c.timedIndices) (State.updChannel_congr ?_)
      rw [show (s.channel t).speed = .fresh v from fresh]
      rfl
  have left : ((q.freezeHeads t (c.heads.filter fun h => h.anchor.isSome)).channel t).heads
      = c.heads.map fun g => if g.anchor = none then g else s.frozen g := by
    rw [freezeHeads_channel, State.freezes, heads]
    subst stale
    exact map_timed distinct s.frozen
  refine ⟨_, completes, ?_, ?_, ?_, by rw [left, List.length_map], fun i inside inside' => ?_, fun e => ?_⟩
  · subst stale
    rfl
  · refine (State.updChannel_other q (q.freezes _) (otherTrack_ne t)).trans ?_
    rw [← stale, State.updChannel_other _ _ (otherTrack_ne t)]
  · rw [freezeHeads_channel, channel]
    rfl
  · obtain ⟨status, speedHeld, frozen, waiting, other⟩ := frozen_or_untimed s c.heads[i]
    refine ⟨status, speedHeld, ?_, waiting, other⟩
    simp only [left, List.getElem_map]
    exact frozen
  · subst stale
    change e ∈ s.timeline.filter _ ↔ _
    rw [List.mem_filter]
    refine and_congr_right fun _ => ?_
    simp only [Bool.not_eq_true', ← Bool.not_eq_true, List.any_eq_true, List.mem_filter, Bool.and_eq_true, waits_iff,
      TimelineEntry.isOf, beq_iff_eq, Option.isSome_iff_ne_none]
    refine not_congr ⟨?_, ?_⟩
    · rintro ⟨h, ⟨mem, timed⟩, waits, track, index⟩
      exact ⟨track, h, mem, index.symm, timed, waits⟩
    · rintro ⟨track, h, mem, index, timed, waits⟩
      exact ⟨h, ⟨mem, timed⟩, waits, track, index.symm⟩

end Sys2Proof.Machine
end

section
/-! Proofs: heads that cross and depart, and the close of a departed head (O35). -/

namespace Sys2Proof.Machine

variable {s u : State} {t : TrackId} {n : Nat} {h : Head} {given : HeadRecord} {all : List HeadRecord} {x : LocalTime}

/-! ## The two instants of a head (R54, R66) -/

theorem hasCome_iff {instant : Option LocalTime} {now : LocalTime} :
    hasCome instant now = true ↔ ∃ x, instant = some x ∧ after x now = false := by
  cases instant with
  | none => simp [hasCome]
  | some x => simp [hasCome_some]

/-- Neither event of a head is due early, or a second time (log entry 3). -/
theorem not_come {passed : Bool} {instant : Option LocalTime} {now : LocalTime}
    (early : passed = true ∨ ∀ x, instant = some x → after x now = true) : (!passed && hasCome instant now) = false := by
  refine Bool.eq_false_iff.mpr fun due => ?_
  obtain ⟨here, come⟩ := Bool.and_eq_true_iff.mp due
  obtain ⟨x, some, behind⟩ := hasCome_iff.mp come
  rcases early with passed | ahead
  · simp [passed] at here
  · simp [ahead x some] at behind

theorem come {passed : Bool} {instant : Option LocalTime} {now : LocalTime} (open_ : passed = false)
    (some : instant = some x) (behind : after x now = false) : (!passed && hasCome instant now) = true := by
  rw [open_, hasCome_iff.mpr ⟨x, some, behind⟩]
  rfl

theorem execHeadCrosses_early (early : ∀ h, s.findHead t n = some h → h.crossingDue s.localTime = false) :
    Completes (.headCrosses t n) s s := by
  change execHeadCrosses t n s = _
  unfold execHeadCrosses
  split
  · next h found => rw [if_neg (by simp [early h found])]
  · rfl

theorem execHeadDeparted_early (early : ∀ h, s.findHead t n = some h → h.departureDue s.localTime = false) :
    Completes (.headDeparted t n) s s := by
  change execHeadDeparted t n s = _
  unfold execHeadDeparted
  split
  · next h found => rw [if_neg (by simp [early h found])]
  · rfl

theorem execHeadCrosses_due (found : s.findHead t n = some h) (due : h.crossingDue s.localTime = true) :
    Completes (.headCrosses t n) s (s.updHead t n fun h => { h with crossed := true }) := by
  change execHeadCrosses t n s = _
  rw [execHeadCrosses, found]
  exact congrArg Host.Outcome.next (if_pos due)

theorem execHeadDeparted_due (found : s.findHead t n = some h) (due : h.departureDue s.localTime = true) :
    Completes (.headDeparted t n) s ((s.updHead t n fun h => { h with departed := true }).testHead t n) := by
  change execHeadDeparted t n s = _
  rw [execHeadDeparted, found]
  exact congrArg Host.Outcome.next (if_pos due)

/-! ## A head that departs (R66, R70) -/

/-- The state as a head is marked as departed. -/
def State.departs (s : State) (t : TrackId) (n : Nat) : State := s.updHead t n fun h => { h with departed := true }

theorem departs_findHead (found : s.findHead t n = some h) : (s.departs t n).findHead t n = some { h with departed := true } := by
  rw [State.departs, State.findHead, updHead_heads, List.find?_map]
  have looks : ((fun g : Head => g.index == n) ∘ fun g => if g.index = n then { g with departed := true } else g)
      = fun g => g.index == n := by
    funext g
    by_cases same : g.index = n <;> simp [same]
  rw [looks]
  change Option.map _ (s.findHead t n) = _
  rw [found, Option.map_some, if_pos (findHead_index found).1]

theorem departs_passage (s : State) (t : TrackId) (n : Nat) : ((s.departs t n).channel t).passage = (s.channel t).passage :=
  updHead_passage s t n _

theorem departs_headBusy (s : State) (t : TrackId) (n : Nat) : (s.departs t n).headBusy t n = s.headBusy t n := by
  rw [State.headBusy, departs_passage]
  rfl

/-- The record of a departed head holds nothing of its departure (R74). -/
theorem departs_recordOf (s : State) (t : TrackId) (h : Head) :
    let y := (s.departs t h.index).recordOf t .ordinary { h with departed := true }
    y.IsOf (s.channel t).passage h y.status ∧ y.status = h.ordinaryStatus := by
  intro y
  have isOf := recordOf_isOf (s.departs t h.index) t (cause := .ordinary) (by simp) { h with departed := true }
  rw [departs_passage] at isOf
  exact ⟨isOf, finalStatus_ordinary _⟩

/-- In an open passage the test of a head for close ends with the head (R15). -/
theorem testHead_eq (open_ : (s.channel t).closing = false) : s.testHead t n = s.closeTest t n := by
  refine testHead_open ?_
  obtain same | ⟨h, -, -, closes⟩ := closeTest_cases s t n
  · rw [same, open_]
  · rw [closes, (closeHead_tends s t n _ t).keeps.1, open_]

/-- Behind the first record that the store takes, a FETCH RECORD reports it (R170, R174). -/
theorem fetch_of_inTurn (idle : s.LinkIdle) (empty : s.store.records = []) (none_ : s.offeredOf t = [])
    (turn : s.InTurn u t [given] all []) :
    ∃ r : Record, r.body = .head given ∧ r.track = t ∧ Answers .fetchRecord [] u u .ok (1#8 :: r.bytes) := by
  obtain ⟨perm, -, -, held, new, records, ⟨headers, -⟩, stored, still, -⟩ := turn
  obtain rfl : all = [given] := by
    rw [none_, List.nil_append] at perm
    exact List.perm_singleton.mp perm
  obtain rfl : held = [] := by simpa [empty] using headers
  have one : new.map (fun r => (r.track, r.stored, r.displaced, r.body)) = [(t, s.localTime, false, .head given)] := by
    simpa [StoredHeads, none_] using stored
  obtain ⟨r, rfl, same⟩ := List.map_eq_singleton_iff.mp one
  simp only [Prod.mk.injEq] at same
  obtain ⟨track, -, -, body⟩ := same
  have link : u.link = s.link := still fun x sending => by simp [idle.1] at sending
  refine ⟨r, body, track, answers_of_handle ?_ (by simp) rfl (by simp) ?_ rfl⟩
  · rwa [State.LinkIdle, link]
  · change handleFetchRecord [] u = _
    rw [handleFetchRecord, records]
    rfl

/-- Settles O35: each event is its mark on the head; a departed head is then tested for close. -/
theorem headsCrossAndDepart : Obligations.HeadsCrossAndDepart := by
  intro s t index
  refine ⟨fun early => execHeadCrosses_early fun h found => not_come (early h found),
    fun early => execHeadDeparted_early fun h found => not_come (early h found), fun h found => ⟨?_, ?_⟩⟩
  · exact fun x open_ predicted behind => execHeadCrosses_due found (come open_ predicted behind)
  · intro x open_ departure behind running
    have closing : ((s.departs t index).channel t).closing = false := by
      rw [Channel.closing, departs_passage, running]
      simp
    have departed : Completes (.headDeparted t index) s ((s.departs t index).closeTest t index) := by
      rw [← testHead_eq closing]
      exact execHeadDeparted_due found (come open_ departure behind)
    have marked := departs_findHead found
    obtain ⟨rfl, mem⟩ := findHead_index found
    have may : (s.departs t h.index).mayClose t { h with departed := true } = true
        ↔ h.status = .finished ∧ s.headBusy t h.index = false := by
      rw [mayClose_iff, State.Due, closing, departs_headBusy]
      simp
    rw [State.closeTest, marked] at departed
    refine ⟨fun waits => ?_, fun finished free inOrder room => ?_⟩
    · refine departed.trans (congrArg Host.Outcome.next (if_neg fun closes => ?_))
      obtain ⟨finished, free⟩ := may.mp closes
      rcases waits with running | busy
      · exact running finished
      · simp [free] at busy
    · have cause : ((s.departs t h.index).channel t).closeCause = .ordinary := by simp [Channel.closeCause, closing]
      dsimp only at departed
      rw [if_pos (may.mpr ⟨finished, free⟩), cause] at departed
      have opened : s.Turned (s.departs t h.index) t [] (s.offeredOf t) :=
        (State.Turned.refl inOrder.2.1).congr rfl rfl rfl rfl
      obtain ⟨turned, -⟩ := opened.closeHead (cause := .ordinary) (h := { h with departed := true }) marked
        (fun x offered => (inOrder.2.2 x offered h mem).symm) (by simpa using room) (by simp)
      obtain ⟨isOf, status⟩ := departs_recordOf s t h
      refine ⟨_, _, _, departed, ?_, turned.inTurn, turned.offered,
        fun idle empty none => fetch_of_inTurn idle empty none turned.inTurn, isOf, fun unbound => ?_,
        fun bound taken => ?_, fun bound none => ?_⟩
      · rw [closeHead_heads]
        exact updHead_elsewhere s t h.index fun _ same => same
      · rw [status, Head.ordinaryStatus, if_pos unbound]
      · rw [status, Head.ordinaryStatus, if_neg bound, if_pos taken]
      · rw [status, Head.ordinaryStatus, if_neg bound, if_neg]
        rintro ⟨x, shot, lit | unlit⟩
        · exact (none x shot).1 lit
        · exact (none x shot).2 unlit

end Sys2Proof.Machine
end

section
/-! Proofs: a record that is offered behind those of this instant, whatever heads they are of. -/

namespace Sys2Proof.Machine

variable {s : State} {t : TrackId} {w : HeadRecord} {l : List HeadRecord}

/-! ## Places in detection order (R72, log entry 35) -/

/-- The records of heads that were not detected after `w`. -/
def notLaterThan (w : HeadRecord) (l : List HeadRecord) : List HeadRecord := l.filter fun x => x.index ≤ w.index

theorem split_at_later (order : Detected l) (w : HeadRecord) : l = notLaterThan w l ++ laterThan w l := by
  rw [detected_iff] at order
  induction l with
  | nil => rfl
  | cons x rest ih =>
    obtain ⟨first, order⟩ := List.pairwise_cons.mp order
    by_cases behind : w.index < x.index
    · have all (y : HeadRecord) (mem : y ∈ x :: rest) : w.index < y.index := by
        rcases List.mem_cons.mp mem with rfl | mem
        · exact behind
        · exact behind.trans (first y mem)
      have none : notLaterThan w (x :: rest) = [] := List.filter_eq_nil_iff.mpr fun y mem => by simpa using all y mem
      have later : laterThan w (x :: rest) = x :: rest := List.filter_eq_self.mpr fun y mem => by simpa using all y mem
      rw [none, later, List.nil_append]
    · have here : notLaterThan w (x :: rest) = x :: notLaterThan w rest := List.filter_cons_of_pos (by simpa using behind)
      have later : laterThan w (x :: rest) = laterThan w rest := List.filter_cons_of_neg (by simpa using behind)
      rw [here, later, List.cons_append, ← ih order]

/-- The places are dealt in detection order, and the last is new. -/
theorem map_moved_later (order : Detected l) (w : HeadRecord) :
    l.map (moved w l) ++ [(laterThan w l).getLastD w] = notLaterThan w l ++ w :: laterThan w l := by
  have stays : (notLaterThan w l).map (moved w l) = notLaterThan w l := by
    have still (x : HeadRecord) (mem : x ∈ notLaterThan w l) : moved w l x = id x := moved_of_not_mem fun later => by
      have before := (List.mem_filter.mp mem).2
      have behind := (List.mem_filter.mp later).2
      simp only [decide_eq_true_eq] at before behind
      omega
    rw [List.map_congr_left still, List.map_id]
  have moves : (laterThan w l).map (moved w l) = (w :: laterThan w l).take (laterThan w l).length := by
    refine List.ext_getElem (by simp) fun k inside _ => ?_
    rw [List.getElem_map, List.getElem_take, moved_getElem order]
  calc l.map (moved w l) ++ [(laterThan w l).getLastD w]
      = (notLaterThan w l).map (moved w l) ++ ((laterThan w l).map (moved w l) ++ [(laterThan w l).getLastD w]) := by
        rw [← List.append_assoc, ← List.map_append, ← split_at_later order w]
    _ = notLaterThan w l ++ w :: laterThan w l := by rw [stays, moves, take_cons_append_getLastD]

theorem notLaterThan_perm (order : Detected l) (w : HeadRecord) :
    (notLaterThan w l ++ w :: laterThan w l).Perm (l ++ [w]) := by
  conv_rhs => rw [split_at_later order w, List.append_assoc]
  exact (List.perm_append_comm (l₁ := [w])).append_left _

theorem notLaterThan_order (order : Detected l) (w : HeadRecord) :
    ((notLaterThan w l ++ w :: laterThan w l).map fun x => x.index).Pairwise (· ≤ ·) := by
  rw [detected_iff] at order
  have le (m : List HeadRecord) (sub : m.Sublist l) : m.Pairwise fun x y => x.index ≤ y.index :=
    (order.sublist sub).imp Nat.le_of_lt
  have before (x : HeadRecord) (mem : x ∈ notLaterThan w l) : x.index ≤ w.index := by
    simpa using (List.mem_filter.mp mem).2
  have behind (x : HeadRecord) (mem : x ∈ laterThan w l) : w.index ≤ x.index := by
    simpa using Nat.le_of_lt (by simpa using (List.mem_filter.mp mem).2)
  rw [List.pairwise_map]
  refine List.pairwise_append.mpr ⟨le _ List.filter_sublist, List.pairwise_cons.mpr ⟨behind, le _ List.filter_sublist⟩,
    fun x mem y mem' => ?_⟩
  rcases List.mem_cons.mp mem' with rfl | mem'
  · exact before x mem
  · exact (before x mem).trans (behind y mem')

/-! ## The store and the reply -/

/-- Records as they are dealt once, those of the track to the places that move. -/
theorem dealtTo_moved (s : State) (t : TrackId) (w x : HeadRecord) (before : List Record) :
    DealtTo before (before.map fun r => r.dealt (s.movesOf t w)) t (s.offeredOf t)
      ((s.offeredOf t).map (moved w (s.offeredOf t)) ++ [x]) := by
  refine ⟨?_, fun i r y old now => ?_⟩
  · rw [List.map_map]
    refine List.map_congr_left fun r _ => ?_
    obtain ⟨number, track, stored, displaced⟩ := dealt_header (s.movesOf t w) r
    simp only [Function.comp_apply, number, track, stored, displaced]
  · rw [List.getElem?_map, old, Option.map_some] at now
    obtain rfl := Option.some.inj now
    refine ⟨fun j x z track body place stands => ?_, fun free => ?_⟩
    · rw [List.getElem?_append_left (by simpa using (List.getElem?_eq_some_iff.mp place).1), List.getElem?_map, place,
        Option.map_some] at stands
      rw [dealt_same s w track body, Option.some.inj stands]
    · by_cases track : r.track = t
      · cases body : r.body with
        | passage p => exact dealt_passage _ body
        | head x =>
          have stays : moved w (s.offeredOf t) x = x :=
            moved_of_not_mem fun later => free track x (List.mem_filter.mp later).1 body
          rw [dealt_same s w track body, stays, ← body]
      · exact dealt_other_track s w track

/-- A record that is offered with room in the store is given in turn, even where one of its index has been offered. -/
theorem offerInOrder_inTurn (order : Detected (s.offeredOf t)) (room : s.store.records.length < 32) (w : HeadRecord) :
    s.InTurn (s.offerInOrder (ofTrack t w)) t [w] ((s.offerInOrder (ofTrack t w)).offeredOf t) [] := by
  obtain ⟨number, next, attention, offers⟩ := offerInOrder_room room t w
  have offered : (s.offerInOrder (ofTrack t w)).offeredOf t
      = (s.offeredOf t).map (moved w (s.offeredOf t)) ++ [s.offerOf t w] := by
    rw [offers]
    exact offeredOf_deal s t w
  have inOrder := offered.trans (map_moved_later order w)
  have dealt (before : List Record) := dealtTo_moved s t w (s.offerOf t w) before
  refine ⟨by rw [inOrder]; exact notLaterThan_perm order w, by rw [inOrder]; exact notLaterThan_order order w, ?_,
    s.store.records.map fun r => r.dealt (s.movesOf t w),
    [{ number := number, track := t, stored := s.localTime, displaced := false, body := .head (s.offerOf t w) }], ?_, ?_, ?_,
    fun quiet => ?_, fun x r transmission started reported => ?_⟩
  · rw [offers]
    exact offeredOf_deal_other s w _ (otherTrack_ne t)
  · rw [offers, List.append_nil]
  · rw [offered]
    exact dealt _
  · rw [offered, List.drop_left' (by simp)]
    rfl
  · rw [offers]
    exact link_deal_quiet quiet
  · refine ⟨x.dealt (s.movesOf t w) s.ticks, r.dealt (s.movesOf t w), by rw [offered]; exact dealt [r], ?_, ?_⟩
    · rw [offers]
      change s.link.deal _ _ = _
      rw [Link.deal, transmission, Option.map_some]
    · obtain ⟨same, still⟩ | ⟨moves, report⟩ := dealt_reply_cases (moves := s.movesOf t w) started reported
      · exact ⟨fun _ => still, fun other => absurd same other⟩
      · refine ⟨fun back => absurd back moves, fun _ => ?_⟩
        rw [report]
        rfl

end Sys2Proof.Machine
end

section
/-! Proofs: a head that enters the list of its track, and its first timing there (O34). -/

namespace Sys2Proof.Machine

variable {s u b : State} {t : TrackId} {d : Detector} {h g : Head} {i : Fin 12} {a : Anchor} {p : Fin 4} {x : Int}
  {rest : List Step} {start : LocalTime} {v : Nat} {c : Channel}

/-! ## A head behind all others (R60) -/

/-- A head enters the list of its track. -/
def State.enter (s : State) (t : TrackId) (h : Head) : State := s.updChannel t fun c => { c with heads := c.heads ++ [h] }

theorem enter_channel (s : State) (t : TrackId) (h : Head) :
    (s.enter t h).channel t = { s.channel t with heads := (s.channel t).heads ++ [h] } := State.updChannel_same s t _

/-- No head of the track has the index. -/
def State.Free (s : State) (t : TrackId) (n : Nat) : Prop := ∀ g ∈ (s.channel t).heads, g.index ≠ n

theorem State.Free.congr {n : Nat} (free : s.Free t n) (heads : (u.channel t).heads = (s.channel t).heads) : u.Free t n := by
  unfold State.Free
  rwa [heads]

theorem State.Free.alone (free : s.Free t h.index) : (s.enter t h).Alone t h := by
  have others : (s.channel t).heads.filter (fun g => g.index == h.index) = [] :=
    List.filter_eq_nil_iff.mpr fun g mem => by simpa using free g mem
  rw [State.Alone, enter_channel, List.filter_append, others]
  simp

/-- Updating the head that entered is entering the updated head. -/
theorem State.Free.updHead_enter (free : s.Free t h.index) (f : Head → Head) :
    (s.enter t h).updHead t h.index f = s.enter t (f h) := by
  have others : ((s.channel t).heads.map fun g => if g.index = h.index then f g else g) = (s.channel t).heads :=
    (List.map_congr_left fun g mem => by rw [if_neg (free g mem)]; rfl).trans (List.map_id _)
  rw [State.updHead, State.enter, State.updChannel_updChannel]
  refine State.updChannel_congr (congrArg (fun heads => { s.channel t with heads := heads }) ?_)
  rw [List.map_append, others, List.map_singleton, if_pos rfl]

theorem praises_enter (s : State) (t : TrackId) (h : Head) (i : Fin 12) :
    (s.enter t h).praises t i = (s.praises t i).enter t h := by
  have rehearsal : ((s.enter t h).channel t).passage.rehearsal = (s.channel t).passage.rehearsal := by rw [enter_channel]
  unfold State.praises
  rw [rehearsal]
  split
  · rfl
  · unfold State.good
    rw [State.enter, State.updChannel_health]
    cases healthEvent s.health[i].state s.health[i].good.state <;> rfl

/-! ## The head is handed to its plan (R62, R82, R85) -/

theorem startPlan_unbound {n : Nat} (none : (s.binding t (s.channel t).passage.direction).plan = none) :
    s.startPlan t n = s.updHead t n fun h => { h with status := .finished } := by
  rw [State.startPlan]
  dsimp only
  rw [none]

theorem startPlan_bound {n : Nat} (some : (s.binding t (s.channel t).passage.direction).plan = some p) :
    s.startPlan t n = runPlan t n s.plans[p] 0 { due := s.localTime, skipped := false } (s.updHead t n fun h => { h with
      cursor := Option.some
        { plan := p, tolerance := (s.binding t (s.channel t).passage.direction).tolerance, step := 0 } }) := by
  rw [State.startPlan]
  dsimp only
  rw [some]
  rfl

/-- A head at step 0 of a plan that is bound in its direction. -/
def State.onPlan (s : State) (t : TrackId) (p : Fin 4) (h : Head) : Head := { h with
  cursor := some { plan := p, tolerance := (s.binding t (s.channel t).passage.direction).tolerance, step := 0 } }

section

variable (free : b.Free t g.index)

include free

theorem State.Free.startPlan_unbound (none : (b.binding t (b.channel t).passage.direction).plan = none) :
    (b.enter t g).startPlan t g.index = b.enter t { g with status := .finished } := by
  rw [Machine.startPlan_unbound (by rw [enter_channel]; exact none), free.updHead_enter]

variable (bound : (b.binding t (b.channel t).passage.direction).plan = some p) (plan : b.plans[p] = .atPos x :: rest)

include bound plan

/-- With a plan bound the cursor of the head arrives at the AT wait of step 0. -/
theorem State.Free.startPlan_bound : (b.enter t g).startPlan t g.index
    = runPlan t g.index (.atPos x :: rest) 0 { due := b.localTime, skipped := false } (b.enter t (b.onPlan t p g)) := by
  have direction : ((b.enter t g).channel t).passage.direction = (b.channel t).passage.direction := by rw [enter_channel]
  rw [Machine.startPlan_bound (by rw [direction]; exact bound), direction, free.updHead_enter, ← plan]
  rfl

/-- In STALE the wait is HELD (R86). -/
theorem State.Free.startPlan_held (still : g.dueAt x = none) : (b.enter t g).startPlan t g.index
    = b.enter t { b.onPlan t p g with status := .held, speedHeld := true } := by
  have free' : b.Free t (b.onPlan t p g).index := free
  have found : (b.enter t (b.onPlan t p g)).findHead t g.index = some (b.onPlan t p g) := free'.alone.findHead
  rw [free.startPlan_bound bound plan, runPlan_held found still]
  exact free'.updHead_enter _

/-- With the due instant ahead the wait is SCHEDULED (R86, R90). -/
theorem State.Free.startPlan_ahead {due : LocalTime} (reaches : g.dueAt x = some due)
    (ahead : after due b.localTime = true) : ∃ timeline,
      Placed { track := t, passage := (b.channel t).passage.number, index := g.index, step := 0, kind := .atPos, due := due }
        b.timeline timeline
      ∧ (b.enter t g).startPlan t g.index
        = { b.enter t { b.onPlan t p g with status := .scheduled } with timeline := timeline } := by
  have free' : b.Free t (b.onPlan t p g).index := free
  obtain ⟨timeline, placed, schedules⟩ := schedule_placed (b.enter t (b.onPlan t p g)) t g.index 0 .atPos due
  rw [enter_channel] at placed
  refine ⟨timeline, placed, ?_⟩
  have found : (b.enter t (b.onPlan t p g)).findHead t g.index = some (b.onPlan t p g) := free'.alone.findHead
  rw [free.startPlan_bound bound plan, runPlan_ahead found reaches ahead, schedules]
  exact timeline_congr (free'.updHead_enter _) timeline

end

end Sys2Proof.Machine
end

section
/-! Proofs: a valid interval is timed at its blocked end (O34). -/

namespace Sys2Proof.Machine

variable {s u b : State} {t : TrackId} {d : Detector} {h g : Head} {k : Gauge} {i : Fin 12} {a : Anchor} {p : Fin 4} {x : Int}
  {start : LocalTime} {v : Nat} {cause : CloseCause}

/-! ## The interval is judged (R57 to R60) -/

theorem DetectorRunsOut.due {blocked : Bool} (due : s.DetectorRunsOut t d blocked) :
    s.detectorDue t d = true ∧ ((s.channel t).detectors.get d).blocked = blocked := by
  obtain ⟨same, ⟨n, count, behind⟩, apart⟩ := due
  refine ⟨?_, same⟩
  have none : (s.channel t).syntheticEdgeFirst d s.ticks = false := by
    refine List.any_eq_false.mpr fun e mem => ?_
    simp only [Bool.and_eq_true, beq_iff_eq, decide_eq_true_eq, not_and, not_le]
    exact apart e mem
  simp [State.detectorDue, timerDue, count, behind, none]

/-- With an estimate, a length within the limits, and room in the list and among the indices, the interval is a head. -/
theorem judgeInterval_valid (estimate : (s.channel t).speed.estimate = some v)
    (valid : (s.channel t).lengthValid (lengthOf v (span start s.localTime)) = true)
    (room : (s.channel t).listFull = false) (indices : (s.channel t).indicesExhausted = false) :
    s.judgeInterval t start
      = ((s.updChannel t fun c => c.enterHead start (span start s.localTime)).updPassage t Passage.countAccepted).firstTiming
        t ((s.channel t).passage.lastIndex + 1) v := by
  simp only [State.judgeInterval, estimate, valid, room, indices, Bool.not_true, Bool.or_false, Bool.false_eq_true, if_false]

/-- The detector is CLEAR, the interval is closed and the head that it opened is accepted (R58, R60). -/
def State.accepting (s : State) (t : TrackId) (d : Detector) : State :=
  (s.settled t d false).updPassage t fun p => { p with
    approachOpen := none, lastIndex := (s.channel t).passage.lastIndex + 1, accepted := satSucc 255 p.accepted }

theorem accepting_channel (s : State) (t : TrackId) (d : Detector) : (s.accepting t d).channel t = { s.channel t with
    detectors := (s.channel t).detectors.set d { (s.channel t).detectors.get d with blocked := false, count := none }
    passage := { (s.channel t).passage with
      approachOpen := none, lastIndex := (s.channel t).passage.lastIndex + 1
      accepted := satSucc 255 (s.channel t).passage.accepted } } := by
  rw [State.accepting, State.updPassage, State.updChannel_same, State.settled, State.updChannel_same]

/-- An interval of a valid length enters the list, and its head is timed (R59, R60, R62). -/
theorem blockedEnd_times (due : s.DetectorRunsOut t d true) (tracking : (s.channel t).Tracking)
    (approach : d = approachDetector (s.channel t).passage.direction)
    (opened : (s.channel t).passage.approachOpen = some start) (room : (s.channel t).heads.length < 8)
    (last : (s.channel t).passage.lastIndex + 1 ≤ 255) (estimate : (s.channel t).speed.estimate = some v)
    (long : (s.channel t).lengthMin ≤ v * span start s.localTime / 1000000)
    (short : v * span start s.localTime / 1000000 ≤ (s.channel t).lengthMax) :
    let new := newHead ((s.channel t).passage.lastIndex + 1) start (span start s.localTime)
    Completes (.blockedEnd t d) s (((s.accepting t d).enter t new).firstTiming t new.index v) := by
  intro new
  obtain ⟨runs, blocked⟩ := DetectorRunsOut.due due
  have channel : (s.settled t d false).channel t = { s.channel t with
      detectors := (s.channel t).detectors.set d { (s.channel t).detectors.get d with blocked := false, count := none } } :=
    State.updChannel_same s t _
  have disposed : (s.settled t d false).disposeEnd t d
      = ((s.settled t d false).updPassage t fun p => { p with approachOpen := none }).judgeInterval t start := by
    have here : ((s.settled t d false).channel t).tracking = true := by
      rw [channel]
      exact Channel.tracking_iff.mpr tracking
    have open_ : ((s.settled t d false).channel t).passage.approachOpen = some start := by rw [channel, opened]
    rw [State.disposeEnd, here, open_, channel]
    exact if_pos (by simpa using approach)
  have accepted : (((s.settled t d false).updPassage t fun p => { p with approachOpen := none }).updChannel t
      fun c => c.enterHead start (span start s.localTime)).updPassage t Passage.countAccepted
      = (s.accepting t d).enter t new := by
    simp only [State.accepting, State.enter, State.updPassage, State.updChannel_updChannel, State.settled]
    rfl
  change execBlockedEnd t d s = _
  rw [execBlockedEnd, runs, blocked]
  refine congrArg Host.Outcome.next ((if_pos rfl).trans (disposed.trans ?_))
  have held : ((s.settled t d false).updPassage t fun p => { p with approachOpen := none }).channel t
      = { (s.settled t d false).channel t with
          passage := { ((s.settled t d false).channel t).passage with approachOpen := none } } :=
    State.updChannel_same _ t _
  rw [channel] at held
  rw [judgeInterval_valid (v := v)]
  · rw [held]
    exact congrArg (fun m => State.firstTiming m t new.index v) accepted
  · rw [held]
    exact estimate
  · rw [held]
    exact Bool.and_eq_true_iff.mpr ⟨decide_eq_true long, decide_eq_true short⟩
  · rw [held]
    exact decide_eq_false (Nat.not_le.mpr room)
  · rw [held]
    exact decide_eq_false (Nat.not_le.mpr last)

/-! ## The first timing of the head (R50, R62) -/

theorem Gauge.Fits.enter (fits : k.Fits t b) (h : Head) : k.Fits t (b.enter t h) :=
  fits.tends (updChannel_tends ⟨_, _, _, _, _, _, _, _, rfl⟩) rfl

/-- The heads of a track that is FRESH are timed by the gauge of the track. -/
theorem accepting_fits (tracking : (s.channel t).Tracking) (fresh : (s.channel t).speed = .fresh v) (d : Detector) :
    ((s.channel t).gauge t v s.localTime).Fits t (s.accepting t d) := by
  have closing : (s.channel t).closing = false := by simp [Channel.closing, tracking.1.2]
  constructor
  case speed => rw [accepting_channel]; exact fresh
  case now => rfl
  case running => rw [accepting_channel]; exact closing
  all_goals rw [accepting_channel]; rfl

/-- In FRESH the predicted crossing decides whether the head is handed to its plan or closes MISSED (R62, R63). -/
theorem Gauge.Fits.firstTiming_enter (fits : k.Fits t b) (far : 0 < k.distance) (fast : 0 < k.estimate)
    (free : b.Free t h.index) (flags : h.crossed = false ∧ h.departed = false ∧ h.confirmed = false)
    (timely : after (k.crossing h) k.now = true → after (k.departure h) k.now = true) :
    (b.enter t h).firstTiming t h.index k.estimate
      = if after (k.crossing h) k.now then ((b.praises t k.sensor).enter t (k.timed h)).startPlan t h.index
        else ((b.praises t k.sensor).enter t (k.timed h)).closeHead t h.index .missedAtFirstTiming := by
  have free' : (b.praises t k.sensor).Free t h.index := free.congr (by rw [State.channel_eq (praises_channels b t k.sensor)])
  rw [(fits.enter h).firstTiming_eq far fast free.alone flags timely, praises_enter, free'.updHead_enter]

/-- A head at its first timing in STALE: it stands where it was detected, and no instant lies ahead (R54, R66). -/
def Channel.timedStill (c : Channel) (v : Nat) (h : Head) : Head :=
  { h with
    anchor := some { time := h.blockedStart, position := -((c.frame.approachDistance * 1000 : Nat) : Int), speed := 0 }
    length := some (lengthOf v h.duration), firstSpeed := some v, predicted := none, departure := none }

theorem Channel.timed_stale {c : Channel} (stale : c.speed = .stale v)
    (flags : h.crossed = false ∧ h.departed = false ∧ h.confirmed = false) (now : LocalTime) :
    c.timed h v now = c.timedStill v h := by
  obtain ⟨crossed, departed, -⟩ := flags
  have anchor : c.firstAnchor h
      = { time := h.blockedStart, position := -((c.frame.approachDistance * 1000 : Nat) : Int), speed := 0 } := by
    rw [Channel.firstAnchor, stale]
    rfl
  have never (target : Int) : Anchor.reaches
      { time := h.blockedStart, position := -((c.frame.approachDistance * 1000 : Nat) : Int), speed := 0 } target = none :=
    if_pos rfl
  have crosses : Anchor.dueAt
      { time := h.blockedStart, position := -((c.frame.approachDistance * 1000 : Nat) : Int), speed := 0 } 0 = none := never _
  rw [Channel.timed, anchor]
  simp only [Head.predict, Head.predictDeparture, crossed, departed, Bool.false_eq_true, if_false, Option.bind_some, crosses,
    never, hasCome, Channel.timedStill]

/-- A head that is handed to its plan stays open in a passage that does not close (R70). -/
theorem State.Free.closeTest_startPlan (free : b.Free t g.index) (running : (b.channel t).closing = false)
    (flags : g.confirmed = false ∧ g.departed = false) :
    ((b.enter t g).startPlan t g.index).closeTest t g.index = (b.enter t g).startPlan t g.index := by
  refine closeTest_stays ?_ fun x mem index => ?_
  · refine ((tending_tends.startPlan (b.enter t g) t g.index) t).keeps.1.trans ?_
    rw [enter_channel]
    exact running
  · obtain ⟨y, held, same, confirms, departs⟩ := (startPlan_runsHead _ t g.index).flags x mem index
    obtain rfl := free.alone.only held same
    exact ⟨confirms.trans flags.1, departs.trans flags.2⟩

/-- In STALE the head is handed to its plan (R62). -/
theorem State.Free.firstTiming_stale (free : b.Free t h.index) (running : (b.channel t).closing = false)
    (stale : (b.channel t).speed = .stale v) (flags : h.crossed = false ∧ h.departed = false ∧ h.confirmed = false)
    (sensor : detectorIndex t (approachDetector (b.channel t).passage.direction) = i) :
    (b.enter t h).firstTiming t h.index v
      = ((b.praises t i).enter t ((b.channel t).timedStill v h)).startPlan t h.index := by
  have praised := State.channel_eq (praises_channels b t i) (t := t)
  have free' : (b.praises t i).Free t h.index := free.congr (by rw [praised])
  have timed : ((b.enter t h).channel t).timed h v (b.enter t h).localTime = (b.channel t).timedStill v h := by
    rw [enter_channel]
    exact Channel.timed_stale stale flags _
  have sensor' : detectorIndex t (approachDetector ((b.enter t h).channel t).passage.direction) = i := by
    rw [enter_channel]
    exact sensor
  have anchored : ((b.enter t h).updHead t h.index fun _ => (b.channel t).timedStill v h).goodUnlessRehearsal t i
      = (b.praises t i).enter t ((b.channel t).timedStill v h) := by
    rw [free.updHead_enter]
    exact praises_enter b t _ i
  dsimp only [State.firstTiming]
  rw [free.alone.findHead]
  dsimp only
  rw [timed, sensor', anchored, if_neg (by simp [Channel.timedStill, flags.1])]
  exact State.Free.closeTest_startPlan (g := (b.channel t).timedStill v h) free' (by rw [praised]; exact running)
    ⟨flags.2.2, flags.2.1⟩

/-! ## A head that closes MISSED at once (R63, R72) -/

/-- The last of the list closes MISSED: its record is given in turn, and its entries go. -/
theorem State.Free.closeHead_missed (free : b.Free t g.index) (order : Detected (b.offeredOf t))
    (room : b.store.records.length < 32) :
    let u := (b.enter t g).closeHead t g.index .missedAtFirstTiming
    ∃ given, b.InTurn u t [given] (u.offeredOf t) [] ∧ given.IsOf (b.channel t).passage g .missed
      ∧ u.channel t = { b.channel t with passage := (b.channel t).passage.countClosed .missed }
      ∧ u.health = b.health ∧ u.cameras = b.cameras ∧ u.strobes = b.strobes
      ∧ u.timeline = b.timeline.filter fun e => !(e.track == t && e.index == g.index) := by
  intro u
  obtain ⟨w, record⟩ : ∃ w, (b.enter t g).recordOf t .missedAtFirstTiming g = w := ⟨_, rfl⟩
  obtain ⟨left, leaves⟩ : ∃ left, ((b.enter t g).dropEntry t g.index).updChannel t
    (fun c => c.closedHead .missedAtFirstTiming g) = left := ⟨_, rfl⟩
  have closes : u = left.offerInOrder (ofTrack t w) := by
    rw [← leaves, ← record]
    exact closeHead_eq free.alone.findHead
  have isOf : w.IsOf (b.channel t).passage g .missed := by
    have isOf := recordOf_isOf (b.enter t g) t (cause := .missedAtFirstTiming) (by simp) g
    rwa [record, enter_channel] at isOf
  have channel : left.channel t = { b.channel t with passage := (b.channel t).passage.countClosed .missed } := by
    have others : ((b.channel t).heads ++ [g]).filter (fun x => x.index != g.index) = (b.channel t).heads := by
      rw [List.filter_append, List.filter_eq_self.mpr fun x mem => by simpa using free x mem]
      simp
    have entered : ((b.enter t g).dropEntry t g.index).channel t
        = { b.channel t with heads := (b.channel t).heads ++ [g] } := enter_channel b t g
    rw [← leaves, State.updChannel_same, entered, Channel.closedHead, Channel.removeHead, others]
    rfl
  have store : left.store = b.store := by rw [← leaves]; rfl
  have inTurn := offerInOrder_inTurn (s := left) (t := t) (by rw [State.offeredOf, store]; exact order) (by rwa [store]) w
  rw [← closes] at inTurn
  obtain ⟨number, next, attention, offers⟩ := offerInOrder_room (s := left) (by rwa [store]) t w
  rw [← closes] at offers
  have frame : u.channels = left.channels ∧ u.health = b.health ∧ u.cameras = b.cameras ∧ u.strobes = b.strobes
      ∧ u.timeline = b.timeline.filter fun e => !(e.track == t && e.index == g.index) := by
    rw [offers, ← leaves]
    exact ⟨rfl, rfl, rfl, rfl, rfl⟩
  obtain ⟨channels, frame⟩ := frame
  refine ⟨w, inTurn.congr ?_ ⟨rfl, rfl⟩, isOf, (State.channel_eq channels t).trans channel, frame⟩
  rw [← leaves]
  exact ⟨rfl, rfl, rfl, rfl⟩

/-! ## The blocked end of a valid interval -/

/-- The state as a head enters: it is accepted, which is a good event of its detector (R60, R62). -/
def State.welcoming (s : State) (t : TrackId) (d : Detector) : State := (s.accepting t d).praises t (detectorIndex t d)

/-- The head of an interval that ends now (R60). -/
def State.newcomer (s : State) (t : TrackId) (start : LocalTime) : Head :=
  newHead ((s.channel t).passage.lastIndex + 1) start (span start s.localTime)

theorem welcoming_channel (s : State) (t : TrackId) (d : Detector) :
    (s.welcoming t d).channel t = (s.accepting t d).channel t := State.channel_eq (praises_channels _ t _) t

theorem welcoming_keeps (s : State) (t : TrackId) (d : Detector) : (s.welcoming t d).timeline = s.timeline
    ∧ (s.welcoming t d).store = s.store ∧ (s.welcoming t d).link = s.link ∧ (s.welcoming t d).ticks = s.ticks
    ∧ (s.welcoming t d).localTime = s.localTime ∧ (s.welcoming t d).bindings = s.bindings
    ∧ (s.welcoming t d).plans = s.plans ∧ (s.welcoming t d).cameras = s.cameras
    ∧ (s.welcoming t d).strobes = s.strobes := by
  rw [State.welcoming, praises_faults]
  exact ⟨rfl, rfl, rfl, rfl, rfl, rfl, rfl, rfl, rfl⟩

theorem welcoming_binding (s : State) (t : TrackId) (d : Detector) :
    (s.welcoming t d).binding t ((s.welcoming t d).channel t).passage.direction
      = s.binding t (s.channel t).passage.direction := by
  obtain ⟨-, -, -, -, -, bindings, -⟩ := welcoming_keeps s t d
  rw [welcoming_channel, accepting_channel, State.binding, bindings]
  rfl

section

variable (due : s.DetectorRunsOut t d true) (tracking : (s.channel t).Tracking)
  (approach : d = approachDetector (s.channel t).passage.direction)
  (opened : (s.channel t).passage.approachOpen = some start) (room : (s.channel t).heads.length < 8)
  (last : (s.channel t).passage.lastIndex + 1 ≤ 255)
  (apart : ∀ h ∈ (s.channel t).heads, h.index ≠ (s.channel t).passage.lastIndex + 1)
  (long : (s.channel t).lengthMin ≤ v * span start s.localTime / 1000000)
  (short : v * span start s.localTime / 1000000 ≤ (s.channel t).lengthMax)

include apart in
theorem accepting_free : (s.accepting t d).Free t (s.newcomer t start).index :=
  State.Free.congr (s := s) apart (by rw [accepting_channel])

include apart in
theorem welcoming_free : (s.welcoming t d).Free t (s.newcomer t start).index :=
  (accepting_free apart).congr (by rw [welcoming_channel])

include due tracking approach opened room last apart long short

theorem blockedEnd_fresh (fresh : (s.channel t).speed = .fresh v) (fast : 0 < v)
    (far : 0 < (s.channel t).frame.approachDistance) :
    let k := (s.channel t).gauge t v s.localTime
    let new := s.newcomer t start
    (after (k.crossing new) s.localTime = true → after (k.departure new) s.localTime = true) →
    Completes (.blockedEnd t d) s (if after (k.crossing new) s.localTime then
        ((s.welcoming t d).enter t (k.timed new)).startPlan t new.index
      else ((s.welcoming t d).enter t (k.timed new)).closeHead t new.index .missedAtFirstTiming) := by
  intro k new timely
  have times := blockedEnd_times due tracking approach opened room last (by rw [fresh]; rfl) long short
  have fits : k.Fits t (s.accepting t d) := accepting_fits tracking fresh d
  subst approach
  exact times.trans (congrArg Host.Outcome.next
    (fits.firstTiming_enter far fast (h := new) (accepting_free apart) ⟨rfl, rfl, rfl⟩ timely))

theorem blockedEnd_stale (stale : (s.channel t).speed = .stale v) :
    Completes (.blockedEnd t d) s
      (((s.welcoming t d).enter t ((s.channel t).timedStill v (s.newcomer t start))).startPlan t
        (s.newcomer t start).index) := by
  have times := blockedEnd_times due tracking approach opened room last (by rw [stale]; rfl) long short
  have closing : (s.channel t).closing = false := by simp [Channel.closing, tracking.1.2]
  have running : ((s.accepting t d).channel t).closing = false := by
    rw [accepting_channel]
    exact closing
  have still : ((s.accepting t d).channel t).speed = .stale v := by
    rw [accepting_channel]
    exact stale
  have sensor : detectorIndex t (approachDetector ((s.accepting t d).channel t).passage.direction) = detectorIndex t d := by
    rw [accepting_channel, approach]
  have stands : ((s.accepting t d).channel t).timedStill v (s.newcomer t start)
      = (s.channel t).timedStill v (s.newcomer t start) := by
    rw [accepting_channel]
    rfl
  have timed := (accepting_free (d := d) (start := start) apart).firstTiming_stale running still ⟨rfl, rfl, rfl⟩ sensor
  rw [stands] at timed
  exact times.trans (congrArg Host.Outcome.next timed)

end

/-- The due time of a position, at the speed of an anchor that stands at the approach detector (R50, R53). -/
theorem Anchor.dueAt_behind {distance : Nat} (fast : 0 < v) :
    Anchor.dueAt { time := start, position := -((distance * 1000 : Nat) : Int), speed := v } x
      = some (if x * 1000 + distance * 1000 ≤ 0 then start
        else later start (ceilDiv ((x * 1000 + distance * 1000).toNat * 1000) v)) := by
  have way : x * 1000 - -((distance * 1000 : Nat) : Int) = x * 1000 + distance * 1000 := by omega
  rw [Anchor.dueAt, Anchor.reaches, if_neg (Nat.ne_of_gt fast), way]
  exact (apply_ite some _ _ _).symm

/-- Settles O34: the head enters, is timed, and is handed to its plan, whose first AT wait takes it, or closes MISSED. -/
theorem validIntervalIsTimed : Obligations.ValidIntervalIsTimed := by
  intro s t d start v c w index distance q crossing departure anchor base timed b handed moving due tracking approach opened
    room last apart long short fast far
  have keeps := welcoming_keeps s t d
  rw [show s.welcoming t d = base from rfl] at keeps
  have free : base.Free t index := welcoming_free (start := start) apart
  have binding : base.binding t (base.channel t).passage.direction = b := welcoming_binding s t d
  obtain ⟨timeline, store, link, ticks, localTime, bindings, plans, cameras, strobes⟩ := keeps
  have fresh (speed : c.speed = .fresh v) :=
    blockedEnd_fresh due tracking approach opened room last apart long short speed fast far
  have ahead (speed : c.speed = .fresh v) (cross : after crossing s.localTime = true)
      (depart : after departure s.localTime = true) :
      Completes (.blockedEnd t d) s ((handed moving).startPlan t index) :=
    (fresh speed fun _ => depart).trans (congrArg Host.Outcome.next (if_pos cross))
  have stale (speed : c.speed = .stale v) :
      Completes (.blockedEnd t d) s ((handed { timed with anchor := some (anchor 0) }).startPlan t index) :=
    blockedEnd_stale due tracking approach opened room last apart long short speed
  have onPlan (p : Fin 4) (h : Head) :
      base.onPlan t p h = { h with cursor := some { plan := p, tolerance := b.tolerance, step := 0 } } := by
    rw [State.onPlan, binding]
  have planned (p : Fin 4) : base.plans[p] = s.plans[p] := congrArg (fun plans => plans[p]) plans
  have channel : base.channel t = (s.accepting t d).channel t := welcoming_channel s t d
  rw [accepting_channel] at channel
  refine ⟨fun speed cross depart none => ?_, fun speed none => ?_,
    fun p bound => ⟨fun speed cross depart => ⟨ahead speed cross depart, fun x rest plan reach => ?_⟩,
      fun speed => ⟨stale speed, fun x rest plan => ?_⟩⟩, fun speed passed inOrder space => ?_⟩
  · exact (ahead speed cross depart).trans (congrArg Host.Outcome.next
      (State.Free.startPlan_unbound (g := { moving with status := .untimed }) free (by rw [binding]; exact none)))
  · exact (stale speed).trans (congrArg Host.Outcome.next
      (State.Free.startPlan_unbound (g := { timed with anchor := some (anchor 0), status := .untimed }) free
        (by rw [binding]; exact none)))
  · obtain ⟨l, placed, handed⟩ := State.Free.startPlan_ahead (g := { moving with status := .untimed }) free
      (by rw [binding]; exact bound) ((planned p).trans plan) (Anchor.dueAt_behind fast) (by rw [localTime]; exact reach)
    rw [onPlan] at handed
    rw [channel, timeline] at placed
    exact ⟨_, l, (ahead speed cross depart).trans (congrArg Host.Outcome.next handed), rfl, placed⟩
  · have held := State.Free.startPlan_held (g := { timed with anchor := some (anchor 0), status := .untimed }) free
      (by rw [binding]; exact bound) ((planned p).trans plan) rfl
    rw [onPlan] at held
    exact (stale speed).trans (congrArg Host.Outcome.next held)
  · obtain ⟨given, inTurn, isOf, left, health, cameras', strobes', entries⟩ :=
      State.Free.closeHead_missed (g := (c.gauge t v s.localTime).timed (s.newcomer t start)) free
        (by rw [State.offeredOf, store]; exact inOrder.2.1) (by rw [store]; exact space)
    rw [channel] at isOf left
    have late : ¬after crossing s.localTime = true := Bool.eq_false_iff.mp passed
    exact ⟨_, given, _, (fresh speed fun cross => absurd cross late).trans (congrArg Host.Outcome.next (if_neg late)),
      inTurn.congr ⟨store.symm, link.symm, ticks.symm, localTime.symm⟩ ⟨rfl, rfl⟩, rfl, isOf,
      (congrArg Channel.heads left :), (congrArg (fun x => x.passage.accepted) left :),
      (congrArg (fun x => x.passage.missed) left :), health,
      cameras'.trans cameras, strobes'.trans strobes,
      entries.trans (congrArg (List.filter fun e => !(e.track == t && e.index == index)) timeline)⟩

end Sys2Proof.Machine
end

section
/-! Proofs: the records of the store, as they are sent, fetched and released (O46). -/

namespace Sys2Proof.Machine

variable {s : State} {bytes : List Byte}

/-! ## Bytes that are laid out row by row (R186) -/

/-- A row of a layout: an offset, a size and the number that stands there. -/
abbrev Row := Nat × Nat × Nat

/-- The bytes of rows, one row behind another. -/
def rowBytes (rows : List Row) : List Byte := rows.flatMap fun row => toBytes row.2.1 row.2.2

/-- The bytes that rows take. -/
def rowSize (rows : List Row) : Nat := (rows.map fun row => row.2.1).sum

/-- Each row stands where the one before it ends, the first at an offset. -/
def consecutive : Nat → List Row → Bool
  | _, [] => true
  | offset, row :: rest => row.1 == offset && consecutive (offset + row.2.1) rest

theorem rowBytes_cons (row : Row) (rest : List Row) :
    rowBytes (row :: rest) = toBytes row.2.1 row.2.2 ++ rowBytes rest := List.flatMap_cons

theorem length_rowBytes (rows : List Row) : (rowBytes rows).length = rowSize rows := by
  simp [rowBytes, rowSize, List.length_flatMap]

/-- The bytes of consecutive rows hold each of them. -/
theorem field_rowBytes {rows : List Row} {offset : Nat} (inTurn : consecutive offset rows = true) {row : Row}
    (mem : row ∈ rows) : ∃ behind, row.1 = offset + behind ∧ behind + row.2.1 ≤ rowSize rows
      ∧ field (rowBytes rows) behind row.2.1 = row.2.2 % 256 ^ row.2.1 := by
  induction rows generalizing offset with
  | nil => simp at mem
  | cons first rest ih =>
    obtain ⟨here, later⟩ := Bool.and_eq_true_iff.mp inTurn
    have size : rowSize (first :: rest) = first.2.1 + rowSize rest := by simp [rowSize]
    rcases List.mem_cons.mp mem with rfl | mem
    · exact ⟨0, by simpa using here, by omega, field_toBytes _ _ _⟩
    · obtain ⟨behind, place, fits, spelled⟩ := ih later mem
      refine ⟨first.2.1 + behind, by omega, by omega, ?_⟩
      rw [rowBytes_cons, field_behind _ (by simp), length_toBytes, Nat.add_sub_cancel_left, spelled]

/-- Bytes hold consecutive rows that stand in them from the base on. -/
theorem spells_rowBytes {rows : List Row} (inTurn : consecutive 0 rows = true) (ahead behind : List Byte) :
    Spells (ahead ++ rowBytes rows ++ behind) ahead.length rows := by
  intro row mem
  obtain ⟨offset, place, fits, spelled⟩ := field_rowBytes inTurn mem
  rw [List.append_assoc, field_behind _ (by omega), field_within (by rw [length_rowBytes]; omega), ← spelled]
  congr 1
  omega

/-- Bytes hold the rows of the `i`th of equally long entries that stand in them from a base on. -/
theorem spells_entry {α : Type} {rows : α → List Row} {size : Nat} (inTurn : ∀ x, consecutive 0 (rows x) = true)
    (fits : ∀ x, rowSize (rows x) = size) (ahead behind : List Byte) (l : List α) (i : Nat) (inside : i < l.length) :
    Spells (ahead ++ l.flatMap (fun x => rowBytes (rows x)) ++ behind) (ahead.length + size * i) (rows l[i]) := by
  have length (l : List α) : (l.flatMap fun x => rowBytes (rows x)).length = size * l.length :=
    length_flatMap_bytes (fun x => (length_rowBytes _).trans (fits x)) l
  have split : l.flatMap (fun x => rowBytes (rows x)) = (l.take i).flatMap (fun x => rowBytes (rows x))
      ++ rowBytes (rows l[i]) ++ (l.drop (i + 1)).flatMap fun x => rowBytes (rows x) := by
    conv_lhs => rw [← List.take_append_drop i l, List.drop_eq_getElem_cons inside, List.flatMap_append, List.flatMap_cons]
    rw [List.append_assoc]
  have place : (ahead ++ (l.take i).flatMap fun x => rowBytes (rows x)).length = ahead.length + size * i := by
    rw [List.length_append, length, List.length_take, Nat.min_eq_left (Nat.le_of_lt inside)]
  rw [← place, split]
  simpa only [List.append_assoc] using spells_rowBytes (inTurn l[i]) (ahead ++ (l.take i).flatMap fun x => rowBytes (rows x))
    ((l.drop (i + 1)).flatMap (fun x => rowBytes (rows x)) ++ behind)

/-! ## The layouts of the records (R74, R186) -/

/-- The rows of a record header. -/
def Record.headerRows (r : Record) : List Row :=
  [(0, 2, r.number), (2, 1, r.body.kindCode), (3, 1, trackCode r.track), (4, 6, r.stored.toNat), (10, 1, flagAt r.displaced 0)]

/-- The rows of a shot entry. -/
def Shot.rows (x : Shot) : List Row :=
  [(0, 1, x.step), (1, 1, x.camera.val), (2, 1, (x.strobe.map (·.val)).getD 0),
   (3, 1, flagAt x.strobe.isSome 0 + flagAt x.start.isSome 1 + flagAt x.exposure.isSome 2 + flagAt x.unlit.isSome 3),
   (4, 1, x.outcome.code), (5, 1, (x.unlit.map UnlitReason.code).getD 0), (6, 1, x.confirmation.code),
   (7, 1, flagAt x.clamped 0 + flagAt x.flashCut 1), (8, 6, x.due.toNat), (14, 2, (x.start.map (span x.due)).getD 0),
   (16, 2, x.exposure.getD 0)]

/-- The rows of a mark entry. -/
def Mark.rows (m : Mark) : List Row := [(0, 1, m.step), (1, 6, m.instant.toNat)]

/-- The rows of a HEAD record behind its header, ahead of its shots and marks. -/
def HeadRecord.rows (h : HeadRecord) (displaced : Bool) : List Row :=
  [(0, 2, h.passage), (2, 1, h.index), (3, 1, directionCode h.direction), (4, 1, h.status.code),
   (5, 1, flagAt h.length.isSome 0 + flagAt h.firstSpeed.isSome 1 + flagAt h.predicted.isSome 2
      + flagAt h.observed.isSome 3 + flagAt h.error.isSome 4),
   (6, 1, flagAt h.speedHeld 0 + flagAt h.rehearsal 1 + flagAt h.overspeed 2 + flagAt displaced 3),
   (7, 1, flagAt h.confirmed 0), (8, 6, h.detected.toNat), (14, 4, h.duration), (18, 2, h.length.getD 0),
   (20, 4, h.firstSpeed.getD 0), (24, 6, (h.predicted.getD 0#48).toNat), (30, 6, (h.observed.getD 0#48).toNat),
   (36, 4, (h.error.getD 0 % 4294967296).toNat), (40, 1, h.shots.length), (41, 1, h.marks.length)]

/-- The rows of a PASSAGE record behind its header. -/
def PassageRecord.rows (p : PassageRecord) : List Row :=
  [(0, 2, p.number), (2, 1, directionCode p.direction), (3, 1, p.outcome.code),
   (4, 1, flagAt p.rehearsal 0 + flagAt p.overspeed 1), (5, 1, flagAt p.agreed.isSome 0 + flagAt p.estimates.isSome 1),
   (6, 6, p.opened.toNat), (12, 6, p.closed.toNat),
   (18, 2, p.counts.wao), (20, 2, p.counts.wai), (22, 2, p.counts.wbi), (24, 2, p.counts.wbo),
   (26, 2, p.agreed.getD 0), (28, 1, p.accepted), (29, 1, p.rejected), (30, 1, p.dropped), (31, 1, p.captured),
   (32, 1, p.missed), (33, 4, (p.estimates.map (·.1)).getD 0), (37, 4, (p.estimates.map (·.2)).getD 0),
   (41, 1, p.approach.code), (42, 1, p.departure.code), (43, 1, p.lost)]

theorem boolByte_flag (a : Bool) : boolByte a = BitVec.ofNat 8 (flagAt a 0) := by cases a <;> rfl

theorem packBits_two (a b : Bool) : packBits [a, b] = BitVec.ofNat 8 (flagAt a 0 + flagAt b 1) := by
  revert a b
  decide

theorem packBits_four (a b c d : Bool) :
    packBits [a, b, c, d] = BitVec.ofNat 8 (flagAt a 0 + flagAt b 1 + flagAt c 2 + flagAt d 3) := by
  revert a b c d
  decide

theorem packBits_flags (a b c d e : Bool) :
    packBits [a, b, c, d, e] = BitVec.ofNat 8 (flagAt a 0 + flagAt b 1 + flagAt c 2 + flagAt d 3 + flagAt e 4) := by
  revert a b c d e
  decide

theorem Shot.bytes_eq (x : Shot) : x.bytes = rowBytes x.rows := by
  rw [Shot.bytes, packBits_four, packBits_two]
  rfl

theorem Mark.bytes_eq (m : Mark) : m.bytes = rowBytes m.rows := rfl

theorem HeadRecord.bytes_eq (h : HeadRecord) (displaced : Bool) :
    h.bytes displaced = rowBytes (h.rows displaced) ++ h.shots.flatMap Shot.bytes ++ h.marks.flatMap Mark.bytes := by
  rw [HeadRecord.bytes, packBits_flags, packBits_four, boolByte_flag]
  rfl

theorem PassageRecord.bytes_eq (p : PassageRecord) : p.bytes = rowBytes p.rows := by
  rw [PassageRecord.bytes, packBits_two, packBits_two]
  rfl

/-! ## The bytes of a record -/

/-- What follows the header of a record. -/
def Record.bodyBytes (r : Record) : List Byte :=
  match r.body with
  | .head h => h.bytes r.displaced
  | .passage p => p.bytes

theorem Record.bytes_eq (r : Record) : r.bytes = rowBytes r.headerRows ++ r.bodyBytes := by
  rw [Record.bytes, boolByte_flag]
  rfl

theorem Record.spellsHeader (r : Record) : SpellsHeader r.bytes r r.body.kindCode := by
  rw [r.bytes_eq]
  exact spells_rowBytes (rows := r.headerRows) rfl [] r.bodyBytes

theorem Record.spellsHead {r : Record} {h : HeadRecord} (body : r.body = .head h) :
    r.bytes.length = 53 + 18 * h.shots.length + 7 * h.marks.length ∧ SpellsHead r.bytes h r.displaced := by
  have parts : r.bytes = rowBytes r.headerRows ++ rowBytes (h.rows r.displaced)
      ++ h.shots.flatMap (fun x => rowBytes x.rows) ++ h.marks.flatMap (fun m => rowBytes m.rows) := by
    rw [r.bytes_eq, Record.bodyBytes, body]
    simp only [h.bytes_eq, List.append_assoc, ← Shot.bytes_eq, ← Mark.bytes_eq]
  have fixed : (rowBytes r.headerRows ++ rowBytes (h.rows r.displaced)).length = 53 := by
    simp [length_rowBytes, rowSize, Record.headerRows, HeadRecord.rows]
  have shots : (h.shots.flatMap fun x => rowBytes x.rows).length = 18 * h.shots.length :=
    length_flatMap_bytes (fun x => length_rowBytes x.rows) h.shots
  have marks : (h.marks.flatMap fun m => rowBytes m.rows).length = 7 * h.marks.length :=
    length_flatMap_bytes (fun m => length_rowBytes m.rows) h.marks
  rw [parts]
  refine ⟨by rw [List.length_append, List.length_append, fixed, shots, marks], ?_, fun i inside => ?_, fun i inside => ?_⟩
  · have spelled := spells_rowBytes (rows := h.rows r.displaced) rfl (rowBytes r.headerRows)
      (h.shots.flatMap (fun x => rowBytes x.rows) ++ h.marks.flatMap fun m => rowBytes m.rows)
    rwa [← List.append_assoc] at spelled
  · have spelled := spells_entry (rows := Shot.rows) (size := 18) (fun _ => rfl) (fun _ => rfl)
      (rowBytes r.headerRows ++ rowBytes (h.rows r.displaced)) (h.marks.flatMap fun m => rowBytes m.rows) h.shots i inside
    rwa [fixed] at spelled
  · have spelled := spells_entry (rows := Mark.rows) (size := 7) (fun _ => rfl) (fun _ => rfl)
      (rowBytes r.headerRows ++ rowBytes (h.rows r.displaced) ++ h.shots.flatMap fun x => rowBytes x.rows) [] h.marks i inside
    rwa [List.append_nil, List.length_append, fixed, shots] at spelled

theorem Record.spellsPassage {r : Record} {p : PassageRecord} (body : r.body = .passage p) :
    r.bytes.length = 55 ∧ SpellsPassage r.bytes p := by
  have parts : r.bytes = rowBytes r.headerRows ++ rowBytes p.rows := by
    rw [r.bytes_eq, Record.bodyBytes, body]
    simp only [p.bytes_eq]
  have spelled := spells_rowBytes (rows := p.rows) rfl (rowBytes r.headerRows) []
  rw [List.append_nil, ← parts] at spelled
  refine ⟨?_, spelled⟩
  rw [parts, List.length_append, length_rowBytes, length_rowBytes]
  simp [rowSize, Record.headerRows, PassageRecord.rows]

/-! ## Fetching and releasing (R170, R171) -/

/-- Of records with different numbers, the release of a number takes the one that carries it. -/
theorem release_at {st : Store} {ahead behind : List Record} {record : Record} (held : st.records = ahead ++ record :: behind)
    (different : (st.records.map fun r => r.number).Nodup) :
    st.release record.number = { st with records := ahead ++ behind } := by
  rw [held, List.map_append, List.map_cons, List.nodup_middle, List.nodup_cons, ← List.map_append] at different
  have others (r : Record) (mem : r ∈ ahead ++ behind) : (r.number != record.number) = true :=
    bne_iff_ne.mpr fun same => different.1 (List.mem_map.mpr ⟨r, mem, same⟩)
  have left : st.records.filter (fun r => r.number != record.number) = ahead ++ behind := by
    rw [held, List.filter_append, List.filter_cons_of_neg (by simp), ← List.filter_append, List.filter_eq_self.mpr others]
  rw [Store.release, left]

theorem handleReleaseRecord_held {body : List Byte} {r : Record} (some : field body 0 2 ≠ 0) (mem : r ∈ s.store.records)
    (number : r.number = field body 0 2) :
    handleReleaseRecord body s = accept { s with store := s.store.release (field body 0 2) } [] := by
  have found : (s.store.records.any fun r => r.number == field body 0 2) = true :=
    List.any_eq_true.mpr ⟨r, mem, by simpa using number⟩
  simp only [handleReleaseRecord, if_neg some, found, if_true]

theorem handleReleaseRecord_none {body : List Byte} (some : field body 0 2 ≠ 0)
    (none : ∀ r ∈ s.store.records, r.number ≠ field body 0 2) : handleReleaseRecord body s = refuse s .notFound := by
  have found : (s.store.records.any fun r => r.number == field body 0 2) = false :=
    List.any_eq_false.mpr fun r mem => by simpa using none r mem
  simp only [handleReleaseRecord, if_neg some, found, Bool.false_eq_true, if_false]

/-- Settles O46: a record is its rows, one behind another, and the two requests look at the store alone. -/
theorem recordsAreFetchedAndReleased : Obligations.RecordsAreFetchedAndReleased := by
  refine ⟨fun r => ⟨fun h body => ?_, fun p body => ?_⟩, by decide, fun s idle =>
    ⟨fun empty => ?_, fun oldest rest held => ?_, fun body length => ⟨fun zero => ?_, fun some none => ?_,
      fun ahead record behind some held number different => ?_⟩⟩⟩
  · obtain ⟨length, spelled⟩ := Record.spellsHead body
    have header := r.spellsHeader
    rw [body] at header
    exact ⟨length, header, spelled⟩
  · obtain ⟨length, spelled⟩ := Record.spellsPassage body
    have header := r.spellsHeader
    rw [body] at header
    exact ⟨length, header, spelled⟩
  · refine answers_of_handle idle (by simp) rfl (by simp) ?_ rfl
    change handleFetchRecord [] s = _
    rw [handleFetchRecord, empty]
    rfl
  · refine answers_of_handle idle (by simp) rfl (by simp) ?_ rfl
    change handleFetchRecord [] s = _
    rw [handleFetchRecord, held]
    rfl
  · exact answers_of_handle idle (by omega) length (by simp) (if_pos zero) rfl
  · exact answers_of_handle idle (by omega) length (by simp) (handleReleaseRecord_none some none) rfl
  · refine answers_of_handle idle (by omega) length (by simp) ?_ rfl
    refine (handleReleaseRecord_held some (held ▸ List.mem_append_right ahead List.mem_cons_self) number).trans ?_
    rw [← number, release_at held different]
    rfl

end Sys2Proof.Machine
end

section
/-! Proofs: blocked ends, and the intervals that they judge (O33). -/

namespace Sys2Proof.Machine

variable {s : State} {t : TrackId} {d : Detector} {start : LocalTime} {v : Nat}

/-! ## A detector whose count runs out (R57) -/

theorem settled_channel (s : State) (t : TrackId) (d : Detector) (blocked : Bool) : (s.settled t d blocked).channel t
    = { s.channel t with
        detectors := (s.channel t).detectors.set d
          { (s.channel t).detectors.get d with blocked := blocked, count := none } } := State.updChannel_same s t _

/-- A detector whose count runs on is not due (log entry 3). -/
theorem detectorDue_early (early : ∀ n, ((s.channel t).detectors.get d).count = some n → s.ticks < n) :
    s.detectorDue t d = false := by
  have runs : timerDue ((s.channel t).detectors.get d).count s.ticks = false := by
    unfold timerDue
    split
    · next n count => simpa using early n count
    · rfl
  simp [State.detectorDue, runs]

theorem blockedEnd_disposes (due : s.DetectorRunsOut t d true) :
    Completes (.blockedEnd t d) s ((s.settled t d false).disposeEnd t d) := by
  obtain ⟨runs, blocked⟩ := DetectorRunsOut.due due
  exact congrArg Host.Outcome.next (if_pos (by rw [runs, blocked]; rfl))

theorem blockedEnd_early (early : ∀ n, ((s.channel t).detectors.get d).count = some n → s.ticks < n) :
    Completes (.blockedEnd t d) s s :=
  congrArg Host.Outcome.next (if_neg (by rw [detectorDue_early early]; simp))

/-! ## What a blocked end does (R58) -/

theorem disposeEnd_ignored
    (idle : ¬((s.channel t).Tracking ∧ d = approachDetector (s.channel t).passage.direction)
      ∨ (s.channel t).passage.approachOpen = none) : s.disposeEnd t d = s := by
  have judges : ((s.channel t).tracking && decide (d = approachDetector (s.channel t).passage.direction)) = true
      ↔ (s.channel t).Tracking ∧ d = approachDetector (s.channel t).passage.direction := by
    rw [Bool.and_eq_true, Channel.tracking_iff, decide_eq_true_eq]
  rw [State.disposeEnd]
  rcases idle with away | none
  · exact if_neg (mt judges.mp away)
  · rw [none]
    exact ite_self s

/-- The state as an approach interval is closed. -/
def State.intervalClosed (s : State) (t : TrackId) : State := s.updPassage t fun p => { p with approachOpen := none }

theorem intervalClosed_channel (s : State) (t : TrackId) : (s.intervalClosed t).channel t
    = { s.channel t with passage := { (s.channel t).passage with approachOpen := none } } := State.updChannel_same s t _

theorem disposeEnd_judged (tracking : (s.channel t).Tracking) (approach : d = approachDetector (s.channel t).passage.direction)
    (opened : (s.channel t).passage.approachOpen = some start) :
    s.disposeEnd t d = (s.intervalClosed t).judgeInterval t start := by
  rw [State.disposeEnd]
  rw [if_pos (by rw [Channel.tracking_iff.mpr tracking]; simpa using approach), opened]
  rfl

/-! ## The judgement of an interval (R59 to R61) -/

/-- The length of an interval that ends now lies within the limits, or there is no estimate to judge it by (R59). -/
def State.Fitting (s : State) (t : TrackId) (start : LocalTime) : Prop :=
  ∀ v, (s.channel t).speed.estimate = some v → (s.channel t).lengthMin ≤ v * span start s.localTime / 1000000
    ∧ v * span start s.localTime / 1000000 ≤ (s.channel t).lengthMax

theorem lengthValid_lengthOf (c : Channel) (v w : Nat) :
    c.lengthValid (lengthOf v w) = true ↔ c.lengthMin ≤ v * w / 1000000 ∧ v * w / 1000000 ≤ c.lengthMax := inRange_iff

theorem judgeInterval_rejected (unfit : ¬s.Fitting t start) : s.judgeInterval t start = s.rejectInterval t := by
  rw [State.Fitting] at unfit
  push Not at unfit
  obtain ⟨v, estimate, outside⟩ := unfit
  have invalid : (s.channel t).lengthValid (lengthOf v (span start s.localTime)) = false :=
    Bool.eq_false_iff.mpr fun valid =>
      have ⟨long, short⟩ := (lengthValid_lengthOf _ _ _).mp valid
      Nat.not_lt.mpr short (outside long)
  simp only [State.judgeInterval, estimate, invalid, Bool.not_false, if_true]

theorem judgeInterval_dropped (fits : s.Fitting t start)
    (barred : ((s.channel t).listFull || (s.channel t).indicesExhausted) = true) :
    s.judgeInterval t start = s.dropInterval t := by
  rw [State.judgeInterval]
  split
  · next v estimate =>
    have valid := (lengthValid_lengthOf (s.channel t) v (span start s.localTime)).mpr (fits v estimate)
    rw [if_neg (by simp [valid]), if_pos barred]
  · exact if_pos barred

theorem judgeInterval_untimed (absent : (s.channel t).speed = .absent) (room : (s.channel t).listFull = false)
    (indices : (s.channel t).indicesExhausted = false) :
    s.judgeInterval t start = s.updChannel t fun c => c.enterHead start (span start s.localTime) := by
  have none : (s.channel t).speed.estimate = none := by rw [absent]; rfl
  simp only [State.judgeInterval, none, room, indices, Bool.or_false, Bool.false_eq_true, if_false]

/-- A fault event of the approach detector, after an update that leaves the direction of the passage (R75). -/
theorem approachFault_updPassage (approach : d = approachDetector (s.channel t).passage.direction) {f : Passage → Passage}
    (direction : ∀ p, (f p).direction = p.direction) :
    (s.updPassage t f).approachFault t = (s.updPassage t f).reports t (detectorIndex t d) := by
  have same : ((s.updPassage t f).channel t).passage.direction = (s.channel t).passage.direction := by
    rw [State.updPassage, State.updChannel_same, direction]
  rw [State.approachFault, same, ← approach]
  rfl

theorem rejectInterval_eq (approach : d = approachDetector (s.channel t).passage.direction) : s.rejectInterval t
    = (s.updPassage t fun p => { p with rejected := satSucc 255 p.rejected }).reports t (detectorIndex t d) :=
  approachFault_updPassage approach fun _ => rfl

theorem dropInterval_full (approach : d = approachDetector (s.channel t).passage.direction)
    (full : (s.channel t).listFull = true) : s.dropInterval t
      = (s.updPassage t fun p => { p with dropped := satSucc 255 p.dropped }).reports t (detectorIndex t d) :=
  (if_pos full).trans (approachFault_updPassage approach fun _ => rfl)

theorem dropInterval_exhausted (room : (s.channel t).listFull = false) :
    s.dropInterval t = s.updPassage t fun p => { p with dropped := satSucc 255 p.dropped } := if_neg (by simp [room])

theorem updPassage_updPassage (s : State) (t : TrackId) (f g : Passage → Passage) :
    (s.updPassage t f).updPassage t g = s.updPassage t fun p => g (f p) := State.updChannel_updChannel s t _ _

/-- Settles O33: the detector settles, and the interval that it closes is judged by its length, the list and the indices. -/
theorem blockedEndIsJudged : Obligations.BlockedEndIsJudged := by
  intro s t d c sensor settled judged
  refine ⟨fun due => ⟨fun idle => ?_, ?_⟩, blockedEnd_early⟩
  · refine (blockedEnd_disposes due).trans (congrArg Host.Outcome.next (disposeEnd_ignored ?_))
    rw [settled_channel]
    exact idle
  · rintro ⟨tracking, approach⟩ start opened w valid
    obtain ⟨closed, closes⟩ : ∃ closed, settled.intervalClosed t = closed := ⟨_, rfl⟩
    have channel : closed.channel t = { settled.channel t with passage := { c.passage with approachOpen := none } } := by
      rw [← closes, intervalClosed_channel, settled_channel]
    rw [settled_channel] at channel
    have time : closed.localTime = s.localTime := by rw [← closes]; rfl
    have fitting : closed.Fitting t start ↔ valid := by rw [State.Fitting, channel, time]
    have direction : d = approachDetector (closed.channel t).passage.direction := by rw [channel]; exact approach
    have disposed : Completes (.blockedEnd t d) s (closed.judgeInterval t start) := by
      refine (blockedEnd_disposes due).trans (congrArg Host.Outcome.next ?_)
      rw [← closes]
      refine disposeEnd_judged ?_ ?_ ?_ <;> rw [settled_channel]
      · exact tracking
      · exact approach
      · exact opened
    have counts (f : Passage → Passage) : closed.updPassage t f
        = settled.updPassage t fun p => f { p with approachOpen := none } := by
      rw [← closes]
      exact updPassage_updPassage settled t _ f
    have full : (closed.channel t).listFull = decide (8 ≤ c.heads.length) := by rw [channel]; rfl
    have exhausted : (closed.channel t).indicesExhausted = decide (255 ≤ c.passage.lastIndex) := by rw [channel]; rfl
    refine ⟨fun unfit => ?_, fun fits many => ?_, fun fits few last => ?_, fun absent few more => ?_⟩
    · rw [judgeInterval_rejected (mt fitting.mp unfit), rejectInterval_eq direction, counts] at disposed
      exact disposed
    · rw [judgeInterval_dropped (fitting.mpr fits) (by simp [full, many]),
        dropInterval_full direction (by simp [full, many]), counts] at disposed
      exact disposed
    · rw [judgeInterval_dropped (fitting.mpr fits) (by simp [exhausted, last]), dropInterval_exhausted (by simp [full, few]),
        counts] at disposed
      exact disposed
    · rw [judgeInterval_untimed (by rw [channel]; exact absent) (by simp [full, few]) (by simp [exhausted, more]), time,
        ← closes, State.intervalClosed, State.updPassage, State.updChannel_updChannel] at disposed
      exact disposed

end Sys2Proof.Machine
end

section
/-! Proofs: blocked starts, and the departure match (O32). -/

namespace Sys2Proof.Machine

variable {s : State} {t : TrackId} {d : Detector} {h : Head} {ahead behind : List Head} {estimate : Nat}

theorem blockedStart_disposes (due : s.DetectorRunsOut t d false) :
    Completes (.blockedStart t d) s ((s.settled t d true).disposeStart t d) := by
  obtain ⟨runs, clear⟩ := DetectorRunsOut.due due
  exact congrArg Host.Outcome.next (if_pos (by rw [runs, clear]; rfl))

theorem blockedStart_early (early : ∀ n, ((s.channel t).detectors.get d).count = some n → s.ticks < n) :
    Completes (.blockedStart t d) s s :=
  congrArg Host.Outcome.next (if_neg (by rw [detectorDue_early early]; simp))

/-! ## What a blocked start does (R58) -/

theorem disposeStart_untracked (away : ¬(s.channel t).Tracking) : s.disposeStart t d = s :=
  if_pos (by simpa using mt Channel.tracking_iff.mp away)

theorem disposeStart_approach (tracking : (s.channel t).Tracking)
    (approach : d = approachDetector (s.channel t).passage.direction) : s.disposeStart t d
      = if (s.channel t).passage.approachInUse then s.updPassage t fun p => { p with approachOpen := some s.localTime }
        else s :=
  (if_neg (by simp [Channel.tracking_iff.mpr tracking])).trans (if_pos approach)

theorem disposeStart_departure (tracking : (s.channel t).Tracking)
    (departure : d ≠ approachDetector (s.channel t).passage.direction) : s.disposeStart t d
      = if (s.channel t).passage.departureInUse then s.judgeDeparture t else s :=
  (if_neg (by simp [Channel.tracking_iff.mpr tracking])).trans (if_neg departure)

theorem departureDetector_of_ne {direction : Direction} (departure : d ≠ approachDetector direction) :
    departureDetector direction = d := by
  cases direction <;> cases d <;> simp_all [approachDetector, departureDetector]

/-! ## A head that its test closes (R70 to R72) -/

/-- In an open passage a head that may close gives its record in turn, and leaves the list with its entry. -/
theorem closeTest_closes {u : State} (inOrder : s.InOrder t) (room : s.store.records.length < 32)
    (start : u.store = s.store ∧ u.link = s.link ∧ u.ticks = s.ticks ∧ u.localTime = s.localTime)
    (known : ∃ g ∈ (s.channel t).heads, g.index = h.index) (running : (u.channel t).closing = false)
    (found : u.findHead t h.index = some h) (may : u.mayClose t h = true) :
    let v := u.closeTest t h.index
    ∃ given, s.InTurn v t [given] (v.offeredOf t) [] ∧ given.IsOf (u.channel t).passage h h.ordinaryStatus
      ∧ (v.channel t).heads = (u.channel t).heads.filter (fun g => g.index != h.index)
      ∧ v.timeline = u.timeline.filter (fun e => !e.isOf t h.index) ∧ Offers u v := by
  intro v
  have closes : v = u.closeHead t h.index .ordinary := by
    have cause : (u.channel t).closeCause = .ordinary := by simp [Channel.closeCause, running]
    simp only [v, State.closeTest, found, may, if_true, cause]
  obtain ⟨store, link, ticks, time⟩ := start
  obtain ⟨g, mem, index⟩ := known
  have opened : s.Turned u t [] (s.offeredOf t) := (State.Turned.refl inOrder.2.1).congr store link ticks time
  obtain ⟨turned, -⟩ := opened.closeHead (cause := .ordinary) found
    (fun x offered => index ▸ (inOrder.2.2 x offered g mem).symm) (by simpa using room) (by simp)
  have isOf := recordOf_isOf u t (cause := .ordinary) (by simp) h
  rw [finalStatus_ordinary] at isOf
  rw [closes]
  refine ⟨_, turned.offered.symm ▸ turned.inTurn, isOf, closeHead_heads _ _ _ _, ?_, closeHead_offers _ _ _ _⟩
  rw [closeHead_eq found, State.offerInOrder, offer_timeline]
  rfl

/-! ## The departure match (R67 to R69) -/

/-- A head qualifies for a departure blocked start: timed, not confirmed, within the margin of the detector (R67). -/
def Channel.Matches (c : Channel) (now : LocalTime) (h : Head) : Prop :=
  ∃ a, h.anchor = some a ∧ h.confirmed = false
    ∧ ((c.frame.departureDistance : Int) - c.margin) * 1000 ≤ a.positionAt now
    ∧ a.positionAt now ≤ ((c.frame.departureDistance : Int) + c.margin) * 1000

theorem qualifies_iff (c : Channel) (now : LocalTime) (h : Head) : c.qualifies now h = true ↔ c.Matches now h := by
  unfold Channel.qualifies Channel.Matches
  cases h.anchor <;> simp [inRangeInt]

theorem judgeDeparture_absent (absent : (s.channel t).speed = .absent) : s.judgeDeparture t = s := by
  have none : (s.channel t).speed.estimate = none := by rw [absent]; rfl
  rw [State.judgeDeparture, none]

theorem judgeDeparture_unmatched (known : (s.channel t).speed ≠ .absent)
    (none : ∀ h ∈ (s.channel t).heads, ¬(s.channel t).Matches s.localTime h) :
    s.judgeDeparture t = s.reports t (detectorIndex t (departureDetector (s.channel t).passage.direction)) := by
  have missing : (s.channel t).heads.find? (fun h => (s.channel t).qualifies s.localTime h) = Option.none :=
    List.find?_eq_none.mpr fun h mem => mt (qualifies_iff _ _ h).mp (none h mem)
  rw [State.judgeDeparture, missing]
  cases speed : (s.channel t).speed with
  | absent => exact absurd speed known
  | fresh v => rfl
  | stale v => rfl

/-- A head that is matched: confirmed, with its observed crossing (R67, R69). -/
def Channel.matchedHead (c : Channel) (now : LocalTime) (estimate : Nat) (h : Head) : Head :=
  { h with confirmed := true, observed := some (observedCrossing now c.frame.departureDistance estimate) }

/-- The state as a head is matched, which is a good event of its detector (R67, R75). -/
def State.matching (s : State) (t : TrackId) (estimate n : Nat) : State :=
  (s.updHead t n ((s.channel t).matchedHead s.localTime estimate)).praises t
    (detectorIndex t (departureDetector (s.channel t).passage.direction))

/-- The first head that qualifies is matched and tested for close. -/
theorem judgeDeparture_matched (known : (s.channel t).speed.estimate = some estimate)
    (heads : (s.channel t).heads = ahead ++ h :: behind) (before : ∀ g ∈ ahead, ¬(s.channel t).Matches s.localTime g)
    (fits : (s.channel t).Matches s.localTime h) :
    s.judgeDeparture t = (s.matching t estimate h.index).closeTest t h.index := by
  have first : (s.channel t).heads.find? (fun h => (s.channel t).qualifies s.localTime h) = some h := by
    rw [heads, List.find?_append, List.find?_eq_none.mpr fun g mem => mt (qualifies_iff _ _ g).mp (before g mem),
      Option.none_or]
    exact List.find?_cons_of_pos ((qualifies_iff _ _ h).mpr fits)
  rw [State.judgeDeparture, known, first]
  rfl

/-! ## The head that is matched -/

theorem matching_channel (s : State) (t : TrackId) (estimate n : Nat) : (s.matching t estimate n).channel t
    = (s.updHead t n ((s.channel t).matchedHead s.localTime estimate)).channel t :=
  State.channel_eq (praises_channels _ t _) t

theorem matching_passage (s : State) (t : TrackId) (estimate n : Nat) :
    ((s.matching t estimate n).channel t).passage = (s.channel t).passage := by
  rw [matching_channel, updHead_passage]

theorem matching_alone (alone : s.Alone t h) (estimate : Nat) :
    (s.matching t estimate h.index).Alone t ((s.channel t).matchedHead s.localTime estimate h) :=
  (alone.updHead (f := (s.channel t).matchedHead s.localTime estimate) fun _ same => same).congr (by rw [matching_channel])

theorem matching_keeps (s : State) (t : TrackId) (estimate n : Nat) : (s.matching t estimate n).timeline = s.timeline
    ∧ (s.matching t estimate n).store = s.store ∧ (s.matching t estimate n).link = s.link
    ∧ (s.matching t estimate n).ticks = s.ticks ∧ (s.matching t estimate n).localTime = s.localTime
    ∧ (s.matching t estimate n).cameras = s.cameras := by
  rw [State.matching, praises_faults]
  exact ⟨rfl, rfl, rfl, rfl, rfl, rfl⟩

theorem headBusy_congr {u : State} (cameras : u.cameras = s.cameras)
    (number : (u.channel t).passage.number = (s.channel t).passage.number) (n : Nat) : u.headBusy t n = s.headBusy t n := by
  simp only [State.headBusy, State.camera_eq cameras, number]

/-- A matched head closes where its plan is FINISHED and no camera works for it (R70). -/
theorem matching_mayClose (running : (s.channel t).closing = false) (estimate : Nat) :
    (s.matching t estimate h.index).mayClose t ((s.channel t).matchedHead s.localTime estimate h) = true
      ↔ h.status = .finished ∧ s.headBusy t h.index = false := by
  have closing : ((s.matching t estimate h.index).channel t).closing = false := by
    rw [matching_channel, State.updHead, State.updChannel_same]
    exact running
  have busy : (s.matching t estimate h.index).headBusy t h.index = s.headBusy t h.index :=
    headBusy_congr (matching_keeps s t estimate h.index).2.2.2.2.2 (by rw [matching_passage]) h.index
  rw [mayClose_iff, State.Due, closing]
  simp [Channel.matchedHead, busy]

section

variable (known : (s.channel t).speed.estimate = some estimate) (list : (s.channel t).heads = ahead ++ h :: behind)
  (distinct : ((s.channel t).heads.map fun h => h.index).Nodup)
  (before : ∀ g ∈ ahead, ¬(s.channel t).Matches s.localTime g) (first : (s.channel t).Matches s.localTime h)
  (running : (s.channel t).closing = false)

include known list distinct before first running

/-- A matched head that is not FINISHED, or that a camera works for, stays open. -/
theorem judgeDeparture_stays (stays : h.status ≠ .finished ∨ s.headBusy t h.index = true) :
    s.judgeDeparture t
      = (s.updChannel t fun c =>
          { c with heads := ahead ++ (s.channel t).matchedHead s.localTime estimate h :: behind }).praises t
        (detectorIndex t (departureDetector (s.channel t).passage.direction)) := by
  have alone := matching_alone (alone_of_mem distinct (list ▸ List.mem_append_right ahead List.mem_cons_self)) estimate
  have open_ : (s.matching t estimate h.index).closeTest t h.index = s.matching t estimate h.index := by
    obtain same | ⟨g, found, may, -⟩ := closeTest_cases (s.matching t estimate h.index) t h.index
    · exact same
    · obtain rfl := Option.some.inj (alone.findHead.symm.trans found)
      obtain ⟨finished, free⟩ := (matching_mayClose running estimate).mp may
      exact absurd free (stays.elim (absurd finished) fun busy => by simp [busy])
  rw [judgeDeparture_matched known list before first, open_, State.matching]
  refine congrArg (fun z => State.praises z t _) (State.updChannel_congr ?_)
  refine congrArg (fun heads => { s.channel t with heads := heads }) ?_
  rw [list]
  exact map_head _ (list ▸ distinct)

/-- A matched head that is FINISHED, and that no camera works for, closes at the match (log entry 32). -/
theorem judgeDeparture_closes (finished : h.status = .finished) (free : s.headBusy t h.index = false)
    (inOrder : s.InOrder t) (room : s.store.records.length < 32) :
    let u := s.judgeDeparture t
    let matched := (s.channel t).matchedHead s.localTime estimate h
    ∃ given, s.InTurn u t [given] (u.offeredOf t) [] ∧ given.IsOf (s.channel t).passage matched matched.ordinaryStatus
      ∧ (u.channel t).heads = ahead ++ behind
      ∧ u.health
        = (s.praises t (detectorIndex t (departureDetector (s.channel t).passage.direction))).health := by
  intro u matched
  have mem : h ∈ (s.channel t).heads := list ▸ List.mem_append_right ahead List.mem_cons_self
  obtain ⟨timeline, store, link, ticks, time, cameras⟩ := matching_keeps s t estimate h.index
  obtain ⟨given, inTurn, isOf, left, -, offers⟩ := closeTest_closes (h := matched) inOrder room ⟨store, link, ticks, time⟩
    ⟨h, mem, rfl⟩ (by rw [matching_channel, State.updHead, State.updChannel_same]; exact running)
    (matching_alone (alone_of_mem distinct mem) estimate).findHead ((matching_mayClose running estimate).mpr ⟨finished, free⟩)
  rw [matching_passage] at isOf
  have matches_ : u = (s.matching t estimate h.index).closeTest t h.index := judgeDeparture_matched known list before first
  rw [matches_]
  refine ⟨given, inTurn, isOf, left.trans ?_, offers.keeps.2.2.2.trans ?_⟩
  · rw [matching_channel]
    refine Eq.trans (updHead_elsewhere s t h.index fun _ same => same) ?_
    rw [list]
    exact filter_head (list ▸ distinct)
  · rw [State.matching, praises_updHead]
    rfl

end

/-! ## The blocked start -/

theorem disposeStart_judged (tracking : (s.channel t).Tracking)
    (departure : d ≠ approachDetector (s.channel t).passage.direction) (used : (s.channel t).passage.departureInUse = true) :
    s.disposeStart t d = s.judgeDeparture t := (disposeStart_departure tracking departure).trans (if_pos used)

/-- Settles O32: the detector settles, and the start opens an interval, is matched to a head, or is none of both. -/
theorem blockedStartIsDisposed : Obligations.BlockedStartIsDisposed := by
  intro s t d c approach qualifies
  refine ⟨fun due => ?_, blockedStart_early⟩
  obtain ⟨q, settles⟩ : ∃ q, s.settled t d true = q := ⟨_, rfl⟩
  have disposed := blockedStart_disposes due
  have channel := settled_channel s t d true
  have start : q.store = s.store ∧ q.link = s.link ∧ q.ticks = s.ticks ∧ q.localTime = s.localTime
      ∧ q.cameras = s.cameras := by
    rw [← settles]
    exact ⟨rfl, rfl, rfl, rfl, rfl⟩
  have records : Records s (q.disposeStart t d) := by
    rw [← settles]
    exact (updChannel_records s t _).trans (disposeStart_records _ t d)
  rw [settles] at disposed channel ⊢
  obtain ⟨store, link, ticks, time, cameras⟩ := start
  have heads : (q.channel t).heads = c.heads := by rw [channel]
  have passage : (q.channel t).passage = c.passage := by rw [channel]
  have speed : (q.channel t).speed = c.speed := by rw [channel]
  have tracks : (q.channel t).Tracking ↔ c.Tracking := by rw [channel]; rfl
  have running (tracking : c.Tracking) : (q.channel t).closing = false := by simp [Channel.closing, passage, tracking.1.2]
  have busy (n : Nat) : q.headBusy t n = s.headBusy t n := headBusy_congr cameras (by rw [passage]) n
  have fits (h : Head) : (q.channel t).Matches q.localTime h ↔ qualifies h := by rw [channel, time]; rfl
  have others {ahead : List Head} (before : ∀ g ∈ ahead, ¬qualifies g) (g : Head) (mem : g ∈ ahead) :
      ¬(q.channel t).Matches q.localTime g := mt (fits g).mp (before g mem)
  have matched (estimate : Nat) (h : Head) : (q.channel t).matchedHead q.localTime estimate h = { h with
      confirmed := true
      observed := some (s.localTime - BitVec.ofNat 48 (c.frame.departureDistance * 1000000 / estimate)) } := by
    rw [channel, time]
    rfl
  have sensor (departure : ¬approach) : departureDetector (q.channel t).passage.direction = d :=
    passage ▸ departureDetector_of_ne departure
  have judged (tracking : c.Tracking) (departure : ¬approach) (used : c.passage.departureInUse = true) :
      q.disposeStart t d = q.judgeDeparture t :=
    disposeStart_judged (tracks.mpr tracking) (passage ▸ departure) (passage ▸ used)
  refine ⟨fun ignored => ?_, fun tracking approach used => ?_, fun tracking departure used known none => ?_,
    fun tracking departure used estimate ahead h behind known list distinct before first stays => ?_,
    fun tracking departure used estimate ahead h behind known list distinct before first finished free inOrder room => ?_⟩
  · refine disposed.trans (congrArg Host.Outcome.next ?_)
    by_cases tracking : c.Tracking
    · rcases ignored with untracked | ⟨approach, unused⟩ | ⟨departure, unused | absent⟩
      · exact absurd tracking untracked
      · exact (disposeStart_approach (tracks.mpr tracking) (passage ▸ approach)).trans (if_neg (by simp [passage, unused]))
      · exact (disposeStart_departure (tracks.mpr tracking) (passage ▸ departure)).trans
          (if_neg (by simp [passage, unused]))
      · rw [disposeStart_departure (tracks.mpr tracking) (passage ▸ departure), judgeDeparture_absent (speed.trans absent),
          ite_self]
    · exact disposeStart_untracked (mt tracks.mp tracking)
  · rwa [disposeStart_approach (tracks.mpr tracking) (passage ▸ approach), passage, if_pos used, time] at disposed
  · rwa [judged tracking departure used, judgeDeparture_unmatched (speed ▸ known) (heads ▸ others none), sensor departure]
      at disposed
  · have judges := judgeDeparture_stays (speed ▸ known) (heads.trans list) (heads ▸ distinct) (others before)
      ((fits h).mpr first) (running tracking) (busy h.index ▸ stays)
    rw [judged tracking departure used, judges, matched, sensor departure] at disposed
    refine disposed.trans (congrArg (fun z => Host.Outcome.next (State.praises z t (detectorIndex t d))) ?_)
    exact State.updChannel_congr (by rw [channel]; rfl)
  · obtain ⟨given, inTurn, isOf, left, health⟩ := judgeDeparture_closes (speed ▸ known) (heads.trans list) (heads ▸ distinct)
      (others before) ((fits h).mpr first) (running tracking) finished (busy h.index ▸ free) (inOrder.congr heads store)
      (store ▸ room)
    rw [← judged tracking departure used] at inTurn left health
    rw [matched, passage] at isOf
    rw [sensor departure] at health
    exact ⟨_, given, _, disposed, records.frame, left,
      inTurn.congr ⟨store.symm, link.symm, ticks.symm, time.symm⟩ ⟨rfl, rfl⟩, rfl, isOf, health⟩

end Sys2Proof.Machine
end

section
/-! Proofs: the first AT wait of a plan (O36). -/

namespace Sys2Proof.Machine

variable {s : State} {t : TrackId} {n step : Nat} {h : Head} {a : Anchor} {p : Fin 4} {x : Int} {rest : List Step}
  {due : LocalTime} {f : Head → Head} {c : Cursor}

/-! ## Heads of one index -/

theorem findHead_updHead (found : s.findHead t n = some h) (index : ∀ g, g.index = n → (f g).index = n) :
    (s.updHead t n f).findHead t n = some (f h) := by
  have looks : ((fun g : Head => g.index == n) ∘ fun g => if g.index = n then f g else g) = fun g => g.index == n := by
    funext g
    by_cases same : g.index = n
    · simp [same, index g same]
    · simp [same]
  rw [State.findHead, updHead_heads, List.find?_map, looks]
  change Option.map _ (s.findHead t n) = _
  rw [found, Option.map_some, if_pos (findHead_index found).1]

/-! ## Due times (R53) -/

theorem Anchor.dueAt_moving (moves : 0 < a.speed) (x : Int) : a.dueAt x
    = some (if x * 1000 - a.position ≤ 0 then a.time
        else later a.time (ceilDiv ((x * 1000 - a.position).toNat * 1000) a.speed)) :=
  (if_neg (Nat.ne_of_gt moves)).trans (apply_ite some _ _ _).symm

theorem Anchor.dueAt_still (still : a.speed = 0) (x : Int) : a.dueAt x = none := if_pos still

theorem Head.dueAt_eq (anchor : h.anchor = some a) (x : Int) : h.dueAt x = a.dueAt x := by rw [Head.dueAt, anchor]; rfl

theorem Head.skips_iff (cursor : h.cursor = some c) (now : LocalTime) :
    h.skips due now = decide (c.tolerance < span due now) := by rw [Head.skips, cursor]; rfl

/-! ## A run that is skipped (R93, R94) -/

/-- An EXPOSE step, a MARK step and an AFTER wait behind them, in a run that is skipped: a LATE shot and no mark. -/
theorem runPlan_skipped_after (found : s.findHead t n = some h) (step delay : Nat) (camera : Fin 8)
    (strobe : Option (Fin 6)) (rest : List Step) (due : LocalTime) : ∃ timeline,
      Placed { track := t, passage := (s.channel t).passage.number, index := n, step := step + 2, kind := .after,
               due := later s.localTime delay } s.timeline timeline
      ∧ runPlan t n (.expose camera strobe :: .mark :: .after delay :: rest) step { due := due, skipped := true } s
        = { s.updHead t n (fun h => Head.rest
              { h with shots := h.shots ++ [untakenShot step camera strobe due .late] } (step + 2) .scheduled) with
            timeline := timeline } := by
  have skips : runPlan t n (.expose camera strobe :: .mark :: .after delay :: rest) step { due := due, skipped := true } s
      = (s.skipExpose t n step camera strobe due).schedule t n (step + 2) .after (later s.localTime delay) := by
    rw [runPlan, found]
    rfl
  obtain ⟨timeline, placed, schedules⟩ :=
    schedule_placed (s.skipExpose t n step camera strobe due) t n (step + 2) .after (later s.localTime delay)
  have passage : ((s.skipExpose t n step camera strobe due).channel t).passage = (s.channel t).passage :=
    updHead_passage s t n _
  rw [passage] at placed
  refine ⟨timeline, placed, skips.trans (schedules.trans (timeline_congr ?_ timeline))⟩
  rw [State.skipExpose, State.addShot, updHead_updHead]
  exact fun x same => same

/-- Settles O36: the cursor arrives at step 0, and the due time of its AT wait decides what becomes of the run. -/
theorem firstWaitIsScheduledOrHeld : Obligations.FirstWaitIsScheduledOrHeld := by
  intro s t index h a p x rest b cursor due entry found anchor bound plan
  obtain ⟨handed, hands⟩ : ∃ u, (s.updHead t index fun h => { h with cursor := some (cursor 0) }) = u := ⟨_, rfl⟩
  have starts : s.startPlan t index
      = runPlan t index (.atPos x :: rest) 0 { due := s.localTime, skipped := false } handed := by
    rw [startPlan_bound bound, ← plan, ← hands]
  have found' : handed.findHead t index = some { h with cursor := some (cursor 0) } :=
    hands ▸ findHead_updHead found fun _ same => same
  have keeps : handed.localTime = s.localTime ∧ handed.timeline = s.timeline := by
    rw [← hands]
    exact ⟨rfl, rfl⟩
  obtain ⟨time, timeline⟩ := keeps
  have number : (handed.channel t).passage = (s.channel t).passage := by rw [← hands, updHead_passage]
  have reaches := Head.dueAt_eq (h := { h with cursor := some (cursor 0) }) anchor x
  have then_ (f : Head → Head) : handed.updHead t index f
      = s.updHead t index fun h => f { h with cursor := some (cursor 0) } := by
    rw [← hands]
    exact updHead_updHead s t index f fun _ same => same
  refine ⟨fun still => ?_, fun moves ahead => ?_, fun delay more moves passed =>
    ⟨fun run timely => ?_, fun camera strobe run late => ?_⟩⟩
  · rw [starts, runPlan_held found' (reaches.trans (a.dueAt_still still x))]
    exact then_ _
  · obtain ⟨l, placed, schedules⟩ := schedule_placed handed t index 0 .atPos due
    rw [number, timeline] at placed
    refine ⟨l, placed, ?_⟩
    rw [starts, runPlan_ahead found' (reaches.trans (a.dueAt_moving moves x)) (by rw [time]; exact ahead), schedules]
    exact timeline_congr (then_ _) l
  · obtain ⟨l, placed, marks⟩ := runPlan_mark_after handed t index 1 delay more due
    rw [number, timeline, time] at placed
    have acts : Head.skips { h with cursor := some (cursor 0) } due s.localTime = false :=
      (Head.skips_iff rfl _).trans (decide_eq_false (Nat.not_lt.mpr timely))
    refine ⟨l, placed, ?_⟩
    rw [starts, runPlan_passed found' (reaches.trans (a.dueAt_moving moves x)) (by rw [time]; exact passed), time, acts, run,
      marks, time]
    exact timeline_congr (then_ _) l
  · obtain ⟨l, placed, skips⟩ := runPlan_skipped_after found' 1 delay camera strobe more due
    rw [number, timeline, time] at placed
    have skipped : Head.skips { h with cursor := some (cursor 0) } due s.localTime = true :=
      (Head.skips_iff rfl _).trans (decide_eq_true late)
    refine ⟨l, placed, ?_⟩
    rw [starts, runPlan_passed found' (reaches.trans (a.dueAt_moving moves x)) (by rw [time]; exact passed), time, skipped,
      run, skips]
    exact timeline_congr (then_ _) l

end Sys2Proof.Machine
end

section
/-! Proofs: the acting steps of a run (O37). -/

namespace Sys2Proof.Machine

variable {s u v : State} {t : TrackId} {n step speed : Nat} {h : Head} {camera : Fin 8} {strobe : Option (Fin 6)}
  {due : LocalTime} {rest : List Step} {l : List TimelineEntry}

/-! ## An EXPOSE step: what its camera, its strobe and its head get (R88, R107, R108, R114, R121) -/

/-- The exposure length at an anchor speed (R108). -/
def Camera.exposureAt (c : Camera) (speed : Nat) : Nat :=
  if speed = 0 then c.exposureMax else max c.exposureMin (min c.exposureMax (c.blur * 1000 / speed))

/-- The exposure length at an anchor speed is one of the limits, for a length outside them (R108). -/
def Camera.clampsAt (c : Camera) (speed : Nat) : Bool :=
  decide (speed = 0 ∨ c.blur * 1000 / speed < c.exposureMin ∨ c.exposureMax < c.blur * 1000 / speed)

theorem Camera.exposureFor_eq {c : Camera} (range : c.exposureMin ≤ c.exposureMax) (speed : Nat) :
    c.exposureFor speed = (c.exposureAt speed, c.clampsAt speed) := by
  unfold Camera.exposureFor Camera.exposureAt Camera.clampsAt
  by_cases still : speed = 0
  · simp [still]
  · simp only [still, if_false, false_or]
    split
    · next short => rw [Prod.mk.injEq]; exact ⟨by omega, by simp [short]⟩
    · split
      · next long => rw [Prod.mk.injEq]; exact ⟨by omega, by simp [long]⟩
      · next short long => rw [Prod.mk.injEq]; exact ⟨by omega, by simp; omega⟩

/-- The strobes once one of them is asked to fire for a shot: it fires where there is no reason for the dark. -/
def State.firedFor (s : State) (unlit : Option UnlitReason) (strobe : Option (Fin 6)) (shot : ShotRef) (exposure : Nat) :
    Vector Strobe 6 :=
  match unlit, strobe with
  | none, some x => (s.updStrobe x fun y => y.fire shot exposure s.ticks).strobes
  | _, _ => s.strobes

/-- The shot of an EXPOSE step. -/
def State.shotAt (s : State) (t : TrackId) (n step : Nat) : ShotRef :=
  { track := t, passage := (s.channel t).passage.number, index := n, step := step }

/-- Camera and strobe as an EXPOSE step leaves them: a camera that is not READY refuses, and nothing changes. -/
def State.answering (s : State) (t : TrackId) (n speed step : Nat) (camera : Fin 8) (strobe : Option (Fin 6)) : State :=
  let exposure := (s.camera camera).exposureAt speed
  let shot := s.shotAt t n step
  { s with
    cameras :=
      if (s.camera camera).state = .ready then (s.updCamera camera fun c => c.expose shot exposure s.ticks).cameras
      else s.cameras
    strobes :=
      if (s.camera camera).state = .ready then s.firedFor (s.darkness t strobe) strobe shot exposure else s.strobes }

/-- The shot entry of an EXPOSE step. -/
def State.shotEntry (s : State) (t : TrackId) (speed step : Nat) (camera : Fin 8) (strobe : Option (Fin 6))
    (due : LocalTime) : Shot :=
  match (s.camera camera).state with
  | .ready => takenShot step camera strobe due s.localTime ((s.camera camera).exposureAt speed)
      ((s.camera camera).clampsAt speed) (s.darkness t strobe)
  | .off | .warming _ => untakenShot step camera strobe due .notReady
  | .exposing _ _ | .recovering => untakenShot step camera strobe due .cameraBusy
  | .failed => untakenShot step camera strobe due .cameraFailed

theorem takenShot_eq (step : Nat) (camera : Fin 8) (strobe : Option (Fin 6)) (due start : LocalTime) (exposure : Nat)
    (clamped : Bool) (unlit : Option UnlitReason) : takenShot step camera strobe due start exposure clamped unlit
      = { untaken step camera strobe due (if unlit = none then .takenLit else .takenUnlit) with
          start := some start, exposure := some exposure, unlit := unlit, clamped := clamped } := by
  cases unlit <;> rfl

/-- A camera that is not READY leaves everything as it is. -/
theorem answering_refused (other : (s.camera camera).state ≠ .ready) : s.answering t n speed step camera strobe = s := by
  simp only [State.answering, if_neg other]

theorem answering_ready (ready : (s.camera camera).state = .ready) : s.answering t n speed step camera strobe
    = { s with
        cameras := (s.updCamera camera fun c =>
          c.expose (s.shotAt t n step) ((s.camera camera).exposureAt speed) s.ticks).cameras
        strobes := s.firedFor (s.darkness t strobe) strobe (s.shotAt t n step) ((s.camera camera).exposureAt speed) } := by
  simp only [State.answering, if_pos ready]

theorem exposes_eq (s : State) (t : TrackId) (n speed step : Nat) (camera : Fin 8) (strobe : Option (Fin 6))
    (due : LocalTime) : s.exposes t n speed step camera strobe due
      = (s.answering t n speed step camera strobe).addShot t n (s.shotEntry t speed step camera strobe due) := by
  unfold State.exposes State.shotEntry
  dsimp only
  cases state : (s.camera camera).state with
  | ready =>
    rw [answering_ready state, takenShot_eq]
    unfold State.firedFor
    dsimp only
    cases s.darkness t strobe <;> cases strobe <;> rfl
  | off => rw [answering_refused (by simp [state])]; rfl
  | warming since => rw [answering_refused (by simp [state])]; rfl
  | exposing shot e => rw [answering_refused (by simp [state])]; rfl
  | recovering => rw [answering_refused (by simp [state])]; rfl
  | failed => rw [answering_refused (by simp [state])]; rfl

theorem lightAnswer_eq (s : State) (t : TrackId) (strobe : Option (Fin 6)) : s.lightAnswer strobe t = s.darkness t strobe := by
  cases strobe with
  | none => rfl
  | some x => simp [State.lightAnswer, State.darkness, State.unlitReason, Channel.dark]

/-- The strobe that is asked fires where there is no reason for the dark. -/
theorem fireFor_eq (s : State) (strobe : Option (Fin 6)) (t : TrackId) (shot : ShotRef) (exposure : Nat) :
    s.fireFor strobe t shot exposure = { s with strobes := s.firedFor (s.darkness t strobe) strobe shot exposure } := by
  rw [← lightAnswer_eq]
  cases strobe with
  | none => rfl
  | some x =>
    simp only [State.fireFor, State.lightAnswer]
    cases s.unlitReason x t <;> rfl

/-- The model runs an EXPOSE step so. -/
theorem runExpose_eq (range : (s.camera camera).exposureMin ≤ (s.camera camera).exposureMax) (h : Head) (step : Nat)
    (strobe : Option (Fin 6)) (due : LocalTime) : s.runExpose t h step camera strobe due
      = s.exposes t h.index h.anchorSpeed step camera strobe due := by
  rw [exposes_eq]
  unfold State.runExpose State.shotEntry
  cases state : (s.camera camera).state with
  | ready =>
    rw [answering_ready state, ← lightAnswer_eq]
    simp only [Camera.answer, state, Camera.exposureFor_eq range, fireFor_eq]
    rw [lightAnswer_eq]
    rfl
  | off => rw [answering_refused (by simp [state])]; simp only [Camera.answer, state]
  | warming since => rw [answering_refused (by simp [state])]; simp only [Camera.answer, state]
  | exposing shot e => rw [answering_refused (by simp [state])]; simp only [Camera.answer, state]
  | recovering => rw [answering_refused (by simp [state])]; simp only [Camera.answer, state]
  | failed => rw [answering_refused (by simp [state])]; simp only [Camera.answer, state]

end Sys2Proof.Machine
end

section
/-! Proofs: the expiry of a timeline entry, and the run that it starts (O37). -/

namespace Sys2Proof.Machine

variable {s u v : State} {t : TrackId} {n step speed : Nat} {h g : Head} {k : Cursor} {e : TimelineEntry} {camera : Fin 8}
  {strobe : Option (Fin 6)} {due : LocalTime} {ahead run rest : List Step} {l : List TimelineEntry}

/-! ## What the acting steps leave as it was -/

/-- Acting steps of a run of one head: its shots and marks, the cameras and the strobes can be others; the limits of the
exposures stay. -/
structure Acted (s u : State) (t : TrackId) (n : Nat) : Prop where
  rest : u = { s with channels := u.channels, cameras := u.cameras, strobes := u.strobes }
  passage : (u.channel t).passage = (s.channel t).passage
  head : ∀ h, s.findHead t n = some h → ∃ shots marks, u.findHead t n = some { h with shots := shots, marks := marks }
  limits : ∀ i, (u.camera i).exposureMin = (s.camera i).exposureMin ∧ (u.camera i).exposureMax = (s.camera i).exposureMax

theorem Acted.refl (s : State) (t : TrackId) (n : Nat) : Acted s s t n :=
  ⟨rfl, rfl, fun h found => ⟨h.shots, h.marks, found⟩, fun _ => ⟨rfl, rfl⟩⟩

theorem Acted.trans (first : Acted s u t n) (second : Acted u v t n) : Acted s v t n where
  rest := by
    have then_ := second.rest
    rw [first.rest] at then_
    exact then_
  passage := second.passage.trans first.passage
  head h found := by
    obtain ⟨shots, marks, here⟩ := first.head h found
    obtain ⟨shots', marks', there⟩ := second.head _ here
    exact ⟨shots', marks', there⟩
  limits i := ⟨(second.limits i).1.trans (first.limits i).1, (second.limits i).2.trans (first.limits i).2⟩

theorem Acted.now (acted : Acted s u t n) : u.localTime = s.localTime ∧ u.store = s.store ∧ u.link = s.link
    ∧ u.ticks = s.ticks := by
  rw [acted.rest]
  exact ⟨rfl, rfl, rfl, rfl⟩

/-- A shot and a mark are noted. -/
theorem Acted.notes {f : Head → Head} (noted : ∀ h, ∃ shots marks, f h = { h with shots := shots, marks := marks }) :
    Acted s (s.updHead t n f) t n where
  rest := rfl
  passage := updHead_passage s t n f
  head h found := by
    obtain ⟨shots, marks, same⟩ := noted h
    refine ⟨shots, marks, same ▸ findHead_updHead found fun g index => ?_⟩
    obtain ⟨shots, marks, same⟩ := noted g
    rw [same]
    exact index
  limits _ := ⟨rfl, rfl⟩

theorem answering_acted (s : State) (t : TrackId) (n speed step : Nat) (camera : Fin 8) (strobe : Option (Fin 6)) :
    Acted s (s.answering t n speed step camera strobe) t n where
  rest := rfl
  passage := rfl
  head h found := ⟨h.shots, h.marks, found⟩
  limits i := by
    by_cases ready : (s.camera camera).state = .ready
    · have exposed : (s.answering t n speed step camera strobe).camera i = (s.updCamera camera fun c =>
          c.expose (s.shotAt t n step) ((s.camera camera).exposureAt speed) s.ticks).camera i :=
        State.camera_eq (by rw [answering_ready ready]) i
      rw [exposed, State.updCamera_camera]
      split
      · exact ⟨rfl, rfl⟩
      · exact ⟨rfl, rfl⟩
    · rw [answering_refused ready]
      exact ⟨rfl, rfl⟩

theorem exposes_acted (s : State) (t : TrackId) (n speed step : Nat) (camera : Fin 8) (strobe : Option (Fin 6))
    (due : LocalTime) : Acted s (s.exposes t n speed step camera strobe due) t n := by
  rw [exposes_eq]
  exact (answering_acted s t n speed step camera strobe).trans (.notes fun h => ⟨_, h.marks, rfl⟩)

theorem acts_acted (s : State) (t : TrackId) (n speed : Nat) (due : LocalTime) (run : List Step) (step : Nat) :
    Acted s (s.acts t n speed due run step) t n := by
  induction run generalizing s step with
  | nil => exact .refl s t n
  | cons x run ih =>
    cases x with
    | expose camera strobe => exact (exposes_acted s t n speed step camera strobe due).trans (ih _ _)
    | mark => exact (Acted.notes fun h => ⟨h.shots, _, rfl⟩).trans (ih _ _)
    | after delay => exact .refl s t n
    | atPos x => exact .refl s t n

/-! ## The timeline plays no part in the acting steps -/

theorem exposes_timeline (s : State) (t : TrackId) (n speed step : Nat) (camera : Fin 8) (strobe : Option (Fin 6))
    (due : LocalTime) (l : List TimelineEntry) : State.exposes { s with timeline := l } t n speed step camera strobe due
      = { s.exposes t n speed step camera strobe due with timeline := l } := by
  rw [exposes_eq, exposes_eq]
  rfl

theorem acts_timeline (s : State) (t : TrackId) (n speed : Nat) (due : LocalTime) (run : List Step) (step : Nat)
    (l : List TimelineEntry) : State.acts { s with timeline := l } t n speed due run step
      = { s.acts t n speed due run step with timeline := l } := by
  induction run generalizing s step with
  | nil => rfl
  | cons x run ih =>
    cases x with
    | expose camera strobe =>
      rw [State.acts, exposes_timeline]
      exact ih _ _
    | mark => exact ih (s.runMark t n step) (step + 1)
    | after delay => rfl
    | atPos x => rfl

/-! ## A run whose acting steps act (R87 to R89) -/

/-- The exposure limits of the cameras that a run names are in order. -/
def State.InLimits (s : State) (run : List Step) : Prop :=
  ∀ camera strobe, Step.expose camera strobe ∈ run → (s.camera camera).exposureMin ≤ (s.camera camera).exposureMax

theorem Acted.inLimits (acted : Acted s u t n) (limits : s.InLimits run) : u.InLimits run := fun camera strobe mem => by
  rw [(acted.limits camera).1, (acted.limits camera).2]
  exact limits camera strobe mem

theorem runPlan_acts (found : s.findHead t n = some h) (acting : ∀ x ∈ run, ¬x.IsWait) (limits : s.InLimits run)
    (step : Nat) (due : LocalTime) (rest : List Step) : runPlan t n (run ++ rest) step { due := due, skipped := false } s
      = runPlan t n rest (step + run.length) { due := due, skipped := false } (s.acts t n h.anchorSpeed due run step) := by
  induction run generalizing s h step with
  | nil => rfl
  | cons x run ih =>
    obtain ⟨acts, others⟩ := List.forall_mem_cons.mp acting
    have fewer : s.InLimits run := fun camera strobe mem => limits camera strobe (List.mem_cons_of_mem x mem)
    have length : step + (x :: run).length = step + 1 + run.length := by rw [List.length_cons]; omega
    rw [length]
    cases x with
    | expose camera strobe =>
      have exposed := exposes_acted s t n h.anchorSpeed step camera strobe due
      obtain ⟨shots, marks, found'⟩ := exposed.head h found
      rw [List.cons_append, runPlan, found]
      simp only [Bool.false_eq_true, if_false]
      rw [runExpose_eq (limits camera strobe List.mem_cons_self), (findHead_index found).1]
      exact ih found' others (exposed.inLimits fewer) (step + 1)
    | mark =>
      have marked : Acted s (s.runMark t n step) t n := .notes fun h => ⟨h.shots, _, rfl⟩
      have found' : (s.runMark t n step).findHead t n
          = some { h with marks := h.marks ++ [{ step := step, instant := s.localTime }] } :=
        findHead_updHead found fun _ same => same
      exact ih found' others (marked.inLimits fewer) (step + 1)
    | after delay => exact absurd (.inr ⟨delay, rfl⟩) acts
    | atPos x => exact absurd (.inl ⟨x, rfl⟩) acts

/-! ## The expiry (R87, R91) -/

theorem entryDue_eq (entry : s.findEntry t n = some e) : s.entryDue t n = !after e.due s.localTime := by
  rw [State.entryDue, entry]
  exact hasCome_some e.due s.localTime

/-- An entry that is not due stays (log entry 3). -/
theorem timelineEntryExpiry_early (early : ∀ e, s.findEntry t n = some e → after e.due s.localTime = true) :
    Completes (.timelineEntryExpiry t n) s s := by
  refine congrArg Host.Outcome.next ?_
  cases entry : s.findEntry t n with
  | none => rfl
  | some e => exact if_neg (by simp [entryDue_eq entry, early e entry])

/-- The timeline without the entries of a head. -/
def State.othersEntries (s : State) (t : TrackId) (n : Nat) : List TimelineEntry := s.timeline.filter fun e => !e.isOf t n

/-- The state as the acting steps behind an entry that expires have acted, without the entries of its head. -/
def State.ranFrom (s : State) (t : TrackId) (n speed : Nat) (e : TimelineEntry) (run : List Step) : State :=
  { s.acts t n speed e.due run (e.step + 1) with timeline := s.othersEntries t n }

theorem timelineEntryExpiry_runs (entry : s.findEntry t n = some e) (due : after e.due s.localTime = false)
    (found : s.findHead t n = some h) (cursor : h.cursor = some k) (behind : ahead.length = e.step + 1)
    (plan : s.plans[k.plan] = ahead ++ run ++ rest) (acting : ∀ x ∈ run, ¬x.IsWait) (limits : s.InLimits run) :
    Completes (.timelineEntryExpiry t n) s
      (runPlan t n rest (e.step + 1 + run.length) { due := e.due, skipped := false }
        (s.ranFrom t n h.anchorSpeed e run)) := by
  have steps : (s.planOf t n).drop (e.step + 1) = run ++ rest := by
    rw [State.planOf, found, Option.bind_some, cursor]
    simp [plan, ← behind]
  have runs : s.expireEntry t n e = runPlan t n rest (e.step + 1 + run.length) { due := e.due, skipped := false }
      (s.ranFrom t n h.anchorSpeed e run) := by
    rw [State.expireEntry, steps, runPlan_acts (s := s.dropEntry t n) found acting limits]
    exact congrArg _ (acts_timeline ..)
  rw [← runs]
  refine congrArg Host.Outcome.next ?_
  rw [entry]
  exact if_pos (by simp [entryDue_eq entry, due])

end Sys2Proof.Machine
end

section
/-! Proofs: the ends of a run: a wait, or the end of the plan (O37). -/

namespace Sys2Proof.Machine

variable {s u v : State} {t : TrackId} {n step speed : Nat} {h g : Head} {k : Cursor} {e : TimelineEntry} {camera : Fin 8}
  {strobe : Option (Fin 6)} {due : LocalTime} {ahead run rest : List Step} {l : List TimelineEntry}

/-! ## The state as the run has acted -/

theorem ranFrom_passage (s : State) (t : TrackId) (n speed : Nat) (e : TimelineEntry) (run : List Step) :
    ((s.ranFrom t n speed e run).channel t).passage = (s.channel t).passage := (acts_acted s t n speed _ run _).passage

theorem ranFrom_now (s : State) (t : TrackId) (n speed : Nat) (e : TimelineEntry) (run : List Step) :
    (s.ranFrom t n speed e run).localTime = s.localTime ∧ (s.ranFrom t n speed e run).store = s.store
    ∧ (s.ranFrom t n speed e run).link = s.link ∧ (s.ranFrom t n speed e run).ticks = s.ticks :=
  (acts_acted s t n speed _ run _).now

theorem ranFrom_plans (s : State) (t : TrackId) (n speed : Nat) (e : TimelineEntry) (run : List Step) :
    (s.ranFrom t n speed e run).plans = s.plans := by
  have acted := (acts_acted s t n speed e.due run (e.step + 1)).rest
  have plans : (s.acts t n speed e.due run (e.step + 1)).plans = s.plans := by rw [acted]
  exact plans

theorem ranFrom_head (found : s.findHead t n = some h) (speed : Nat) (e : TimelineEntry) (run : List Step) :
    ∃ shots marks, (s.ranFrom t n speed e run).findHead t n = some { h with shots := shots, marks := marks } :=
  (acts_acted s t n speed _ run _).head h found

/-- A run that comes to an AFTER wait, or to an AT wait that lies ahead. -/
theorem ranFrom_schedules (s : State) (t : TrackId) (n speed : Nat) (e : TimelineEntry) (run : List Step) (step : Nat)
    (kind : WaitKind) (due : LocalTime) : ∃ timeline,
      Placed { track := t, passage := (s.channel t).passage.number, index := n, step := step, kind := kind, due := due }
        (s.othersEntries t n) timeline
      ∧ (s.ranFrom t n speed e run).schedule t n step kind due
        = { (s.acts t n speed e.due run (e.step + 1)).updHead t n (fun h => h.rest step .scheduled) with
            timeline := timeline } := by
  obtain ⟨timeline, placed, schedules⟩ := schedule_placed (s.ranFrom t n speed e run) t n step kind due
  rw [ranFrom_passage] at placed
  exact ⟨timeline, placed, schedules⟩

theorem Placed.mem_iff {old new : List TimelineEntry} (placed : Placed e old new) (x : TimelineEntry) :
    x ∈ new ↔ x = e ∨ x ∈ old := by
  obtain ⟨ahead, behind, rfl, rfl, -, -⟩ := placed
  simp only [List.mem_append, List.mem_cons]
  exact or_left_comm

theorem mem_othersEntries {x : TimelineEntry} : x ∈ s.othersEntries t n ↔ x ∈ s.timeline ∧ ¬(x.track = t ∧ x.index = n) := by
  simp [State.othersEntries, TimelineEntry.isOf, ← not_and_or]

theorem ranFrom_othersEntries (s : State) (t : TrackId) (n speed : Nat) (e : TimelineEntry) (run : List Step) :
    (s.ranFrom t n speed e run).othersEntries t n = s.othersEntries t n := by
  simp [State.ranFrom, State.othersEntries, List.filter_filter]

/-! ## A run that comes to the end of its plan (R70, R87) -/

/-- The state as a head has come to the end of its plan, before it is tested for close. -/
def State.finishing (s : State) (t : TrackId) (n step : Nat) : State := s.updHead t n fun h => h.rest step .finished

theorem finishing_head (found : s.findHead t n = some h) (step : Nat) :
    (s.finishing t n step).findHead t n = some (h.rest step .finished) := findHead_updHead found fun _ same => same

theorem finishing_passage (s : State) (t : TrackId) (n step : Nat) :
    ((s.finishing t n step).channel t).passage = (s.channel t).passage := updHead_passage s t n _

theorem finishing_running (open_ : (s.channel t).passage.closed = none) (n step : Nat) :
    ((s.finishing t n step).channel t).closing = false := by simp [Channel.closing, finishing_passage, open_]

theorem finishing_mayClose (open_ : (s.channel t).passage.closed = none) (index : h.index = n) (step : Nat) :
    (s.finishing t n step).mayClose t (h.rest step .finished) = true
      ↔ (h.confirmed = true ∨ h.departed = true) ∧ s.headBusy t n = false := by
  have cameras : (s.finishing t n step).cameras = s.cameras := rfl
  have busy := headBusy_congr cameras (congrArg Passage.number (finishing_passage s t n step)) n
  rw [mayClose_iff, State.Due, finishing_running open_]
  simp [Head.rest, index, busy]

theorem finishPlan_stays (found : s.findHead t n = some h) (open_ : (s.channel t).passage.closed = none)
    (stays : (h.confirmed = false ∧ h.departed = false) ∨ s.headBusy t n = true) (step : Nat) :
    s.finishPlan t n step = s.finishing t n step := by
  obtain same | ⟨g, here, may, -⟩ := closeTest_cases (s.finishing t n step) t n
  · exact same
  · obtain rfl := Option.some.inj ((finishing_head found step).symm.trans here)
    obtain ⟨flag, free⟩ := (finishing_mayClose open_ (findHead_index found).1 step).mp may
    rcases stays with ⟨confirmed, departed⟩ | busy
    · simp [confirmed, departed] at flag
    · exact absurd busy (by simp [free])

/-- A run that starts in `s` and has come to the end of the plan in `u` closes its head, whose record is given in turn. -/
theorem finishPlan_closes (inOrder : s.InOrder t) (room : s.store.records.length < 32)
    (start : u.localTime = s.localTime ∧ u.store = s.store ∧ u.link = s.link ∧ u.ticks = s.ticks)
    (known : ∃ g ∈ (s.channel t).heads, g.index = n) (found : u.findHead t n = some h)
    (open_ : (u.channel t).passage.closed = none) (flag : h.confirmed = true ∨ h.departed = true)
    (free : u.headBusy t n = false) (step : Nat) :
    let v := u.finishPlan t n step
    ∃ given, s.InTurn v t [given] (v.offeredOf t) [] ∧ given.IsOf (u.channel t).passage h h.ordinaryStatus
      ∧ (v.channel t).heads = (u.channel t).heads.filter (fun g => g.index != n)
      ∧ v.timeline = u.othersEntries t n ∧ Offers (u.finishing t n step) v := by
  obtain ⟨time, store, link, ticks⟩ := start
  obtain ⟨rfl, -⟩ := findHead_index found
  obtain ⟨given, inTurn, isOf, heads, timeline, offers⟩ :=
    closeTest_closes (u := u.finishing t h.index step) (h := h.rest step .finished) inOrder room
      ⟨store, link, ticks, time⟩ known (finishing_running open_ _ _) (finishing_head found step)
      ((finishing_mayClose open_ rfl step).mpr ⟨flag, free⟩)
  have status : (h.rest step .finished).ordinaryStatus = h.ordinaryStatus :=
    if_congr Option.map_eq_none_iff rfl rfl
  rw [finishing_passage, status] at isOf
  exact ⟨given, inTurn, isOf, heads.trans (updHead_elsewhere u t h.index fun _ same => same), timeline, offers⟩

/-! ## One EXPOSE step, and an AFTER wait behind it (R86, R88) -/

theorem firedFor_dark {unlit : Option UnlitReason} (dark : unlit ≠ none) (s : State) (strobe : Option (Fin 6))
    (shot : ShotRef) (exposure : Nat) : s.firedFor unlit strobe shot exposure = s.strobes := by
  cases unlit with
  | none => exact absurd rfl dark
  | some reason => rfl

theorem exposes_updHead_channels (s : State) (t : TrackId) (n speed step : Nat) (camera : Fin 8) (strobe : Option (Fin 6))
    (due : LocalTime) (f : Head → Head) : ((s.exposes t n speed step camera strobe due).updHead t n f).channels
      = (s.updHead t n fun h =>
          f { h with shots := h.shots ++ [s.shotEntry t speed step camera strobe due] }).channels := by
  rw [exposes_eq, State.addShot, updHead_updHead]
  · rfl
  · exact fun _ same => same

theorem exposes_cameras (s : State) (t : TrackId) (n speed step : Nat) (camera : Fin 8) (strobe : Option (Fin 6))
    (due : LocalTime) : (s.exposes t n speed step camera strobe due).cameras
      = (s.answering t n speed step camera strobe).cameras := by
  rw [exposes_eq]
  rfl

theorem exposes_strobes (s : State) (t : TrackId) (n speed step : Nat) (camera : Fin 8) (strobe : Option (Fin 6))
    (due : LocalTime) : (s.exposes t n speed step camera strobe due).strobes
      = (s.answering t n speed step camera strobe).strobes := by
  rw [exposes_eq]
  rfl

/-- An EXPOSE step acts, and the head rests SCHEDULED at the AFTER wait behind it. -/
theorem timelineEntryExpiry_exposes {delay : Nat} (entry : s.findEntry t n = some e)
    (due : after e.due s.localTime = false) (found : s.findHead t n = some h) (cursor : h.cursor = some k)
    (behind : ahead.length = e.step + 1) (plan : s.plans[k.plan] = ahead ++ .expose camera strobe :: .after delay :: rest)
    (range : (s.camera camera).exposureMin ≤ (s.camera camera).exposureMax) : ∃ timeline,
      Placed { track := t, passage := (s.channel t).passage.number, index := n, step := e.step + 2, kind := .after,
               due := later s.localTime delay } (s.othersEntries t n) timeline
      ∧ Completes (.timelineEntryExpiry t n) s
        { (s.exposes t n h.anchorSpeed (e.step + 1) camera strobe e.due).updHead t n
            (fun h => h.rest (e.step + 2) .scheduled) with timeline := timeline } := by
  have limits : s.InLimits [.expose camera strobe] := fun camera' strobe' mem => by
    obtain ⟨rfl, rfl⟩ := Step.expose.inj (List.mem_singleton.mp mem)
    exact range
  have runs := timelineEntryExpiry_runs (run := [.expose camera strobe]) (rest := .after delay :: rest) entry due found
    cursor behind (plan.trans (by simp)) (by simp [Step.IsWait]) limits
  obtain ⟨timeline, placed, schedules⟩ := ranFrom_schedules s t n h.anchorSpeed e [.expose camera strobe] (e.step + 2)
    .after (later s.localTime delay)
  have now : (s.ranFrom t n h.anchorSpeed e [.expose camera strobe]).localTime = s.localTime := (ranFrom_now ..).1
  rw [← now] at schedules
  exact ⟨timeline, placed, runs.trans (congrArg Host.Outcome.next schedules)⟩

/-! ## The cursor comes to an AT wait behind the run (R86) -/

/-- An AT wait whose due instant has come lets the run go on, whatever began the run. -/
theorem arrive_passed {x : Int} (plan : s.plans[k.plan].drop k.step = .atPos x :: rest)
    (found : s.findHead t n = some h) (reaches : h.dueAt x = some due) (passed : after due s.localTime = false) (run : Run) :
    s.arrive t n k = runPlan t n (.atPos x :: rest) k.step run s := by
  rw [State.arrive, plan, runPlan_passed found reaches passed, runPlan_passed found reaches passed]

/-- Settles O37: an entry that is due starts its run, and the end of the run is an AFTER wait, an AT wait or the end of the
plan. -/
theorem entryExpiryRunsItsSteps : Obligations.EntryExpiryRunsItsSteps := by
  intro s t index
  refine ⟨timelineEntryExpiry_early, ?_, ?_⟩
  · intro e h k camera strobe delay ahead rest entry due found cursor behind plan step c shot speed wanted exposure clamped
      unlit next advanced untaken taken range
    obtain ⟨timeline, placed, completes⟩ := timelineEntryExpiry_exposes entry due found cursor behind plan range
    have dark : s.darkness t strobe = unlit := by cases strobe <;> rfl
    have channels := exposes_updHead_channels s t index speed step camera strobe e.due fun h => h.rest (step + 1) .scheduled
    have cameras := exposes_cameras s t index speed step camera strobe e.due
    have strobes := exposes_strobes s t index speed step camera strobe e.due
    have rests := (exposes_acted s t index h.anchorSpeed (e.step + 1) camera strobe e.due).rest
    refine ⟨_, completes, ?_, fun x => (placed.mem_iff x).trans (or_congr_right mem_othersEntries), fun ready => ?_,
      fun other => ?_⟩
    · rw [rests]
      rfl
    · rw [answering_ready ready] at cameras strobes
      have entry : s.shotEntry t speed step camera strobe e.due = taken := by
        rw [State.shotEntry, ready, dark]
        exact takenShot_eq ..
      rw [entry] at channels
      refine ⟨channels, cameras, fun x named lit => strobes.trans ?_, fun unlit => strobes.trans ?_⟩
      · rw [dark.trans lit, named]
        rfl
      · exact firedFor_dark (by rwa [dark]) ..
    · rw [answering_refused other] at cameras strobes
      have refused (outcome : ShotOutcome) (answers : s.shotEntry t speed step camera strobe e.due = untaken outcome) := by
        rw [answers] at channels
        exact channels
      refine ⟨cameras, strobes, fun off => ?_, fun busy => ?_, fun failed => refused _ (by rw [State.shotEntry, failed]; rfl)⟩
      · rcases off with off | ⟨since, warming⟩
        · exact refused .notReady (by rw [State.shotEntry, off]; rfl)
        · exact refused .notReady (by rw [State.shotEntry, warming]; rfl)
      · rcases busy with ⟨r, n, exposing⟩ | recovering
        · exact refused .cameraBusy (by rw [State.shotEntry, exposing]; rfl)
        · exact refused .cameraBusy (by rw [State.shotEntry, recovering]; rfl)
  · intro e h k ahead run entry due found cursor behind acting limits step left acted rested entryOf
    have runs {rest : List Step} (plan : s.plans[k.plan] = ahead ++ run ++ rest) :=
      timelineEntryExpiry_runs entry due found cursor behind plan acting fun camera _ _ => limits camera
    obtain ⟨time, store, link, ticks⟩ := ranFrom_now s t index h.anchorSpeed e run
    have passage := ranFrom_passage s t index h.anchorSpeed e run
    obtain ⟨shots, marks, here⟩ := ranFrom_head found h.anchorSpeed e run
    refine ⟨fun delay rest plan => ?_, fun a x rest plan anchor => ?_, fun plan open_ => ⟨fun stays => ?_, ?_⟩⟩
    · obtain ⟨timeline, placed, schedules⟩ := ranFrom_schedules s t index h.anchorSpeed e run step .after
        (later s.localTime delay)
      rw [← time] at schedules
      exact ⟨timeline, placed, (runs plan).trans (congrArg Host.Outcome.next schedules)⟩
    · have reaches := Head.dueAt_eq (h := { h with shots := shots, marks := marks }) anchor x
      refine ⟨fun still => ?_, fun moves lies => ?_, fun moves passed => ?_⟩
      · exact (runs plan).trans (congrArg Host.Outcome.next (runPlan_held here (reaches.trans (a.dueAt_still still x))))
      · have scheduled := runPlan_ahead (rest := rest) (step := step) (run := { due := e.due, skipped := false }) here
          (reaches.trans (a.dueAt_moving moves x)) (by rwa [time])
        obtain ⟨timeline, placed, schedules⟩ := ranFrom_schedules s t index h.anchorSpeed e run step .atPos _
        exact ⟨timeline, placed, (runs plan).trans (congrArg Host.Outcome.next (scheduled.trans schedules))⟩
      · have steps : (s.ranFrom t index h.anchorSpeed e run).plans[k.plan].drop step = .atPos x :: rest := by
          rw [ranFrom_plans, plan]
          exact List.drop_left' (by simp [step, behind])
        exact (runs plan).trans (congrArg Host.Outcome.next (arrive_passed (k := { k with step := step }) steps here
          (reaches.trans (a.dueAt_moving moves x)) (by rwa [time]) _).symm)
    · exact (runs (plan.trans (List.append_nil _).symm)).trans (congrArg Host.Outcome.next
        (finishPlan_stays here (by rw [passage]; exact open_) stays step))
    · intro flag free inOrder room
      obtain ⟨given, inTurn, isOf, heads, timeline, offers⟩ := finishPlan_closes inOrder room ⟨time, store, link, ticks⟩
        ⟨h, (findHead_index found).2, (findHead_index found).1⟩ here (by rw [passage]; exact open_) flag free step
      refine ⟨_, given, _, runs (plan.trans (List.append_nil _).symm), ?_, heads, inTurn, rfl, fun g found => ?_⟩
      · have rests := offers.rest
        rw [timeline, ranFrom_othersEntries] at rests
        exact rests
      · rw [passage] at isOf
        obtain rfl := Option.some.inj (here.symm.trans found)
        exact isOf

end Sys2Proof.Machine
end

section
/-! Proofs: what READ PLAN and READ TIME report (O22). -/

namespace Sys2Proof.Machine

variable {s : State} {body bytes : List Byte}

/-! ## Signed fields and equally long entries (R186) -/

/-- Bytes that spell a number in two's complement hold it, where it lies within their range. -/
theorem fieldInt_eq {offset n : Nat} {x : Int} (spelled : field body offset n = (x % (256 ^ n : Nat)).toNat)
    (low : -(256 ^ n : Nat) ≤ 2 * x) (high : 2 * x < (256 ^ n : Nat)) : fieldInt body offset n = x := by
  simp only [fieldInt, spelled]
  rcases Int.lt_or_le x 0 with neg | pos
  · have wraps : x % (256 ^ n : Nat) = x + (256 ^ n : Nat) := by
      rw [← Int.add_emod_right, Int.emod_eq_of_lt (by omega) (by omega)]
    rw [wraps, if_neg (by omega)]
    omega
  · rw [Int.emod_eq_of_lt pos (by omega), if_pos (by omega)]
    omega

/-- Behind the first `i` of equally long entries the others follow. -/
theorem drop_flatMap_bytes {α : Type} {f : α → List Byte} {size : Nat} (length : ∀ x, (f x).length = size) (l : List α)
    (i : Nat) : (l.flatMap f).drop (size * i) = (l.drop i).flatMap f := by
  induction i generalizing l with
  | zero => simp
  | succ i ih =>
    cases l with
    | nil => simp
    | cons x rest =>
      rw [List.flatMap_cons, List.drop_succ_cons, ← ih rest, List.drop_append, length,
        List.drop_eq_nil_of_le (by rw [length, Nat.mul_succ]; omega), List.nil_append, Nat.mul_succ, Nat.add_sub_cancel]

/-- The bytes of the `i`th of equally long entries. -/
theorem entry_flatMap {α : Type} {f : α → List Byte} {size : Nat} (length : ∀ x, (f x).length = size)
    (ahead behind : List Byte) {l : List α} {i : Nat} (inside : i < l.length) :
    ((ahead ++ l.flatMap f ++ behind).drop (ahead.length + size * i)).take size = f l[i] := by
  have fits : size * i ≤ (l.flatMap f).length := by
    rw [length_flatMap_bytes length]
    exact Nat.mul_le_mul_left _ (Nat.le_of_lt inside)
  rw [List.append_assoc, ← List.drop_drop, List.drop_left, List.drop_append_of_le_length fits, drop_flatMap_bytes length,
    List.drop_eq_getElem_cons inside, List.flatMap_cons, List.append_assoc, List.take_left' (length _)]

theorem boolByte_eq (flag : Bool) : boolByte flag = BitVec.ofNat 8 flag.toNat := by cases flag <;> rfl

theorem flag_mod (flag : Bool) : flag.toNat % 256 = flag.toNat := by cases flag <;> rfl

/-- A local time fills its 6 bytes. -/
theorem time_mod (t : LocalTime) : t.toNat % 256 ^ 6 = t.toNat := Nat.mod_eq_of_lt t.isLt

/-! ## READ PLAN (R84) -/

theorem Step.length_bytes (x : Step) : x.bytes.length = 6 := by
  rcases x with p | d | ⟨c, _ | y⟩ | _ <;> simp [Step.bytes, toBytesInt]

/-- The rows of a binding. -/
def Binding.rows (b : Binding) : List Row :=
  [(0, 1, b.plan.isSome.toNat), (1, 1, (b.plan.map (·.val)).getD 0), (2, 2, b.tolerance)]

theorem Binding.bytes_eq (b : Binding) : b.bytes = rowBytes b.rows := by
  rw [Binding.bytes, boolByte_eq]
  rfl

/-- What the rows of a binding say (R84). -/
theorem Binding.fields_of_spells {b : Binding} {base : Nat} (spelled : Spells bytes base b.rows) :
    field bytes base 1 = (if b.plan = none then 0 else 1) ∧ (b.plan = none → field bytes (base + 1) 1 = 0)
    ∧ (∀ n, b.plan = some n → field bytes (base + 1) 1 = n.val) ∧ field bytes (base + 2) 2 = b.tolerance % 65536 := by
  have known := spelled (0, 1, _) (.head _)
  have plan := spelled (1, 1, _) (.tail _ (.head _))
  have tolerance := spelled (2, 2, _) (.tail _ (.tail _ (.head _)))
  refine ⟨known.trans ?_, fun none => plan.trans ?_, fun n some => plan.trans ?_, tolerance⟩
  · cases b.plan <;> rfl
  · rw [none]
    rfl
  · rw [some]
    exact Nat.mod_eq_of_lt (by simp; omega)

/-- The four bindings, in the order in which READ PLAN reports them. -/
def State.allBindings (s : State) : List Binding :=
  [s.bindings.t1.ab, s.bindings.t1.ba, s.bindings.t2.ab, s.bindings.t2.ba]

theorem State.allBindings_bytes (s : State) : s.allBindings.flatMap (fun b => rowBytes b.rows)
    = s.bindings.t1.ab.bytes ++ s.bindings.t1.ba.bytes ++ s.bindings.t2.ab.bytes ++ s.bindings.t2.ba.bytes := by
  simp [State.allBindings, Binding.bytes_eq]

theorem planOfCode_none {n : Nat} (h : 4 ≤ n) : planOfCode n = none := dif_neg (by omega)

theorem planOfCode_val (p : Fin 4) : planOfCode p.val = some p := dif_pos p.isLt

/-- The reply of READ PLAN: the plan's number and length, its steps, the bindings. -/
def State.planReply (s : State) (p : Fin 4) : List Byte :=
  rowBytes [(0, 1, p.val), (1, 1, s.plans[p].length)] ++ s.plans[p].flatMap Step.bytes
    ++ s.allBindings.flatMap fun b => rowBytes b.rows

theorem handleReadPlan_eq {p : Fin 4} (code : field body 0 1 = p.val) :
    handleReadPlan body s = accept s (s.planReply p) := by
  rw [handleReadPlan, code, planOfCode_val, State.planReply, s.allBindings_bytes]
  simp [rowBytes, toBytes]

/-- The bytes ahead of the bindings. -/
theorem State.length_planSteps (s : State) (p : Fin 4) : (rowBytes [(0, 1, p.val), (1, 1, s.plans[p].length)]
    ++ s.plans[p].flatMap Step.bytes).length = 2 + 6 * s.plans[p].length := by
  rw [List.length_append, length_rowBytes, length_flatMap_bytes Step.length_bytes]
  rfl

theorem State.length_planReply (s : State) (p : Fin 4) : (s.planReply p).length = 18 + 6 * s.plans[p].length := by
  have bindings : (s.allBindings.flatMap fun b => rowBytes b.rows).length = 16 :=
    length_flatMap_bytes (size := 4) (fun b => length_rowBytes b.rows) s.allBindings
  rw [State.planReply, List.length_append, s.length_planSteps p, bindings]
  omega

/-- The `i`th step of the plan stands behind its number, its length and the steps before it. -/
theorem State.planReply_step (s : State) (p : Fin 4) {i : Nat} (inside : i < s.plans[p].length) :
    ((s.planReply p).drop (2 + 6 * i)).take 6 = s.plans[p][i].bytes :=
  entry_flatMap Step.length_bytes (rowBytes [(0, 1, p.val), (1, 1, s.plans[p].length)]) _ inside

/-- Each binding stands behind the plan, 4 bytes for each binding before it. -/
theorem State.planReply_binding (s : State) (p : Fin 4) (t : TrackId) (d : Direction) :
    Spells (s.planReply p) (2 + 6 * s.plans[p].length
      + 4 * (match t, d with | .t1, .ab => 0 | .t1, .ba => 1 | .t2, .ab => 2 | .t2, .ba => 3)) (s.binding t d).rows := by
  have entry (i : Nat) (inside : i < s.allBindings.length) :
      Spells (s.planReply p) (2 + 6 * s.plans[p].length + 4 * i) s.allBindings[i].rows := by
    have spelled := spells_entry (rows := Binding.rows) (size := 4) (fun _ => rfl) (fun _ => rfl)
      (rowBytes [(0, 1, p.val), (1, 1, s.plans[p].length)] ++ s.plans[p].flatMap Step.bytes) [] s.allBindings i inside
    rwa [List.append_nil, s.length_planSteps p] at spelled
  cases t
  · cases d
    · exact entry 0 (by simp [State.allBindings])
    · exact entry 1 (by simp [State.allBindings])
  · cases d
    · exact entry 2 (by simp [State.allBindings])
    · exact entry 3 (by simp [State.allBindings])

/-! ## READ TIME (R156) -/

/-- The rows of the reply of READ TIME. -/
def State.timeRows (s : State) : List Row :=
  let k := s.tracker
  [(0, 6, s.localTime.toNat), (6, 1, k.state.code), (7, 1, k.enabled.toNat), (8, 1, k.falling.toNat),
   (9, 1, k.phaseError.isSome.toNat), (10, 2, (k.phaseError.getD 0 % 65536).toNat), (12, 1, k.misses),
   (13, 1, k.corrections.length)]

theorem handleReadTime_eq (body : List Byte) (s : State) : handleReadTime body s = accept s (rowBytes s.timeRows) := by
  simp only [handleReadTime, boolByte_eq]
  rfl

/-- What the rows of READ TIME say (R156). -/
theorem State.fields_of_timeRows (spelled : Spells bytes 0 s.timeRows) :
    field bytes 0 6 = s.localTime.toNat ∧ field bytes 6 1 = s.tracker.state.code ∧ field bytes 7 1 = s.tracker.enabled.toNat
    ∧ field bytes 8 1 = s.tracker.falling.toNat ∧ field bytes 9 1 = s.tracker.phaseError.isSome.toNat
    ∧ field bytes 10 2 = (s.tracker.phaseError.getD 0 % 65536).toNat
    ∧ field bytes 12 1 = s.tracker.misses % 256 ∧ field bytes 13 1 = s.tracker.corrections.length % 256 := by
  simp only [Spells, State.timeRows, List.forall_mem_cons, Nat.zero_add] at spelled
  obtain ⟨time, state, enabled, falling, known, error, misses, corrections, -⟩ := spelled
  have code : s.tracker.state.code % 256 = s.tracker.state.code := by cases s.tracker.state <;> rfl
  exact ⟨time.trans (time_mod _), state.trans code, enabled.trans (flag_mod _), falling.trans (flag_mod _),
    known.trans (flag_mod _), error.trans (Nat.mod_eq_of_lt (by simp; omega)), misses, corrections⟩

/-- Settles O22: both replies are laid out row by row. -/
theorem readPlanAndTimeReport : Obligations.ReadPlanAndTimeReport := by
  refine fun s idle => ⟨fun body length => ⟨fun wrong => ?_, fun p code => ?_⟩, rowBytes s.timeRows, ?_, ?_, ?_⟩
  · refine answers_of_handle idle (by omega) length (by simp) ?_ rfl
    simp [handle, handleReadPlan, planOfCode_none wrong, refuse]
  · have start := spells_rowBytes (rows := [(0, 1, p.val), (1, 1, s.plans[p].length)]) rfl []
      (s.plans[p].flatMap Step.bytes ++ s.allBindings.flatMap fun b => rowBytes b.rows)
    rw [List.nil_append, ← List.append_assoc, ← State.planReply] at start
    refine ⟨s.planReply p, answers_of_handle idle (by omega) length (by simp) (handleReadPlan_eq code) rfl,
      s.length_planReply p, (start _ (.head _)).trans (Nat.mod_eq_of_lt ?_), start _ (.tail _ (.head _)),
      fun i inside => s.planReply_step p inside, ?_, fun t d => Binding.fields_of_spells (s.planReply_binding p t d)⟩
    · exact p.isLt.trans (show 4 < 256 ^ 1 by decide)
    · rw [State.planReply, List.drop_left' (s.length_planSteps p), s.allBindings_bytes]
  · exact answers_of_handle idle (by simp) rfl (by simp) (handleReadTime_eq [] s) rfl
  · rw [length_rowBytes]
    rfl
  · have spelled := spells_rowBytes (rows := s.timeRows) rfl [] []
    rw [List.nil_append, List.append_nil] at spelled
    obtain ⟨time, state, enabled, falling, known, error, misses, corrections⟩ := State.fields_of_timeRows spelled
    refine ⟨time, state, enabled, falling, known, fun e some low high => ?_, fun none => ?_, misses, corrections⟩
    · exact fieldInt_eq (by rw [error, some]; rfl) (by omega) (by omega)
    · rw [error, none]
      rfl

end Sys2Proof.Machine
end

section
/-! Proofs: the order of the charge queue, the need times, and what READ STROBES reports (O21). -/

namespace Sys2Proof.Machine

variable {s : State} {body bytes : List Byte} {x : Fin 6}

/-! ## Sorting (R127) -/

/-- Sorting by the order of a key is the library's insertion sort. -/
theorem sortBy_eq_insertionSort {α β : Type} [LinearOrder β] {goesBefore : α → α → Bool} {key : α → β}
    (compares : ∀ a b, goesBefore a b = decide (key a < key b)) (l : List α) :
    sortBy goesBefore l = l.insertionSort (fun a b => key a ≤ key b) := by
  have inserts (x : α) (l : List α) :
      sortBy.insertFirst goesBefore x l = l.orderedInsert (fun a b => key a ≤ key b) x := by
    induction l with
    | nil => rfl
    | cons y rest ih =>
      rw [sortBy.insertFirst, List.orderedInsert_cons, compares, ih]
      by_cases ahead : key y < key x
      · simp [ahead, not_le_of_gt ahead]
      · simp [ahead, le_of_not_gt ahead]
  induction l with
  | nil => rfl
  | cons x rest ih => rw [sortBy, ih, inserts, List.insertionSort_cons]

/-- A list sorted by the order of a key stands in that order. -/
theorem sortBy_pairwise {α β : Type} [LinearOrder β] {goesBefore : α → α → Bool} {key : α → β}
    (compares : ∀ a b, goesBefore a b = decide (key a < key b)) (l : List α) :
    (sortBy goesBefore l).Pairwise fun a b => key a ≤ key b := by
  have total : Std.Total fun a b : α => key a ≤ key b := ⟨fun a b => le_total _ _⟩
  have trans : IsTrans α fun a b => key a ≤ key b := ⟨fun a b c => le_trans⟩
  rw [sortBy_eq_insertionSort compares]
  exact List.pairwise_insertionSort _ l

/-! ## Need times (R92) -/

theorem Step.not_isWait_iff {y : Step} : ¬y.IsWait ↔ (∀ p, y ≠ .atPos p) ∧ ∀ d, y ≠ .after d := by
  simp [Step.IsWait]

theorem runOf_prefix (steps : List Step) : runOf steps <+: steps := by
  induction steps with
  | nil => exact List.nil_prefix
  | cons y rest ih =>
    cases y with
    | atPos p => exact List.nil_prefix
    | after d => exact List.nil_prefix
    | expose c x => exact List.cons_prefix_cons.mpr ⟨rfl, ih⟩
    | mark => exact List.cons_prefix_cons.mpr ⟨rfl, ih⟩

theorem runOf_acts (steps : List Step) : ∀ y ∈ runOf steps, ¬y.IsWait := by
  induction steps with
  | nil => simp [runOf]
  | cons y rest ih =>
    cases y with
    | atPos p => simp [runOf]
    | after d => simp [runOf]
    | expose c x => exact List.forall_mem_cons.mpr ⟨by simp [Step.IsWait], ih⟩
    | mark => exact List.forall_mem_cons.mpr ⟨by simp [Step.IsWait], ih⟩

theorem runOf_append {run : List Step} (acting : ∀ y ∈ run, ¬y.IsWait) (rest : List Step) :
    runOf (run ++ rest) = run ++ runOf rest := by
  induction run with
  | nil => rfl
  | cons y run ih =>
    obtain ⟨acts, others⟩ := List.forall_mem_cons.mp acting
    cases y with
    | atPos p => exact absurd (.inl ⟨p, rfl⟩) acts
    | after d => exact absurd (.inr ⟨d, rfl⟩) acts
    | expose c x => exact congrArg _ (ih others)
    | mark => exact congrArg _ (ih others)

/-- A step belongs to the run up to the next wait exactly where the steps begin with acting ones that hold it. -/
theorem mem_runOf_iff {step : Step} {steps : List Step} :
    step ∈ runOf steps ↔ ∃ run rest, steps = run ++ rest ∧ (∀ y ∈ run, ¬y.IsWait) ∧ step ∈ run := by
  constructor
  · intro mem
    obtain ⟨rest, split⟩ := runOf_prefix steps
    exact ⟨runOf steps, rest, split.symm, runOf_acts steps, mem⟩
  · rintro ⟨run, rest, rfl, acting, mem⟩
    rw [runOf_append acting]
    exact List.mem_append_left _ mem

theorem Step.names_iff {step : Step} : step.names x = true ↔ ∃ camera, step = .expose camera (some x) := by
  rcases step with p | d | ⟨c, _ | y⟩ | _ <;> simp [Step.names, @eq_comm _ x]

/-- An entry needs a strobe where the run behind it, in the plan of its head, exposes with that strobe (R92). -/
theorem entryNeeds_iff {e : TimelineEntry} : s.entryNeeds x e = true ↔ ∃ h k run rest camera,
    s.findHead e.track e.index = some h ∧ h.cursor = some k ∧ s.plans[k.plan].drop (e.step + 1) = run ++ rest
    ∧ (∀ y ∈ run, ¬y.IsWait) ∧ Step.expose camera (some x) ∈ run := by
  have exposes (steps : List Step) : ((runOf steps).any fun p => p.names x) = true ↔ ∃ camera run rest, steps = run ++ rest
      ∧ (∀ y ∈ run, ¬y.IsWait) ∧ Step.expose camera (some x) ∈ run := by
    simp only [List.any_eq_true, Step.names_iff, ← mem_runOf_iff]
    exact ⟨fun ⟨_, mem, camera, same⟩ => ⟨camera, same ▸ mem⟩, fun ⟨camera, mem⟩ => ⟨_, mem, camera, rfl⟩⟩
  constructor
  · intro needs
    cases cursor : (s.findHead e.track e.index).bind (·.cursor) with
    | none => simp [State.entryNeeds, State.planOf, cursor, runOf] at needs
    | some k =>
      obtain ⟨h, found, cursor'⟩ := Option.bind_eq_some_iff.mp cursor
      rw [State.entryNeeds, State.planOf, cursor] at needs
      obtain ⟨camera, run, rest, split⟩ := (exposes _).mp needs
      exact ⟨h, k, run, rest, camera, found, cursor', split⟩
  · rintro ⟨h, k, run, rest, camera, found, cursor, split⟩
    rw [State.entryNeeds, State.planOf, found, Option.bind_some, cursor]
    exact (exposes _).mpr ⟨camera, run, rest, split⟩

theorem needTime_none_iff : s.needTime x = none ↔ ∀ e ∈ s.timeline, ¬s.entryNeeds x e = true := by
  simp [State.needTime, List.find?_eq_none]

/-- A need time is the due time of an entry that needs the strobe and stands ahead of every other one that does. -/
theorem needTime_some {due : LocalTime} (need : s.needTime x = some due) : ∃ ahead e behind,
    s.timeline = ahead ++ e :: behind ∧ s.entryNeeds x e = true ∧ e.due = due
    ∧ ∀ e ∈ ahead, ¬s.entryNeeds x e = true := by
  obtain ⟨e, found, due⟩ := Option.map_eq_some_iff.mp need
  obtain ⟨needs, ahead, behind, split, others⟩ := List.find?_eq_some_iff_append.mp found
  exact ⟨ahead, e, behind, split, needs, due, by simpa using others⟩

/-- In a timeline in order of due time, the need time is the earliest one (R90, R92). -/
theorem needTime_earliest {due : LocalTime} (need : s.needTime x = some due)
    (order : s.timeline.Pairwise fun a b => after a.due b.due = false) {e : TimelineEntry} (mem : e ∈ s.timeline)
    (needs : s.entryNeeds x e = true) : after due e.due = false := by
  obtain ⟨ahead, first, behind, split, -, rfl, others⟩ := needTime_some need
  rw [split] at mem order
  rcases List.mem_append.mp mem with mem | mem
  · exact absurd needs (others e mem)
  · rcases List.mem_cons.mp mem with rfl | mem
    · exact after_self _
    · exact (List.pairwise_cons.mp (List.pairwise_append.mp order).2.1).1 e mem

/-! ## The order of the charge queue (R127) -/

/-- Instants within half the range of local time from a base are compared by their distance from it (R146). -/
theorem after_iff_of_near {x y base : LocalTime} (nearX : (x - base).toNat < 2 ^ 47) (nearY : (y - base).toNat < 2 ^ 47) :
    after x y = true ↔ (y - base).toNat < (x - base).toNat := by
  have apart : x - y = (x - base) - (y - base) := by simp
  rw [after, timeDiff, apart, decide_eq_true_iff, BitVec.toInt_sub, BitVec.toInt_eq_toNat_of_lt (by omega),
    BitVec.toInt_eq_toNat_of_lt (by omega), Int.bmod_eq_of_le (by omega) (by omega)]
  omega

/-- The place of a member in the order of R127: whether it lacks a need time; how far the need time lies from a base, or the
instant at which it joined; its number. -/
def State.chargeKey (s : State) (base : LocalTime) (m : QueueMember) : ℕ ×ₗ ℕ ×ₗ ℕ :=
  match s.needTime m.strobe with
  | some due => toLex (0, toLex ((due - base).toNat, m.strobe.val))
  | none => toLex (1, toLex (m.joined, m.strobe.val))

/-- Every need time lies within half the range of local time from a base. -/
def State.NeedsNear (s : State) (base : LocalTime) : Prop :=
  ∀ x due, s.needTime x = some due → (due - base).toNat < 2 ^ 47

theorem needsNear_of_timeline {base : LocalTime} (near : ∀ e ∈ s.timeline, (e.due - base).toNat < 2 ^ 47) :
    s.NeedsNear base := by
  intro x due need
  obtain ⟨ahead, e, behind, split, -, rfl, -⟩ := needTime_some need
  exact near e (by simp [split])

/-- The order of the charge queue is the order of the keys. -/
theorem chargesBefore_eq {base : LocalTime} (near : s.NeedsNear base) (a b : QueueMember) :
    s.chargesBefore a b = decide (s.chargeKey base a < s.chargeKey base b) := by
  rw [Bool.eq_iff_iff, decide_eq_true_iff, State.chargesBefore, State.chargeKey, State.chargeKey]
  cases needA : s.needTime a.strobe with
  | none => cases needB : s.needTime b.strobe <;> simp [Prod.Lex.toLex_lt_toLex]
  | some due =>
    cases needB : s.needTime b.strobe with
    | none => simp [Prod.Lex.toLex_lt_toLex]
    | some other =>
      have same : due = other ↔ (due - base).toNat = (other - base).toNat := by
        rw [← BitVec.toNat_eq, BitVec.sub_left_inj]
      simp [Prod.Lex.toLex_lt_toLex, after_iff_of_near (near _ _ needB) (near _ _ needA), same]

/-- The charge queue stands in the order of the keys (R127). -/
theorem queueOrder_pairwise {base : LocalTime} (near : s.NeedsNear base) :
    s.queueOrder.Pairwise fun a b => s.chargeKey base a ≤ s.chargeKey base b :=
  sortBy_pairwise (chargesBefore_eq near) _

/-- What the order of the keys says of two members (R127). -/
theorem chargeKey_le {base : LocalTime} (near : s.NeedsNear base) {a b : QueueMember}
    (order : s.chargeKey base a ≤ s.chargeKey base b) :
    match s.needTime a.strobe, s.needTime b.strobe with
    | some x, some y => after x y = false ∧ (x = y → a.strobe ≤ b.strobe)
    | some _, none => True
    | none, some _ => False
    | none, none => a.joined ≤ b.joined ∧ (a.joined = b.joined → a.strobe ≤ b.strobe) := by
  rw [State.chargeKey, State.chargeKey] at order
  cases needA : s.needTime a.strobe with
  | none =>
    cases needB : s.needTime b.strobe with
    | none =>
      simp only [needA, needB, Prod.Lex.toLex_le_toLex] at order
      exact ⟨by omega, by omega⟩
    | some other => simp [needA, needB, Prod.Lex.toLex_le_toLex] at order
  | some due =>
    cases needB : s.needTime b.strobe with
    | none => trivial
    | some other =>
      simp only [needA, needB, Prod.Lex.toLex_le_toLex] at order
      refine ⟨Bool.eq_false_iff.mpr fun late => ?_, fun same => ?_⟩
      · have := (after_iff_of_near (near _ _ needA) (near _ _ needB)).mp late
        omega
      · rw [same] at order
        omega

/-! ## READ STROBES (R130) -/

/-- The rows of a strobe entry. -/
def State.strobeRows (s : State) (x : Fin 6) : List Row :=
  [(0, 1, (s.strobe x).state.code), (1, 2, (s.strobe x).reportedPulse), (3, 1, (s.needTime x).isSome.toNat),
   (4, 6, ((s.needTime x).getD 0#48).toNat)]

/-- The rows of the charger, and of the number of members of the charge queue. -/
def State.chargerRows (s : State) : List Row :=
  [(0, 1, s.charger.isSome.toNat), (1, 1, (s.charger.map fun c => c.strobe.val).getD 0),
   (2, 4, (s.charger.map fun c => c.completes - s.ticks).getD 0), (6, 1, s.chargeQueue.length)]

/-- The rows of an inhibit input. -/
def InhibitInput.rows (i : InhibitInput) : List Row :=
  [(0, 1, i.enabled.toNat), (1, 1, i.activeHigh.toNat), (2, 1, i.active.toNat)]

/-- The bytes of the strobe entries. -/
def State.strobesReply (s : State) : List Byte := allStrobes.flatMap fun x => rowBytes (s.strobeRows x)

/-- The bytes of the members of the charge queue. -/
def State.queueReply (s : State) : List Byte := s.queueOrder.map fun m => BitVec.ofNat 8 m.strobe.val

/-- The bytes of the inhibit inputs. -/
def State.inhibitsReply (s : State) : List Byte := allInhibits.flatMap fun i => rowBytes (s.inhibits[i]).rows

/-- The reply of READ STROBES. -/
def State.poolReply (s : State) : List Byte :=
  s.strobesReply ++ rowBytes s.chargerRows ++ s.queueReply ++ s.inhibitsReply ++ rowBytes [(0, 1, s.inhibit.toNat)]

theorem handleReadStrobes_eq (body : List Byte) (s : State) : handleReadStrobes body s = accept s s.poolReply := by
  have strobe (x : Fin 6) : s.strobeBytes x = rowBytes (s.strobeRows x) := by
    rw [State.strobeBytes, boolByte_eq]
    rfl
  have charger : s.chargerBytes ++ [BitVec.ofNat 8 s.chargeQueue.length] = rowBytes s.chargerRows := by
    rw [State.chargerBytes, State.chargerRows]
    cases s.charger <;> rfl
  have input (i : InhibitInput) : [boolByte i.enabled, boolByte i.activeHigh, boolByte i.active] = rowBytes i.rows := by
    simp only [boolByte_eq]
    rfl
  have inhibit : [boolByte s.inhibit] = rowBytes [(0, 1, s.inhibit.toNat)] := by
    rw [boolByte_eq]
    rfl
  rw [handleReadStrobes, List.append_assoc (allStrobes.flatMap s.strobeBytes), charger, inhibit, State.poolReply,
    State.strobesReply, State.inhibitsReply, funext strobe]
  simp only [input]
  rfl

theorem State.length_strobesReply (s : State) : s.strobesReply.length = 60 :=
  length_flatMap_bytes (size := 10) (fun x => length_rowBytes (s.strobeRows x)) allStrobes

theorem State.length_chargerReply (s : State) : (rowBytes s.chargerRows).length = 7 := length_rowBytes _

theorem State.length_queueReply (s : State) : s.queueReply.length = s.chargeQueue.length :=
  (List.length_map _).trans (sortBy_perm _ _).length_eq

theorem State.length_inhibitsReply (s : State) : s.inhibitsReply.length = 12 :=
  length_flatMap_bytes (size := 3) (fun i => length_rowBytes (s.inhibits[i]).rows) allInhibits

theorem State.length_poolReply (s : State) : s.poolReply.length = 80 + s.chargeQueue.length := by
  have inhibit : (rowBytes [(0, 1, s.inhibit.toNat)]).length = 1 := length_rowBytes _
  simp only [State.poolReply, List.length_append, s.length_strobesReply, s.length_chargerReply, s.length_queueReply,
    s.length_inhibitsReply, inhibit]
  omega

theorem allStrobes_get (x : Fin 6) : allStrobes[x.val]'x.isLt = x := by
  revert x
  decide

theorem allInhibits_get (i : Fin 4) : allInhibits[i.val]'i.isLt = i := by
  revert i
  decide

/-- The fields of a strobe (R130). -/
theorem State.poolReply_strobe (s : State) (x : Fin 6) : field s.poolReply (10 * x.val) 1 = (s.strobe x).state.code
    ∧ field s.poolReply (10 * x.val + 1) 2 = (s.strobe x).reportedPulse % 65536
    ∧ field s.poolReply (10 * x.val + 3) 1 = (s.needTime x).isSome.toNat
    ∧ field s.poolReply (10 * x.val + 4) 6 = ((s.needTime x).getD 0#48).toNat := by
  have spelled := spells_entry (rows := s.strobeRows) (size := 10) (fun _ => rfl) (fun _ => rfl) []
    (rowBytes s.chargerRows ++ s.queueReply ++ s.inhibitsReply ++ rowBytes [(0, 1, s.inhibit.toNat)]) allStrobes x.val x.isLt
  rw [allStrobes_get, List.nil_append, List.length_nil, Nat.zero_add, ← State.strobesReply, ← List.append_assoc,
    ← List.append_assoc, ← List.append_assoc, ← State.poolReply] at spelled
  simp only [Spells, State.strobeRows, List.forall_mem_cons] at spelled
  obtain ⟨state, pulse, known, need, -⟩ := spelled
  have code : (s.strobe x).state.code % 256 = (s.strobe x).state.code := by cases (s.strobe x).state <;> rfl
  exact ⟨state.trans code, pulse, known.trans (flag_mod _), need.trans (time_mod _)⟩

/-- The fields of the charger, and the number of members of the charge queue (R130). -/
theorem State.poolReply_charger (s : State) : field s.poolReply 60 1 = s.charger.isSome.toNat
    ∧ field s.poolReply 61 1 = (s.charger.map fun c => c.strobe.val).getD 0
    ∧ field s.poolReply 62 4 = (s.charger.map fun c => c.completes - s.ticks).getD 0 % 4294967296
    ∧ field s.poolReply 66 1 = s.chargeQueue.length % 256 := by
  have spelled := spells_rowBytes (rows := s.chargerRows) rfl s.strobesReply
    (s.queueReply ++ s.inhibitsReply ++ rowBytes [(0, 1, s.inhibit.toNat)])
  rw [s.length_strobesReply, ← List.append_assoc, ← List.append_assoc, ← State.poolReply] at spelled
  simp only [Spells, State.chargerRows, List.forall_mem_cons] at spelled
  obtain ⟨busy, strobe, left, members, -⟩ := spelled
  refine ⟨busy.trans (flag_mod _), strobe.trans (Nat.mod_eq_of_lt ?_), left, members⟩
  cases s.charger with
  | none => decide
  | some c => exact c.strobe.isLt.trans (show 6 < 256 ^ 1 by decide)

/-- The members of the charge queue stand behind their number (R130). -/
theorem State.poolReply_members (s : State) : (s.poolReply.drop 67).take s.chargeQueue.length = s.queueReply := by
  have ahead : (s.strobesReply ++ rowBytes s.chargerRows).length = 67 := by
    rw [List.length_append, s.length_strobesReply, s.length_chargerReply]
  rw [State.poolReply, List.append_assoc, List.append_assoc _ s.queueReply, List.drop_left' ahead,
    List.take_left' s.length_queueReply]

/-- The fields of an inhibit input (R130). -/
theorem State.poolReply_input (s : State) (i : Fin 4) :
    field s.poolReply (67 + s.chargeQueue.length + 3 * i.val) 1 = s.inhibits[i].enabled.toNat
    ∧ field s.poolReply (68 + s.chargeQueue.length + 3 * i.val) 1 = s.inhibits[i].activeHigh.toNat
    ∧ field s.poolReply (69 + s.chargeQueue.length + 3 * i.val) 1 = s.inhibits[i].active.toNat := by
  have ahead : (s.strobesReply ++ rowBytes s.chargerRows ++ s.queueReply).length = 67 + s.chargeQueue.length := by
    rw [List.length_append, List.length_append, s.length_strobesReply, s.length_chargerReply, s.length_queueReply]
  have spelled := spells_entry (rows := fun i : Fin 4 => s.inhibits[i].rows) (size := 3) (fun _ => rfl) (fun _ => rfl)
    (s.strobesReply ++ rowBytes s.chargerRows ++ s.queueReply) (rowBytes [(0, 1, s.inhibit.toNat)]) allInhibits i.val i.isLt
  rw [allInhibits_get, ahead, ← State.inhibitsReply, ← State.poolReply] at spelled
  simp only [Spells, InhibitInput.rows, List.forall_mem_cons] at spelled
  obtain ⟨enabled, polarity, active, -⟩ := spelled
  exact ⟨enabled.trans (flag_mod _),
    (congrArg (field s.poolReply · 1) (by omega)).trans (polarity.trans (flag_mod _)),
    (congrArg (field s.poolReply · 1) (by omega)).trans (active.trans (flag_mod _))⟩

/-- The combined inhibit stands last (R130). -/
theorem State.poolReply_inhibit (s : State) : field s.poolReply (79 + s.chargeQueue.length) 1 = s.inhibit.toNat := by
  have ahead : (s.strobesReply ++ rowBytes s.chargerRows ++ s.queueReply ++ s.inhibitsReply).length
      = 79 + s.chargeQueue.length := by
    simp only [List.length_append, s.length_strobesReply, s.length_chargerReply, s.length_queueReply, s.length_inhibitsReply]
    omega
  have spelled := spells_rowBytes (rows := [(0, 1, s.inhibit.toNat)]) rfl
    (s.strobesReply ++ rowBytes s.chargerRows ++ s.queueReply ++ s.inhibitsReply) []
  rw [ahead, List.append_nil, ← State.poolReply] at spelled
  exact (spelled _ (.head _)).trans (flag_mod _)

/-- Settles O21: the reply is laid out row by row, and its members stand in the order of their keys. -/
theorem readStrobesReports : Obligations.ReadStrobesReports := by
  intro s idle
  obtain ⟨busy, charging, left, members⟩ := s.poolReply_charger
  refine ⟨s.poolReply, answers_of_handle idle (by simp) rfl (by simp) (handleReadStrobes_eq [] s) rfl, s.length_poolReply,
    s.poolReply_strobe, busy, charging, left, members,
    ⟨s.queueOrder, sortBy_perm _ _, s.poolReply_members, fun base near => ?_⟩, s.poolReply_input, s.poolReply_inhibit,
    fun x => ?_⟩
  · have needs := needsNear_of_timeline near
    exact (queueOrder_pairwise needs).imp (chargeKey_le needs)
  · simp only [← Step.not_isWait_iff, ← entryNeeds_iff]
    refine ⟨needTime_none_iff, fun due need => ⟨?_, fun order e => needTime_earliest need order⟩⟩
    obtain ⟨ahead, e, behind, split, needs, due, -⟩ := needTime_some need
    exact ⟨e, by simp [split], needs, due⟩

end Sys2Proof.Machine
end

section
/-! Proofs: plans are loaded and bound (O39). -/

namespace Sys2Proof.Machine

variable {s : State} {body : List Byte} {p : Fin 4} {t : TrackId} {d : Direction} {steps : List Step}

/-! ## The steps that bytes spell (R79, R80, R186) -/

/-- A field of a part of the bytes. -/
theorem field_part {base size offset n : Nat} (fits : offset + n ≤ size) :
    field ((body.drop base).take size) offset n = field body (base + offset) n := by
  rw [field, List.drop_take, List.take_take, List.drop_drop, Nat.min_eq_left (by omega), field]

theorem fieldInt_part {base size offset n : Nat} (fits : offset + n ≤ size) :
    fieldInt ((body.drop base).take size) offset n = fieldInt body (base + offset) n := by
  simp only [fieldInt, field_part fits]

/-- The operands of a step lie in range (R79). -/
def Step.InRange : Step → Prop
  | .atPos p => -40000 ≤ p ∧ p ≤ 40000
  | .after d => 1 ≤ d ∧ d ≤ 1000000
  | _ => True

theorem cameraOfCode_val (i : Fin 8) : cameraOfCode i.val = some i := dif_pos i.isLt

theorem strobeOfCode_val (x : Fin 6) : strobeOfCode x.val = some x := dif_pos x.isLt

/-- The bytes of a step in range spell it. -/
theorem stepOfBytes_of_spells {i : Nat} {x : Step} (spelled : SpellsStep body i x) (fits : x.InRange) :
    stepOfBytes ((body.drop (2 + 6 * i)).take 6) = some x := by
  rw [stepOfBytes, field_part (by omega), Nat.add_zero]
  cases x with
  | atPos p =>
    obtain ⟨kind, position⟩ := spelled
    rw [kind]
    simp only [fieldInt_part (show 1 + 4 ≤ 6 by omega), position]
    obtain ⟨low, high⟩ := fits
    exact if_pos (by simp [inRangeInt, low, high])
  | after d =>
    obtain ⟨kind, delay⟩ := spelled
    rw [kind]
    simp only [field_part (show 1 + 4 ≤ 6 by omega), delay]
    exact if_pos (inRange_iff.mpr fits)
  | expose c strobe =>
    cases strobe with
    | none =>
      obtain ⟨kind, camera, absent⟩ := spelled
      rw [kind]
      simp only [field_part (show 1 + 1 ≤ 6 by omega), field_part (show 2 + 1 ≤ 6 by omega), camera, absent,
        cameraOfCode_val]
    | some y =>
      obtain ⟨kind, camera, present, number⟩ := spelled
      rw [kind]
      simp only [field_part (show 1 + 1 ≤ 6 by omega), field_part (show 2 + 1 ≤ 6 by omega),
        field_part (show 3 + 1 ≤ 6 by omega), camera, present, number, cameraOfCode_val, strobeOfCode_val, Option.map_some]
  | mark =>
    have kind : field body (2 + 6 * i) 1 = 4 := spelled
    rw [kind]
    rfl

/-- Bytes of an unknown kind, or with an operand out of range, spell no step. -/
theorem stepOfBytes_none {base : Nat}
    (bad : field body base 1 = 0 ∨ 4 < field body base 1
      ∨ (field body base 1 = 1 ∧ (fieldInt body (base + 1) 4 < -40000 ∨ 40000 < fieldInt body (base + 1) 4))
      ∨ (field body base 1 = 2 ∧ (field body (base + 1) 4 = 0 ∨ 1000000 < field body (base + 1) 4))
      ∨ (field body base 1 = 3 ∧ (7 < field body (base + 1) 1 ∨ 1 < field body (base + 2) 1
          ∨ (field body (base + 2) 1 = 1 ∧ 5 < field body (base + 3) 1)))) :
    stepOfBytes ((body.drop base).take 6) = none := by
  simp only [stepOfBytes, field_part (show 0 + 1 ≤ 6 by omega), field_part (show 1 + 1 ≤ 6 by omega),
    field_part (show 2 + 1 ≤ 6 by omega), field_part (show 3 + 1 ≤ 6 by omega), field_part (show 1 + 4 ≤ 6 by omega),
    fieldInt_part (show 1 + 4 ≤ 6 by omega), Nat.add_zero]
  rcases bad with zero | large | ⟨kind, position⟩ | ⟨kind, delay⟩ | ⟨kind, operand⟩
  · rw [zero]
    rfl
  · split
    iterate 4 · omega
    rfl
  · rw [kind]
    exact if_neg (by simp [inRangeInt]; omega)
  · rw [kind]
    exact if_neg (by rw [inRange_iff]; omega)
  · rw [kind]
    rcases operand with camera | presence | ⟨present, strobe⟩
    · rw [cameraOfCode, dif_neg (by omega)]
      rfl
    · simp only
      split
      · omega
      · omega
      · rfl
    · rw [present, strobeOfCode, dif_neg (by omega)]
      cases cameraOfCode (field body (base + 1) 1) <;> rfl

/-- Bytes spell the steps whose 6 bytes each of them spells. -/
theorem stepsOfBytes_iff {n : Nat} {b : List Byte} : stepsOfBytes n b = some steps ↔
    steps.length = n ∧ ∀ i (inside : i < steps.length), stepOfBytes ((b.drop (6 * i)).take 6) = some steps[i] := by
  induction n generalizing b steps with
  | zero =>
    rw [stepsOfBytes, Option.some_inj]
    constructor
    · rintro rfl
      simp
    · exact fun h => (List.eq_nil_of_length_eq_zero h.1).symm
  | succ n ih =>
    have rest (i : Nat) : b.drop (6 * (i + 1)) = (b.drop 6).drop (6 * i) := by
      rw [List.drop_drop, Nat.mul_succ, Nat.add_comm]
    have all : stepsOfBytes (n + 1) b = some steps ↔
        ∃ x more, stepOfBytes (b.take 6) = some x ∧ stepsOfBytes n (b.drop 6) = some more ∧ x :: more = steps := by
      rw [stepsOfBytes]
      cases stepOfBytes (b.take 6) <;> cases stepsOfBytes n (b.drop 6) <;> simp
    rw [all]
    constructor
    · rintro ⟨x, more, first, others, rfl⟩
      obtain ⟨length, spelled⟩ := ih.mp others
      refine ⟨by simp [length], fun i inside => ?_⟩
      cases i with
      | zero => exact first
      | succ i => rw [rest]; exact spelled i (by simpa using inside)
    · rintro ⟨length, spelled⟩
      cases steps with
      | nil => simp at length
      | cons x more =>
        refine ⟨x, more, spelled 0 (by simp), ih.mpr ⟨by simpa using length, fun i inside => ?_⟩, rfl⟩
        rw [← rest]
        exact spelled (i + 1) (by simpa using inside)

/-- A step out of range refuses the whole plan. -/
theorem stepsOfBytes_none {n i : Nat} {b : List Byte} (inside : i < n) (bad : stepOfBytes ((b.drop (6 * i)).take 6) = none) :
    stepsOfBytes n b = none := by
  refine Option.eq_none_iff_forall_ne_some.mpr fun steps spelled => ?_
  obtain ⟨length, each⟩ := stepsOfBytes_iff.mp spelled
  have good := each i (by omega)
  rw [bad] at good
  exact nomatch good

/-! ## The shape of a plan (R80) -/

theorem atPositions_eq (steps : List Step) :
    atPositions steps = steps.filterMap fun x => match x with | .atPos p => some p | _ => none := by
  induction steps with
  | nil => rfl
  | cons x rest ih => cases x <;> simp [atPositions, ih]

theorem neverFalls_iff (l : List Int) : neverFalls l = true ↔ l.Pairwise (· ≤ ·) := by
  rw [← List.isChain_iff_pairwise]
  induction l with
  | nil => simp [neverFalls]
  | cons a l ih =>
    cases l with
    | nil => simp [neverFalls]
    | cons b rest => rw [neverFalls, Bool.and_eq_true, decide_eq_true_iff, ih, List.isChain_cons_cons]

theorem startsAt_iff : (steps.head?.map Step.isAt).getD false = true ↔ ∃ p rest, steps = .atPos p :: rest := by
  rcases steps with _ | ⟨_ | _ | _ | _, rest⟩ <;> simp [Step.isAt]

/-- The conditions of R80 on a plan as a whole. -/
theorem planOk_iff : planOk steps = true ↔ 1 ≤ steps.length ∧ steps.length ≤ 16 ∧ (∃ p rest, steps = .atPos p :: rest)
    ∧ (atPositions steps).Pairwise (· ≤ ·) ∧ steps.countP Step.isExpose ≤ 8 ∧ steps.countP Step.isMark ≤ 4 := by
  simp only [planOk, Bool.and_eq_true, decide_eq_true_iff, inRange_iff, startsAt_iff, neverFalls_iff,
    List.countP_eq_length_filter, and_assoc]

/-! ## LOAD PLAN (R80, R81) -/

theorem mem_boundPlans : p ∈ s.boundPlans t ↔ ∃ d, (s.binding t d).plan = some p := by
  simp only [State.boundPlans, List.mem_append, Option.mem_toList]
  exact ⟨fun bound => bound.elim (fun ab => ⟨.ab, ab⟩) fun ba => ⟨.ba, ba⟩,
    fun ⟨d, bound⟩ => by cases d; exacts [.inl bound, .inr bound]⟩

/-- A plan is in service where a binding of a track that is not OFFLINE names it (R80). -/
theorem planInService_iff : s.planInService p = true ↔
    ¬∀ t d, (s.binding t d).plan = some p → (s.channel t).state = .offline := by
  simp only [State.planInService, List.any_eq_true, mem_allTracks, true_and, Bool.and_eq_true, bne_iff_ne,
    List.contains_iff_mem, mem_boundPlans]
  push Not
  exact exists_congr fun t => ⟨fun ⟨awake, d, bound⟩ => ⟨d, bound, awake⟩, fun ⟨d, bound, awake⟩ => ⟨awake, d, bound⟩⟩

theorem handleLoadPlan_eq (code : field body 0 1 = p.val)
    (spelled : stepsOfBytes (field body 1 1) (body.drop 2) = some steps) :
    handleLoadPlan body s = if !planOk steps then refuse s .badValue
      else if s.planInService p then refuse s .wrongState
      else accept { s with plans := s.plans.set p steps } [] := by
  rw [handleLoadPlan, code, planOfCode_val, spelled]
  rfl

theorem handleLoadPlan_unspelled (bad : stepsOfBytes (field body 1 1) (body.drop 2) = none) :
    handleLoadPlan body s = refuse s .badValue := by
  rw [handleLoadPlan, bad]
  cases planOfCode (field body 0 1) <;> rfl

theorem handleLoadPlan_noPlan (code : 4 ≤ field body 0 1) : handleLoadPlan body s = refuse s .badValue := by
  rw [handleLoadPlan, planOfCode_none code]

/-- LOAD PLAN judges the plan as a whole, then the bindings that name it (R80). -/
theorem judged_loadPlan (idle : s.LinkIdle) (fits : body.length ≤ 248)
    (length : body.length = RequestKind.loadPlan.requiredLength body) (code : field body 0 1 = p.val)
    (spelled : stepsOfBytes (field body 1 1) (body.drop 2) = some steps) :
    Judged .loadPlan body s (planOk steps = true) (∀ t d, (s.binding t d).plan = some p → (s.channel t).state = .offline)
      { s with plans := s.plans.set p steps } [] := by
  have handled := handleLoadPlan_eq (s := s) code spelled
  refine judged_of_handle idle fits length (by simp) (fun bad => handled.trans ?_) (fun good inService => handled.trans ?_)
    (fun good free => handled.trans ?_) rfl
  · rw [Bool.eq_false_iff.mpr bad]
    rfl
  · rw [good, planInService_iff.mpr inService]
    rfl
  · rw [good, Bool.eq_false_iff.mpr (mt planInService_iff.mp (not_not_intro free))]
    rfl

/-! ## BIND PLAN (R82, R83) -/

theorem directionOfCode_code (d : Direction) : directionOfCode (directionCode d) = some d := by cases d <;> rfl

theorem directionOfCode_none {n : Nat} (h : 1 < n) : directionOfCode n = none := by
  unfold directionOfCode
  split
  · omega
  · omega
  · rfl

theorem planOfCode_iff {n : Nat} : planOfCode n = some p ↔ n = p.val := by
  unfold planOfCode
  split
  · rw [Option.some_inj, Fin.ext_iff]
  · exact iff_of_false nofun (by omega)

/-- A BIND PLAN body names no plan, or a plan that is loaded (R83). -/
def State.BindsLoaded (s : State) (body : List Byte) : Prop :=
  field body 2 1 ≤ 1 ∧ (field body 2 1 = 1 → ∃ p : Fin 4, field body 3 1 = p.val ∧ s.plans[p] ≠ [])

theorem bindsLoaded_iff : s.BindsLoaded body ↔ ∃ plan, boundPlanOf body = some plan ∧ s.planLoaded plan = true := by
  unfold State.BindsLoaded boundPlanOf
  split
  · next absent => simp [absent, State.planLoaded]
  · next present => simp [present, State.planLoaded, planOfCode_iff]
  · next zero one => exact iff_of_false (fun named => (Nat.le_one_iff_eq_zero_or_eq_one.mp named.1).elim zero one) (by simp)

/-- The plan that a BIND PLAN body binds. -/
theorem boundPlanOf_eq {plan : Option (Fin 4)} (bound : boundPlanOf body = some plan) :
    plan = if field body 2 1 = 0 then none else planOfCode (field body 3 1) := by
  unfold boundPlanOf at bound
  split at bound
  · next absent => simpa [absent, eq_comm] using bound
  · next present =>
    obtain ⟨p, code, rfl⟩ := Option.map_eq_some_iff.mp bound
    simp [present, code]
  · simp at bound

theorem handleBindPlan_eq {plan : Option (Fin 4)} (track : field body 0 1 = trackCode t)
    (direction : field body 1 1 = directionCode d) (bound : boundPlanOf body = some plan) :
    handleBindPlan body s = if !(field body 4 2 ≤ 1000 && s.planLoaded plan) then refuse s .badValue
      else if (s.channel t).state != .offline then refuse s .wrongState
      else accept
        { s with bindings := s.bindings.set t
                    ((s.bindings.get t).set d { plan := plan, tolerance := field body 4 2 }) } [] := by
  rw [handleBindPlan, track, trackOfCode_code, direction, directionOfCode_code, bound]

theorem handleBindPlan_unnamed (bad : trackOfCode (field body 0 1) = none ∨ directionOfCode (field body 1 1) = none
    ∨ boundPlanOf body = none) : handleBindPlan body s = refuse s .badValue := by
  rw [handleBindPlan]
  rcases bad with track | direction | bound
  · rw [track]
  · rw [direction]
    cases trackOfCode (field body 0 1) <;> rfl
  · rw [bound]
    cases trackOfCode (field body 0 1) <;> cases directionOfCode (field body 1 1) <;> rfl

theorem handleBindPlan_bad (track : field body 0 1 = trackCode t) (direction : field body 1 1 = directionCode d)
    (bad : ¬(s.BindsLoaded body ∧ field body 4 2 ≤ 1000)) : handleBindPlan body s = refuse s .badValue := by
  cases bound : boundPlanOf body with
  | none => exact handleBindPlan_unnamed (.inr (.inr bound))
  | some plan =>
    rw [handleBindPlan_eq track direction bound, if_pos]
    rw [Bool.not_eq_true', Bool.eq_false_iff]
    intro good
    obtain ⟨tolerance, loaded⟩ := Bool.and_eq_true_iff.mp good
    exact bad ⟨bindsLoaded_iff.mpr ⟨plan, bound, loaded⟩, of_decide_eq_true tolerance⟩

theorem handleBindPlan_good (track : field body 0 1 = trackCode t) (direction : field body 1 1 = directionCode d)
    (named : s.BindsLoaded body) (tolerance : field body 4 2 ≤ 1000) :
    handleBindPlan body s = if (s.channel t).state != .offline then refuse s .wrongState
      else accept
        { s with bindings := s.bindings.set t ((s.bindings.get t).set d
            { plan := if field body 2 1 = 0 then none else planOfCode (field body 3 1)
              tolerance := field body 4 2 }) } [] := by
  obtain ⟨plan, bound, loaded⟩ := bindsLoaded_iff.mp named
  rw [handleBindPlan_eq track direction bound, loaded, decide_eq_true tolerance, boundPlanOf_eq bound]
  rfl

/-- BIND PLAN judges the plan that it names and the tolerance, then the state of the track (R83). -/
theorem judged_bindPlan (idle : s.LinkIdle) (length : body.length = 6) (track : field body 0 1 = trackCode t)
    (direction : field body 1 1 = directionCode d) :
    Judged .bindPlan body s (s.BindsLoaded body ∧ field body 4 2 ≤ 1000) ((s.channel t).state = .offline)
      { s with bindings := s.bindings.set t ((s.bindings.get t).set d
          { plan := if field body 2 1 = 0 then none else planOfCode (field body 3 1)
            tolerance := field body 4 2 }) } [] := by
  have handled (good : s.BindsLoaded body ∧ field body 4 2 ≤ 1000) := handleBindPlan_good track direction good.1 good.2
  exact judged_of_handle idle (by omega) length (by simp) (handleBindPlan_bad track direction)
    (fun good wrong => (handled good).trans (if_pos (bne_iff_ne.mpr wrong)))
    (fun good offline => (handled good).trans (if_neg (by simp [offline]))) rfl

/-- Settles O39: LOAD PLAN judges each step and then the plan as a whole, BIND PLAN the plan that it names. -/
theorem plansAreLoadedAndBound : Obligations.PlansAreLoadedAndBound := by
  refine fun s idle => ⟨?_, ?_, ?_, ?_⟩
  · intro body steps length count spells positions _ shape inRange few
    have fits : body.length ≤ 248 := by omega
    have required : body.length = RequestKind.loadPlan.requiredLength body := by
      rw [RequestKind.requiredLength, count]
      exact length
    refine ⟨fun code => answers_of_handle idle fits required (by simp) (handleLoadPlan_noPlan code) rfl, fun p code => ?_⟩
    have spelled : stepsOfBytes (field body 1 1) (body.drop 2) = some steps := by
      refine stepsOfBytes_iff.mpr ⟨count.symm, fun i inside => ?_⟩
      rw [List.drop_drop]
      exact stepOfBytes_of_spells (spells i inside) (inRange _ (List.getElem_mem inside))
    have whole : planOk steps = true ↔ shape := by
      rw [planOk_iff, atPositions_eq]
      rfl
    exact propext whole ▸ judged_loadPlan idle fits required code spelled
  · intro body i length fits inside base kind bad
    refine answers_of_handle idle fits length (by simp) (handleLoadPlan_unspelled (stepsOfBytes_none inside ?_)) rfl
    rw [List.drop_drop]
    exact stepOfBytes_none bad
  · intro body length bad
    refine answers_of_handle idle (by omega) length (by simp) (handleBindPlan_unnamed ?_) rfl
    exact bad.imp trackOfCode_none fun direction => .inl (directionOfCode_none direction)
  · intro t d present number tolerance small body plan
    have bindsPresent : field body 2 1 = present.toNat := by simp [body, field, fromBytes]
    have bindsNumber : field body 3 1 = number.toNat := by simp [body, field, fromBytes]
    have bindsTolerance : field body 4 2 = tolerance := (field_toBytes 2 tolerance []).trans (Nat.mod_eq_of_lt small)
    have track : field body 0 1 = trackCode t := by cases t <;> rfl
    have direction : field body 1 1 = directionCode d := by cases d <;> rfl
    have named : (present.toNat ≤ 1 ∧ (present = 1#8 → ∃ p : Fin 4, number.toNat = p.val ∧ s.plans[p] ≠ [])
        ∧ tolerance ≤ 1000) ↔ s.BindsLoaded body ∧ tolerance ≤ 1000 := by
      rw [State.BindsLoaded, bindsPresent, bindsNumber, BitVec.toNat_eq, and_assoc]
      rfl
    have bound : (if field body 2 1 = 0 then none else planOfCode (field body 3 1)) = plan := by
      simp only [plan, bindsPresent, bindsNumber, BitVec.toNat_eq]
      rfl
    have judged := judged_bindPlan idle (by simp [body]) track direction
    rw [bound, bindsTolerance, ← propext named] at judged
    exact judged

end Sys2Proof.Machine
end

section
/-! Proofs: a RESTART, from its reply to what it leaves (O10). -/

namespace Sys2Proof.Machine

variable {s : State} {x : Transmission}

/-! ## The end of a reply (R178) -/

theorem baudRate_pos (straps : BitVec 2) : 0 < baudRate straps := by
  unfold baudRate
  split <;> decide

/-- A reply has been sent once its bits have taken their time. -/
theorem replyDue_of_sent (sending : s.link.transmission = some x) (started : x.started ≤ s.ticks)
    (sent : x.bytes.length * 10 * 1000000 ≤ (s.ticks - x.started) * baudRate s.link.baud) : s.replyDue = true := by
  have time : sendTicks s.link.baud x.bytes.length ≤ s.ticks - x.started :=
    (ceilDiv_le_iff (baudRate_pos _)).mpr (by rwa [Nat.mul_comm (baudRate _)])
  simp only [State.replyDue, sending, decide_eq_true_eq]
  omega

theorem restarts_eq (sending : s.link.transmission = some x) : s.restarts = x.restarts := by
  rw [State.restarts, sending]

theorem restarts_eq_false (others : ∀ x, s.link.transmission = some x → x.restarts = false) : s.restarts = false := by
  cases sending : s.link.transmission with
  | none => rw [State.restarts, sending]
  | some x => rw [restarts_eq sending, others x sending]

/-! ## What a restart leaves (R116, R158, R180) -/

theorem restart_camera (s : State) (i : Fin 8) :
    s.restart.camera i = { Camera.reset with lastExposure := (s.camera i).lastExposure } := by
  simp [State.camera, State.restart, Camera.afterRestart]

/-- A restart leaves what both resets leave alike: it differs from them in the timebase, the cameras and the receiver. -/
theorem restart_afterReset (s : State) : AfterReset s s.restart := by
  obtain ⟨channels, plans, bindings, timeline, strobes, queue, charger, chgEn, chgSel, inhibits, inhibit, health, rejoin,
    store, -, -, attention, pending, choices⟩ := afterReset_common s s.link.baud
  exact ⟨channels, plans, bindings, timeline, strobes, queue, charger, chgEn, chgSel, inhibits, inhibit, health, rejoin,
    store, ⟨rfl, rfl⟩, rfl, attention, pending, choices⟩

/-- The receiver hunts after a restart, and remembers a frame that it abandons (R180). -/
theorem restart_receiver (s : State) :
    (∀ taken last, s.link.receiver = .inFrame taken last → s.restart.link.receiver = .abandoned taken last s.ticks)
    ∧ ((∀ taken last, s.link.receiver ≠ .inFrame taken last) → s.restart.link.receiver = .hunting) := by
  have after : s.restart.link.receiver = s.link.receiver.afterRestart s.ticks := rfl
  rw [after]
  cases s.link.receiver with
  | hunting => exact ⟨nofun, fun _ => rfl⟩
  | abandoned _ _ _ => exact ⟨nofun, fun _ => rfl⟩
  | inFrame taken last =>
    refine ⟨fun taken' last' same => ?_, fun outside => absurd rfl (outside taken last)⟩
    obtain ⟨rfl, rfl⟩ := Receiver.inFrame.inj same
    rfl

/-- An accepted RESTART has its reply in transmission, and changes nothing else yet (R180). -/
theorem process_restart (s : State) (tag : Byte) : s.process { kind := 0x02#8, tag := tag, body := [] } =
    { s with
      link := { s.link with
        transmission := some
          { request := { kind := 0x02#8, tag := tag, body := [] }
            bytes := replyFrame { kind := 0x02#8, tag := tag, body := [] } .ok []
            started := s.ticks
            restarts := true } } } := rfl

/-- Settles O10: the reply goes out at once, and the part restarts at its end, by either row. -/
theorem restartActsWhenItsReplyIsSent : Obligations.RestartActsWhenItsReplyIsSent := by
  refine ⟨fun s tag idle => ?_, fun s x sending restarts started sent => ?_, fun s others => ?_⟩
  · exact (exec_command_idle idle .restart tag (by simp)).trans (congrArg _ (process_restart s tag))
  · have due := replyDue_of_sent sending started sent
    have marked : s.restarts = true := (restarts_eq sending).trans restarts
    have takesEffect : Completes .restartTakesEffect s s.restart := by
      change execRestartTakesEffect s = _
      rw [execRestartTakesEffect, due, marked]
      rfl
    have replySent : Completes .replySent s s.restart := by
      change execReplySent s = _
      rw [execReplySent, if_pos due, if_pos marked]
    obtain ⟨abandons, hunts⟩ := restart_receiver s
    exact ⟨s.restart, takesEffect, replySent, restart_afterReset s, rfl, rfl, rfl, rfl, abandons, hunts, restart_camera s⟩
  · change execRestartTakesEffect s = _
    rw [execRestartTakesEffect, restarts_eq_false others, Bool.and_false]
    rfl

end Sys2Proof.Machine
end

section
/-! Proofs: what READ CAMERAS and READ HEALTH report (O20). -/

namespace Sys2Proof.Machine

/-! ## READ CAMERAS (R113) -/

/-- The rows of a camera. -/
def Camera.rows (c : Camera) : List Row :=
  [(0, 1, c.state.code), (1, 1, optTrackCode c.track), (2, 1, c.confirm.isSome.toNat), (3, 1, c.noReturnRun),
   (4, 4, c.takenTotal), (8, 4, c.confirmedTotal), (12, 4, c.noReturnTotal)]

theorem Camera.bytes_eq (c : Camera) : c.bytes = rowBytes c.rows := by
  rw [Camera.bytes, boolByte_eq]
  rfl

/-- The reply of READ CAMERAS. -/
def State.camerasReply (s : State) : List Byte := allCameras.flatMap fun i => rowBytes (s.camera i).rows

theorem handleReadCameras_eq (body : List Byte) (s : State) : handleReadCameras body s = accept s s.camerasReply := by
  simp only [handleReadCameras, Camera.bytes_eq]
  rfl

theorem State.length_camerasReply (s : State) : s.camerasReply.length = 128 :=
  length_flatMap_bytes (size := 16) (fun i => length_rowBytes (s.camera i).rows) allCameras

theorem allCameras_get (i : Fin 8) : allCameras[i.val]'i.isLt = i := by
  revert i
  decide

theorem State.camerasReply_spells (s : State) (i : Fin 8) : Spells s.camerasReply (16 * i.val) (s.camera i).rows := by
  have spelled := spells_entry (rows := fun i => (s.camera i).rows) (size := 16) (fun _ => rfl) (fun _ => rfl) [] []
    allCameras i.val i.isLt
  rwa [allCameras_get, List.nil_append, List.append_nil, List.length_nil, Nat.zero_add] at spelled

/-- The fields of a camera (R113). -/
theorem State.camerasReply_camera (s : State) (i : Fin 8) : field s.camerasReply (16 * i.val) 1 = (s.camera i).state.code
    ∧ field s.camerasReply (16 * i.val + 1) 1 = optTrackCode (s.camera i).track
    ∧ field s.camerasReply (16 * i.val + 2) 1 = (s.camera i).confirm.isSome.toNat
    ∧ field s.camerasReply (16 * i.val + 3) 1 = (s.camera i).noReturnRun % 256
    ∧ field s.camerasReply (16 * i.val + 4) 4 = (s.camera i).takenTotal % 4294967296
    ∧ field s.camerasReply (16 * i.val + 8) 4 = (s.camera i).confirmedTotal % 4294967296
    ∧ field s.camerasReply (16 * i.val + 12) 4 = (s.camera i).noReturnTotal % 4294967296 := by
  have spelled := s.camerasReply_spells i
  simp only [Spells, Camera.rows, List.forall_mem_cons] at spelled
  obtain ⟨state, track, window, run, taken, confirmed, missed, -⟩ := spelled
  have stateByte : (s.camera i).state.code % 256 = (s.camera i).state.code := by cases (s.camera i).state <;> rfl
  have trackByte : optTrackCode (s.camera i).track % 256 = optTrackCode (s.camera i).track := by
    rcases (s.camera i).track with _ | _ | _ <;> rfl
  exact ⟨state.trans stateByte, track.trans trackByte, window.trans (flag_mod _), run, taken, confirmed, missed⟩

/-! ## READ HEALTH (R143) -/

/-- The rows of a health entry. -/
def Health.rows (h : Health) : List Row :=
  [(0, 1, h.state.code), (1, 1, h.score), (2, 1, h.progress), (3, 4, h.faults), (7, 4, h.goods)]

theorem Health.bytes_eq (h : Health) : h.bytes = rowBytes h.rows := rfl

/-- The reply of READ HEALTH. -/
def State.healthReply (s : State) : List Byte :=
  rowBytes [(0, 1, s.autoRejoin.toNat)] ++ allSensorIndices.flatMap fun i => rowBytes (s.health[i]).rows

theorem handleReadHealth_eq (body : List Byte) (s : State) : handleReadHealth body s = accept s s.healthReply := by
  simp only [handleReadHealth, Health.bytes_eq, boolByte_eq]
  rfl

theorem State.length_healthReply (s : State) : s.healthReply.length = 133 := by
  have entries : (allSensorIndices.flatMap fun i => rowBytes (s.health[i]).rows).length = 132 :=
    length_flatMap_bytes (size := 11) (fun i => length_rowBytes (s.health[i]).rows) allSensorIndices
  rw [State.healthReply, List.length_append, length_rowBytes, entries]
  rfl

theorem allSensorIndices_get (i : Fin 12) : allSensorIndices[i.val]'i.isLt = i := by
  revert i
  decide

/-- The switch stands ahead of the sensors (R143). -/
theorem State.healthReply_switch (s : State) : field s.healthReply 0 1 = s.autoRejoin.toNat :=
  (spells_rowBytes (rows := [(0, 1, s.autoRejoin.toNat)]) rfl [] _ _ (.head _)).trans (flag_mod _)

theorem State.healthReply_spells (s : State) (i : Fin 12) : Spells s.healthReply (1 + 11 * i.val) (s.health[i]).rows := by
  have spelled := spells_entry (rows := fun i : Fin 12 => (s.health[i]).rows) (size := 11) (fun _ => rfl) (fun _ => rfl)
    (rowBytes [(0, 1, s.autoRejoin.toNat)]) [] allSensorIndices i.val i.isLt
  rwa [allSensorIndices_get, List.append_nil] at spelled

/-- The fields of a sensor (R143). -/
theorem State.healthReply_sensor (s : State) (i : Fin 12) :
    field s.healthReply (1 + 11 * i.val) 1 = s.health[i].state.code
    ∧ field s.healthReply (2 + 11 * i.val) 1 = s.health[i].score % 256
    ∧ field s.healthReply (3 + 11 * i.val) 1 = s.health[i].progress % 256
    ∧ field s.healthReply (4 + 11 * i.val) 4 = s.health[i].faults % 4294967296
    ∧ field s.healthReply (8 + 11 * i.val) 4 = s.health[i].goods % 4294967296 := by
  have spelled := s.healthReply_spells i
  simp only [Spells, Health.rows, List.forall_mem_cons, Nat.add_right_comm 1] at spelled
  obtain ⟨state, score, progress, faults, goods, -⟩ := spelled
  have stateByte : s.health[i].state.code % 256 = s.health[i].state.code := by cases s.health[i].state <;> rfl
  exact ⟨state.trans stateByte, score, progress, faults, goods⟩

/-- Settles O20: both replies are laid out row by row. -/
theorem readCamerasAndHealthReport : Obligations.ReadCamerasAndHealthReport := fun s idle =>
  ⟨⟨s.camerasReply, answers_of_handle idle (by simp) rfl (by simp) (handleReadCameras_eq [] s) rfl, s.length_camerasReply,
      s.camerasReply_camera⟩,
    s.healthReply, answers_of_handle idle (by simp) rfl (by simp) (handleReadHealth_eq [] s) rfl, s.length_healthReply,
    s.healthReply_switch, s.healthReply_sensor⟩

end Sys2Proof.Machine
end

section
/-! Proofs: the timers of a camera (O41). -/

namespace Sys2Proof.Machine

variable {s : State} {c : Camera} {i : Fin 8} {ticks since e : Nat} {shot : ShotRef}

/-! ## The three instants (R105, R109) -/

theorem Camera.recovered_iff : c.recovered ticks = true ↔ ∀ start, c.lastExposure = some start → start + c.recovery ≤ ticks := by
  unfold Camera.recovered
  split
  · next start last => simp [last]
  · next none => simp [none]

theorem Camera.releaseDue_iff (exposing : c.state = .exposing shot e) (last : c.lastExposure = some since) :
    c.releaseDue ticks = true ↔ since + e ≤ ticks := by
  simp [Camera.releaseDue, exposing, last]

theorem Camera.releaseDue_idle (idle : ∀ shot e, c.state ≠ .exposing shot e) : ¬c.releaseDue ticks = true := by
  unfold Camera.releaseDue
  split
  · exact absurd ‹_› (idle _ _)
  · exact Bool.false_ne_true

theorem Camera.recoveryDue_iff : c.recoveryDue ticks = true ↔ c.state = .recovering ∧ c.recovered ticks = true := by
  unfold Camera.recoveryDue
  split
  · next recovering => simp [recovering]
  · next other => exact iff_of_false Bool.false_ne_true fun due => other due.1

theorem Camera.warmUpDue_iff (warming : c.state = .warming since) : c.warmUpDue ticks = true
    ↔ since + c.warmUp * 1000 ≤ ticks ∧ ∀ start, c.lastExposure = some start → start + c.recovery ≤ ticks := by
  simp only [Camera.warmUpDue, warming, Bool.and_eq_true, decide_eq_true_eq, Camera.recovered_iff]
  rfl

theorem Camera.warmUpDue_idle (idle : ∀ since, c.state ≠ .warming since) : ¬c.warmUpDue ticks = true := by
  unfold Camera.warmUpDue
  split
  · exact absurd ‹_› (idle _)
  · exact Bool.false_ne_true

/-! ## The three events -/

/-- An update that leaves its camera as it was leaves the part as it was. -/
theorem updCamera_fixed {f : Camera → Camera} (fixed : f (s.camera i) = s.camera i) : s.updCamera i f = s := by
  have same : updateAt s.cameras i f = s.cameras := by
    rw [updateAt, show f s.cameras[i] = s.cameras[i] from fixed]
    exact Vector.set_getElem_self _
  rw [State.updCamera, same]

theorem triggerRelease_early (early : ¬(s.camera i).releaseDue s.ticks = true) : Completes (.triggerRelease i) s s := by
  change execTriggerRelease i s = _
  rw [execTriggerRelease, if_neg early]

/-- The trigger release of the shot that the camera exposes for opens its window (R109, R110). -/
theorem triggerRelease_due (exposing : (s.camera i).state = .exposing shot e)
    (due : (s.camera i).releaseDue s.ticks = true) :
    Completes (.triggerRelease i) s (s.updCamera i fun c =>
      { c with state := .recovering, ctrg := false
               confirm := some { shot := shot, closes := s.ticks + c.windowLength } }) := by
  change execTriggerRelease i s = _
  rw [execTriggerRelease, if_pos due]
  refine congrArg _ (updCamera_congr ?_)
  rw [Camera.release, exposing]

theorem recoveryEnd_early (early : ¬(s.camera i).recoveryDue s.ticks = true) : Completes (.recoveryEnd i) s s := by
  change execRecoveryEnd i s = _
  rw [execRecoveryEnd, if_neg early]

theorem recoveryEnd_due (due : (s.camera i).recoveryDue s.ticks = true) :
    Completes (.recoveryEnd i) s (s.updCamera i fun c => { c with state := .ready }) := by
  change execRecoveryEnd i s = _
  rw [execRecoveryEnd, if_pos due]

theorem warmUpEnd_early (early : ¬(s.camera i).warmUpDue s.ticks = true) : Completes (.warmUpEnd i) s s := by
  change execWarmUpEnd i s = _
  rw [execWarmUpEnd, updCamera_fixed]
  exact if_neg early

theorem warmUpEnd_due (due : (s.camera i).warmUpDue s.ticks = true) :
    Completes (.warmUpEnd i) s (s.updCamera i fun c => { c with state := .ready }) := by
  change execWarmUpEnd i s = _
  rw [execWarmUpEnd, updCamera_congr]
  exact if_pos due

/-- Settles O41: each event acts exactly where it is due. -/
theorem cameraTimersRunOut : Obligations.CameraTimersRunOut := by
  intro s i c
  refine ⟨fun shot e since exposing last => ?_, fun idle => triggerRelease_early (Camera.releaseDue_idle idle),
    fun since recovering last => ?_, fun other => recoveryEnd_early fun due => other (Camera.recoveryDue_iff.mp due).1,
    fun since warming => ?_, fun idle => warmUpEnd_early (Camera.warmUpDue_idle idle)⟩
  · have due : c.releaseDue s.ticks = true ↔ since + e ≤ s.ticks := Camera.releaseDue_iff exposing last
    exact ⟨fun elapsed => triggerRelease_due exposing (due.mpr elapsed),
      fun early => triggerRelease_early (mt due.mp (Nat.not_le.mpr early))⟩
  · have due : c.recoveryDue s.ticks = true ↔ since + c.recovery ≤ s.ticks := by
      simp [Camera.recoveryDue_iff, Camera.recovered_iff, recovering, last]
    exact ⟨fun elapsed => recoveryEnd_due (due.mpr elapsed),
      fun early => recoveryEnd_early (mt due.mp (Nat.not_le.mpr early))⟩
  · have due := Camera.warmUpDue_iff (ticks := s.ticks) warming
    exact ⟨fun elapsed => warmUpEnd_due (due.mpr elapsed), fun early => warmUpEnd_early (mt due.mp early)⟩

end Sys2Proof.Machine
end

section
/-! Proofs: SET CAMERA, RESET CAMERA and SET STROBE (O43). -/

namespace Sys2Proof.Machine

variable {s u : State} {c : Camera} {body : List Byte} {i : Fin 8} {x : Fin 6} {k : RequestKind} {values state : Prop}
  {ticks n : Nat} {t : TrackId}

/-! ## Requests that are checked (R178) -/

/-- A request that its handler refuses for its values, then for the state, and accepts otherwise. -/
theorem judged_of_checks {ok barred : Bool} (idle : s.LinkIdle) (fits : body.length ≤ 248)
    (length : body.length = k.requiredLength body) (kind : k ≠ .restart)
    (handled : handle k body s = if !ok then refuse s .badValue else if barred then refuse s .wrongState else accept u [])
    (range : ok = true ↔ values) (free : barred = true ↔ ¬state) (ticks : u.ticks = s.ticks) :
    Judged k body s values state u [] := by
  refine judged_of_handle idle fits length kind (fun bad => ?_) (fun good wrong => ?_) (fun good right => ?_) ticks
  · rw [handled, Bool.eq_false_iff.mpr (mt range.mp bad)]
    rfl
  · rw [handled, range.mpr good, free.mpr wrong]
    rfl
  · rw [handled, range.mpr good, Bool.eq_false_iff.mpr (mt free.mp (not_not_intro right))]
    rfl

/-! ## SET CAMERA (R102) -/

theorem cameraOfCode_none (h : 8 ≤ n) : cameraOfCode n = none := dif_neg (by omega)

theorem trackOfCode_eq (n : Nat) : trackOfCode n = if n = 1 then some .t1 else if n = 2 then some .t2 else none := by
  unfold trackOfCode
  split
  · rfl
  · rfl
  · next one two => rw [if_neg one, if_neg two]

theorem trackOfCode_iff : trackOfCode n = some t ↔ n = trackCode t := by
  refine ⟨fun code => ?_, fun code => code ▸ trackOfCode_code t⟩
  unfold trackOfCode at code
  split at code
  · exact Option.some.inj code ▸ rfl
  · exact Option.some.inj code ▸ rfl
  · exact nomatch code

theorem State.offline_iff {track : Option TrackId} :
    s.offline track = true ↔ ∀ t, track = some t → (s.channel t).state = .offline := by
  cases track <;> simp [State.offline]

theorem cameraValuesOk_iff (code : field body 0 1 = i.val) : cameraValuesOk body = true ↔
    field body 1 1 ≤ 2 ∧ 100 ≤ field body 2 2 ∧ field body 2 2 ≤ 20000 ∧ 2 ≤ field body 4 2 ∧ field body 4 2 ≤ 1000
    ∧ field body 4 2 ≤ field body 6 2 ∧ field body 6 2 ≤ 5000 ∧ 1000 ≤ field body 8 4 ∧ field body 8 4 ≤ 1000000
    ∧ field body 12 2 ≤ 10000 ∧ 10 ≤ field body 14 4 ∧ field body 14 4 ≤ 100000
    ∧ field body 14 4 + field body 6 2 ≤ field body 8 4 := by
  simp only [cameraValuesOk, code, i.isLt, decide_true, Bool.true_and, Bool.and_eq_true, decide_eq_true_eq, inRange_iff,
    and_assoc]

/-- The camera as SET CAMERA configures it. -/
theorem Camera.configure_eq (c : Camera) (body : List Byte) : c.configure body =
    { c with
      track := if field body 1 1 = 1 then some .t1 else if field body 1 1 = 2 then some .t2 else none
      blur := field body 2 2, exposureMin := field body 4 2, exposureMax := field body 6 2
      recovery := field body 8 4, warmUp := field body 12 2, windowLength := field body 14 4 } := by
  rw [Camera.configure, trackOfCode_eq]

/-- A SET CAMERA that names a camera is judged by its values, then by the two tracks. -/
theorem handleSetCamera_eq (code : field body 0 1 = i.val) : handleSetCamera body s =
    if !cameraValuesOk body then refuse s .badValue
    else if !(s.offline (s.camera i).track && s.offline (trackOfCode (field body 1 1))) then refuse s .wrongState
    else accept (s.updCamera i fun c => c.configure body) [] := by
  rw [handleSetCamera, code, cameraOfCode_val]
  dsimp only
  cases s.offline (s.camera i).track && s.offline (trackOfCode (field body 1 1)) <;> rfl

/-- SET CAMERA is barred unless both tracks that it concerns are OFFLINE, as far as it has them (R102). -/
theorem not_offline_both_iff :
    (!(s.offline (s.camera i).track && s.offline (trackOfCode (field body 1 1)))) = true ↔
    ¬((∀ t, (s.camera i).track = some t → (s.channel t).state = .offline)
      ∧ ∀ t, field body 1 1 = trackCode t → (s.channel t).state = .offline) := by
  simp only [Bool.not_eq_true', Bool.eq_false_iff, ne_eq, Bool.and_eq_true, State.offline_iff, trackOfCode_iff]

/-! ## RESET CAMERA (R112) -/

theorem handleResetCamera_eq (code : field body 0 1 = i.val) : handleResetCamera body s =
    accept (s.updCamera i fun _ => (s.camera i).resetFailure (s.trackAwake (s.camera i).track) s.ticks) [] := by
  rw [handleResetCamera, code, cameraOfCode_val]
  exact congrArg (accept · []) (updCamera_congr rfl)

theorem State.trackAwake_iff {track : Option TrackId} : s.trackAwake track = true ↔
    ∃ t, track = some t ∧ ((s.channel t).state = .idle ∨ (s.channel t).state = .passage) := by
  cases track <;> simp [State.trackAwake, Channel.awake]

theorem Camera.resetFailure_working (awake : Bool) (working : c.state ≠ .failed) :
    c.resetFailure awake ticks = { c with noReturnRun := 0 } := by
  unfold Camera.resetFailure
  dsimp only
  split
  · exact absurd ‹_› working
  · rfl

theorem Camera.resetFailure_asleep (failed : c.state = .failed) :
    c.resetFailure false ticks = { c with noReturnRun := 0, state := .off } := by
  rw [Camera.resetFailure, failed]
  rfl

/-- A FAILED camera of an awake track is powered up; that it may be READY at once is the model's choice (log entry 40). -/
theorem Camera.resetFailure_awake {next : CameraState} (failed : c.state = .failed)
    (enters : (if c.warmUp = 0 ∧ ∀ e ∈ c.lastExposure, e + c.recovery ≤ ticks then .ready else .warming ticks) = next) :
    c.resetFailure true ticks = { c with noReturnRun := 0, state := next, cpwr := true } := by
  rw [Camera.resetFailure, failed, ← enters]
  exact (Camera.powerUp_eq { c with noReturnRun := 0, state := .off } ticks).trans (if_pos rfl)

/-! ## SET STROBE (R117) -/

theorem strobeOfCode_none (h : 6 ≤ n) : strobeOfCode n = none := dif_neg (by omega)

theorem handleSetStrobe_eq (code : field body 0 1 = x.val) : handleSetStrobe body s =
    if !(inRange 1000 1000000 (field body 1 4) && decide (field body 5 2 ≤ 4000) && inRange 2 2000 (field body 7 2)) then
      refuse s .badValue
    else if s.strobeReferenced x then refuse s .wrongState
    else accept (s.updStrobe x fun y =>
      { y with base := field body 1 4, factor := field body 5 2, maxPulse := field body 7 2 }) [] := by
  rw [handleSetStrobe, code, strobeOfCode_val]

/-- A strobe is referenced where a plan that a track in service is bound to names it (R117). -/
theorem strobeReferenced_iff : s.strobeReferenced x = true ↔
    ¬∀ t d p camera, (s.channel t).state ≠ .offline → (s.binding t d).plan = some p →
      Step.expose camera (some x) ∉ s.plans[p] := by
  simp only [State.strobeReferenced, List.any_eq_true, mem_allTracks, true_and, Bool.and_eq_true, bne_iff_ne, mem_boundPlans,
    Step.names_iff]
  push Not
  constructor
  · rintro ⟨t, inService, p, ⟨d, bound⟩, _, names, camera, rfl⟩
    exact ⟨t, d, p, camera, inService, bound, names⟩
  · rintro ⟨t, d, p, camera, inService, bound, names⟩
    exact ⟨t, inService, p, ⟨d, bound⟩, _, names, camera, rfl⟩

/-! ## The three requests -/

theorem answers_resetCamera (idle : s.LinkIdle) (length : body.length = 1) (code : field body 0 1 = i.val) {after : Camera}
    (cleared : (s.camera i).resetFailure (s.trackAwake (s.camera i).track) s.ticks = after) :
    Answers .resetCamera body s (s.updCamera i fun _ => after) .ok [] :=
  answers_of_handle idle (by omega) length (by simp) (cleared ▸ handleResetCamera_eq code) rfl

/-- Settles O43: SET CAMERA and SET STROBE are judged by their values and then by the tracks; RESET CAMERA asks whether the
camera has failed, whether its track is awake, and whether it has nothing to wait for (log entry 40). -/
theorem camerasAndStrobesAreSet : Obligations.CamerasAndStrobesAreSet := by
  refine fun s body idle => ⟨fun length => ⟨fun wrong => ?_, fun i code => ?_⟩,
    fun length => ⟨fun wrong => ?_, fun i code => ?_⟩, fun length => ⟨fun wrong => ?_, fun x code => ?_⟩⟩
  · refine answers_of_handle idle (by omega) length (by simp) ?_ rfl
    simp [handle, handleSetCamera, cameraOfCode_none wrong, refuse]
  · have handled := handleSetCamera_eq (s := s) code
    simp only [Camera.configure_eq] at handled
    exact judged_of_checks idle (by omega) length (by simp) handled (cameraValuesOk_iff code) not_offline_both_iff rfl
  · refine answers_of_handle idle (by omega) length (by simp) ?_ rfl
    simp [handle, handleResetCamera, cameraOfCode_none wrong, refuse]
  · intro c awake warm answered
    have awake_iff : s.trackAwake c.track = true ↔ awake := State.trackAwake_iff
    have cleared {after : Camera} (reset : c.resetFailure (s.trackAwake c.track) s.ticks = after) : answered after :=
      answers_resetCamera idle length code reset
    refine ⟨fun working => cleared (Camera.resetFailure_working _ working), fun failed asleep => cleared ?_,
      fun failed up cold => cleared ?_, fun failed up ready => cleared ?_⟩
    · rw [Bool.eq_false_iff.mpr (mt awake_iff.mp asleep)]
      exact Camera.resetFailure_asleep failed
    · rw [awake_iff.mpr up]
      exact Camera.resetFailure_awake failed (if_neg cold)
    · rw [awake_iff.mpr up]
      exact Camera.resetFailure_awake failed (if_pos ready)
  · refine answers_of_handle idle (by omega) length (by simp) ?_ rfl
    simp [handle, handleSetStrobe, strobeOfCode_none wrong, refuse]
  · refine judged_of_checks idle (by omega) length (by simp) (handleSetStrobe_eq code) ?_ strobeReferenced_iff rfl
    simp only [Bool.and_eq_true, decide_eq_true_eq, inRange_iff, and_assoc]

end Sys2Proof.Machine
end

section
/-! Proofs: what can happen to the charge queue, the charger and the strobes. -/

namespace Sys2Proof.Machine

variable {s u v : State}

/-! ## The strobe unit -/

/-- The strobe unit with its inhibit inputs. -/
def State.pool (s : State) :
    Vector Strobe 6 × List QueueMember × Option Charge × Bool × BitVec 3 × Vector InhibitInput 4 × Bool :=
  (s.strobes, s.chargeQueue, s.charger, s.chgEn, s.chgSel, s.inhibits, s.inhibit)

/-- The strobes follow the charge queue and the charger, which drives its pins (R126, R128, R129). -/
def State.PoolGood (s : State) : Prop :=
  (s.chargeQueue.map fun m => m.strobe).Nodup ∧ (∀ x : Fin 6, s.StrobeGood x) ∧ s.ChargerPinsGood

/-- The strobes are good where they follow the queue and the charger, have power as a track is awake, and stay dark under an
inhibit that follows its inputs (chapter 7). -/
theorem State.strobesGood_iff : s.StrobesGood ↔ s.PoolGood ∧ (∀ x : Fin 6, (s.strobe x).state = .off ↔ s.anyAwake = false)
    ∧ s.inhibit = formInhibit s.inhibits ∧ (s.inhibit = true → ∀ x : Fin 6, (s.strobe x).sfire = false) := by
  simp only [State.StrobesGood, State.PoolGood, and_assoc]

theorem State.strobe_eq (h : u.strobes = s.strobes) (x : Fin 6) : u.strobe x = s.strobe x := by
  simp only [State.strobe, h]

theorem Records.pool (h : Records s u) : u.pool = s.pool := by
  obtain ⟨-, strobes, queue, charger, en, sel⟩ := h.keeps
  obtain ⟨-, -, -, -, -, inhibits, inhibit, -⟩ := h.work.keeps
  simp only [State.pool, strobes, queue, charger, en, sel, inhibits, inhibit]

/-- What the strobe unit keeps while the tracks stay as awake as they are: it stays good, no strobe gains or loses power,
and none fires under the inhibit. -/
structure State.PoolKeeps (s u : State) : Prop where
  good : u.PoolGood
  off : ∀ x, (u.strobe x).state = .off ↔ (s.strobe x).state = .off
  dark : s.inhibit = true → ∀ x, (s.strobe x).sfire = false → (u.strobe x).sfire = false
  inhibits : u.inhibits = s.inhibits
  inhibit : u.inhibit = s.inhibit

/-- From `s` to `u` a good strobe unit keeps what it has to. -/
def State.PoolTurns (s u : State) : Prop := s.PoolGood → s.PoolKeeps u

theorem State.PoolTurns.trans (h : s.PoolTurns u) (k : u.PoolTurns v) : s.PoolTurns v := fun good =>
  have first := h good
  have second := k first.good
  { good := second.good
    off := fun x => (second.off x).trans (first.off x)
    dark := fun on x dark => second.dark (first.inhibit.trans on) x (first.dark on x dark)
    inhibits := second.inhibits.trans first.inhibits
    inhibit := second.inhibit.trans first.inhibit }

/-- Where the strobe unit is as it was, it keeps what it has to. -/
theorem State.PoolTurns.of_pool (h : u.pool = s.pool) : s.PoolTurns u := fun good => by
  simp only [State.pool, Prod.mk.injEq] at h
  obtain ⟨strobes, queue, charger, en, sel, inhibits, inhibit⟩ := h
  have strobe := State.strobe_eq strobes
  refine ⟨?_, fun x => by rw [strobe], fun _ x dark => by rwa [strobe], inhibits, inhibit⟩
  simpa only [State.PoolGood, State.StrobeGood, State.ChargerPinsGood, strobe, queue, charger, en, sel] using good

theorem State.PoolTurns.refl (s : State) : s.PoolTurns s := .of_pool rfl

theorem State.PoolTurns.of_records (h : Records s u) : s.PoolTurns u := .of_pool h.pool

theorem State.PoolTurns.foldl {α : Type} (f : State → α → State) (h : ∀ (s : State) x, s.PoolTurns (f s x)) (l : List α)
    (s : State) : s.PoolTurns (l.foldl f s) := by
  induction l generalizing s with
  | nil => exact .refl s
  | cons x rest ih => exact (h s x).trans (ih _)

theorem State.SameAwake.anyAwake (h : s.SameAwake u) : u.anyAwake = s.anyAwake := congrArg₂ or (h .t1) (h .t2)

/-- Good strobes stay good where the strobe unit keeps what it has to and the tracks stay as awake as they are. -/
theorem State.PoolTurns.strobesGood (h : s.PoolTurns u) (awake : u.anyAwake = s.anyAwake) (good : s.StrobesGood) :
    u.StrobesGood := by
  obtain ⟨good, power, inhibit, dark⟩ := State.strobesGood_iff.mp good
  have keeps := h good
  refine State.strobesGood_iff.mpr ⟨keeps.good, fun x => ?_, ?_, fun on x => ?_⟩
  · rw [keeps.off, awake]
    exact power x
  · rw [keeps.inhibit, keeps.inhibits]
    exact inhibit
  · have on' := keeps.inhibit.symm.trans on
    exact keeps.dark on' x (dark on' x)

/-! ## Joining, charging and firing (R121, R126, R128, R129) -/

/-- A strobe that neither waits for a charge nor has one joins the queue. -/
theorem joinQueue_poolGood {x : Fin 6} (p : Option Nat) (good : s.PoolGood)
    (free : (s.strobe x).state ≠ .empty ∧ (s.strobe x).state ≠ .charging) : (s.joinQueue x p).PoolGood := by
  obtain ⟨different, strobes, pins⟩ := good
  have new : x ∉ s.chargeQueue.map fun m => m.strobe := fun mem => free.1 ((strobes x).1.mpr mem)
  have queue : (s.joinQueue x p).chargeQueue.map (fun m => m.strobe) = s.chargeQueue.map (fun m => m.strobe) ++ [x] := by
    simp [State.joinQueue]
  have charger : (s.joinQueue x p).charger = s.charger := rfl
  refine ⟨?_, fun y => ?_, pins⟩
  · rw [queue, ← List.concat_eq_append]
    exact different.concat new
  · obtain ⟨waits, charges, fires⟩ := strobes y
    rw [State.StrobeGood, queue, charger, joinQueue_strobe]
    by_cases same : y = x
    · subst same
      simp [← charges, free.2, StrobeState.code]
    · simp [same, waits, charges, fires]

theorem joinQueue_poolTurns {x : Fin 6} (p : Option Nat)
    (free : (s.strobe x).state ≠ .empty ∧ (s.strobe x).state ≠ .charging) (on : (s.strobe x).state ≠ .off) :
    s.PoolTurns (s.joinQueue x p) := fun good => by
  refine ⟨joinQueue_poolGood p good free, fun y => ?_, fun _ y dark => ?_, rfl, rfl⟩
  · rw [joinQueue_strobe]
    split
    · next same => simp [same, on]
    · rfl
  · rw [joinQueue_strobe]
    split
    · rfl
    · exact dark

/-- A waiting strobe gets the free charger. -/
theorem beginCharge_poolTurns {joins : Option Nat} {x : Fin 6} (free : s.charger = none)
    (waits : x ∈ s.chargeQueue.map fun m => m.strobe) : s.PoolTurns (s.beginCharge joins x) := fun good => by
  obtain ⟨different, strobes, -⟩ := good
  have empty : (s.strobe x).state = .empty := (strobes x).1.mpr waits
  have queue (y : Fin 6) : y ∈ (s.beginCharge joins x).chargeQueue.map (fun m => m.strobe)
      ↔ y ∈ s.chargeQueue.map (fun m => m.strobe) ∧ y ≠ x := by
    simp only [State.beginCharge, List.mem_map, List.mem_filter, bne_iff_ne]
    exact ⟨fun ⟨m, ⟨mem, other⟩, same⟩ => ⟨⟨m, mem, same⟩, same ▸ other⟩,
      fun ⟨⟨m, mem, same⟩, other⟩ => ⟨m, ⟨mem, same ▸ other⟩, same⟩⟩
  refine ⟨⟨different.sublist (List.filter_sublist.map _), fun y => ?_, rfl, rfl⟩, fun y => ?_, fun _ y dark => ?_, rfl,
    rfl⟩
  · obtain ⟨waits, charges, fires⟩ := strobes y
    rw [State.StrobeGood, queue, beginCharge_charger, beginCharge_strobe]
    by_cases same : y = x
    · subst same
      simp [fires, empty, StrobeState.code]
    · simp [same, waits, charges, fires, free, Ne.symm same]
  · rw [beginCharge_strobe]
    split
    · next same => simp [same, empty]
    · rfl
  · rw [beginCharge_strobe]
    split <;> exact dark

theorem startCharge_poolTurns (s : State) (joins : Option Nat) : s.PoolTurns (s.startCharge joins) := by
  obtain ⟨h, -⟩ | ⟨front, rest, free, order, h⟩ := startCharge_cases s joins
  · rw [h]
    exact .refl s
  · have mem : front ∈ s.queueOrder := order.symm ▸ List.mem_cons_self
    rw [h]
    exact beginCharge_poolTurns free (List.mem_map_of_mem ((sortBy_perm _ _).mem_iff.mp mem))

/-- The state once the charger has let go of a strobe, which is READY (R129). -/
def State.freeCharger (s : State) (x : Fin 6) : State :=
  { s.updStrobe x fun y => { y with state := .ready } with charger := none, chgEn := false, chgSel := 0#3 }

theorem freeCharger_strobe (s : State) (x y : Fin 6) :
    (s.freeCharger x).strobe y = if y = x then { s.strobe y with state := .ready } else s.strobe y :=
  State.updStrobe_strobe s x y _

theorem freeCharger_poolTurns {c : Charge} (runs : s.charger = some c) : s.PoolTurns (s.freeCharger c.strobe) := fun good => by
  obtain ⟨different, strobes, -⟩ := good
  have charging : (s.strobe c.strobe).state = .charging := (strobes c.strobe).2.1.mpr (by simp [runs])
  refine ⟨⟨different, fun y => ?_, rfl, rfl⟩, fun y => ?_, fun _ y dark => ?_, rfl, rfl⟩
  · obtain ⟨waits, charges, fires⟩ := strobes y
    have queue : (s.freeCharger c.strobe).chargeQueue = s.chargeQueue := rfl
    have charger : (s.freeCharger c.strobe).charger = none := rfl
    rw [State.StrobeGood, queue, charger, freeCharger_strobe]
    by_cases same : y = c.strobe
    · subst same
      simp [← waits, fires, charging, StrobeState.code]
    · simp [same, waits, charges, fires, runs, Ne.symm same]
  · rw [freeCharger_strobe]
    split
    · next same => simp [same, charging]
    · rfl
  · rw [freeCharger_strobe]
    split <;> exact dark

/-- A READY strobe fires where the inhibit is not active. -/
theorem fire_poolTurns {x : Fin 6} (shot : ShotRef) (exposure : Nat) (lit : s.inhibit = false)
    (ready : (s.strobe x).state = .ready) : s.PoolTurns (s.updStrobe x fun y => y.fire shot exposure s.ticks) := fun good => by
  obtain ⟨different, strobes, pins⟩ := good
  refine ⟨⟨different, fun y => ?_, pins⟩, fun y => ?_, fun on => by simp [lit] at on, rfl, rfl⟩
  · obtain ⟨waits, charges, fires⟩ := strobes y
    simp only [State.StrobeGood, State.updStrobe_strobe, State.updStrobe_chargeQueue, State.updStrobe_charger]
    by_cases same : y = x
    · subst same
      simp [← waits, ← charges, ready, Strobe.fire, StrobeState.code]
    · simp [same, waits, charges, fires]
  · rw [State.updStrobe_strobe]
    split
    · next same => simp [same, ready, Strobe.fire]
    · rfl

/-! ## The events of the strobe unit (R121, R122, R129) -/

theorem updateAt_updateAt {α : Type} {n : Nat} (v : Vector α n) (i : Fin n) (f g : α → α) :
    updateAt (updateAt v i f) i g = updateAt v i fun a => g (f a) := by
  simp [updateAt]

/-- A strobe whose charge is chosen anew leaves the charger and joins the queue. -/
theorem reopenChoice_eq (s : State) : s.reopenChoice = s ∨ ∃ c, s.charger = some c
    ∧ s.reopenChoice = (s.freeCharger c.strobe).joinQueue c.strobe (s.strobe c.strobe).lastPulse := by
  obtain ⟨same, -⟩ | ⟨c, runs, -, opened⟩ := reopenChoice_cases s
  · exact .inl same
  · refine .inr ⟨c, runs, opened.trans ?_⟩
    simp only [State.joinQueue, State.freeCharger, State.updStrobe, updateAt_updateAt]

theorem reopenChoice_poolTurns (s : State) : s.PoolTurns s.reopenChoice := by
  obtain same | ⟨c, runs, opened⟩ := reopenChoice_eq s
  · rw [same]
    exact .refl s
  · have ready : ((s.freeCharger c.strobe).strobe c.strobe).state = .ready := by simp [freeCharger_strobe]
    rw [opened]
    exact (freeCharger_poolTurns runs).trans (joinQueue_poolTurns _ (by simp [ready]) (by simp [ready]))

theorem cutStrobe_poolTurns (s : State) (x : Fin 6) : s.PoolTurns (s.cutStrobe x) := by
  unfold State.cutStrobe
  split
  · next firing =>
    exact (joinQueue_poolTurns _ (by simp [firing]) (by simp [firing])).trans (.of_records (flashCut_records _ _))
  · exact .refl s

theorem execStrobePulseEnd_poolTurns (x : Fin 6) (s : State) : Stays s.PoolTurns (execStrobePulseEnd x s) := by
  refine Stays.next ?_
  split
  · next shot pulse since firing =>
    have joined : s.PoolTurns (s.joinQueue x (some pulse)) := joinQueue_poolTurns _ (by simp [firing]) (by simp [firing])
    split
    · dsimp only
      split
      · exact joined
      · exact joined.trans (startCharge_poolTurns _ _)
    · exact .refl s
  · exact .refl s

theorem execChargeCompletion_poolTurns (s : State) : Stays s.PoolTurns (execChargeCompletion s) := by
  refine Stays.next ?_
  split
  · next runs =>
    split
    · exact (freeCharger_poolTurns runs).trans (startCharge_poolTurns _ none)
    · exact .refl s
  · exact .refl s

/-! ## The inhibit (R122, R123) -/

/-- A strobe as it is cut: EMPTY if it was FIRING, with the ticks it ran as last pulse (R122). -/
def Strobe.cut (y : Strobe) (ticks : Nat) : Strobe :=
  match y.state with
  | .firing _ _ since => { y with state := .empty, sfire := false, lastPulse := some (ticks - since) }
  | _ => y

theorem Strobe.cut_of_not_firing {y : Strobe} (h : y.firing = false) (ticks : Nat) : y.cut ticks = y := by
  unfold Strobe.firing at h
  unfold Strobe.cut
  split <;> simp_all

theorem Strobe.cut_firing (y : Strobe) (ticks : Nat) : (y.cut ticks).firing = false := by
  unfold Strobe.cut
  split
  · rfl
  · next other =>
    unfold Strobe.firing
    split
    · exact absurd ‹_› (other _ _ _)
    · rfl

/-- The members of the charge queue that join at a tick. -/
def joiners (ticks : Nat) (l : List (Fin 6)) : List QueueMember := l.map fun x => { strobe := x, joined := ticks }

/-- Every shot of a plan step carries FLASH_CUT. -/
def Head.CutAt (h : Head) (step : Nat) : Prop := ∀ y ∈ h.shots, y.step = step → y.flashCut = true

/-- `k` is `h` but for its shots, and where those of a step carried FLASH_CUT they still do. -/
def Head.Flashes (h k : Head) : Prop := k = { h with shots := k.shots } ∧ ∀ step, h.CutAt step → k.CutAt step

/-- From `s` to `u` heads get FLASH_CUT at most. -/
def State.Flashes (s u : State) : Prop := ∀ t, ∃ f : Head → Head,
  (∀ h : Head, h.Flashes (f h)) ∧ u.channel t = { s.channel t with heads := (s.channel t).heads.map f }

theorem State.Flashes.of_eq (h : u.channels = s.channels) : s.Flashes u := fun t =>
  ⟨id, fun _ => ⟨rfl, fun _ => id⟩, by simp [State.channel_eq h]⟩

theorem State.Flashes.trans (h : s.Flashes u) (k : u.Flashes v) : s.Flashes v := fun t => by
  obtain ⟨f, flashes, channel⟩ := h t
  obtain ⟨g, flashes', channel'⟩ := k t
  refine ⟨g ∘ f, fun h => ⟨?_, fun step cut => (flashes' _).2 step ((flashes h).2 step cut)⟩, ?_⟩
  · have inner := (flashes h).1
    have outer := (flashes' (f h)).1
    rw [Function.comp_apply, outer, inner]
  · rw [channel', channel, List.map_map]

/-- The head of an index is still there, with more FLASH_CUT at most. -/
theorem State.Flashes.findHead (h : s.Flashes u) (t : TrackId) : ∃ f : Head → Head,
    (∀ h : Head, h.Flashes (f h)) ∧ ∀ n, u.findHead t n = (s.findHead t n).map f := by
  obtain ⟨f, flashes, channel⟩ := h t
  refine ⟨f, flashes, fun n => ?_⟩
  have index : (fun h : Head => h.index == n) ∘ f = fun h => h.index == n := by
    funext h
    rw [Function.comp_apply, (flashes h).1]
  rw [State.findHead, channel, List.find?_map, index]
  rfl

theorem State.Flashes.shotHeadOpen (h : s.Flashes u) (r : ShotRef) : u.shotHeadOpen r = s.shotHeadOpen r := by
  obtain ⟨f, -, channel⟩ := h r.track
  obtain ⟨g, -, found⟩ := h.findHead r.track
  rw [Bool.eq_iff_iff, shotHeadOpen_iff, shotHeadOpen_iff, found, channel, Ne, Option.map_eq_none_iff]

theorem markFlashCut_flashes (h : Head) (step : Nat) : h.Flashes (h.markFlashCut step) ∧ (h.markFlashCut step).CutAt step := by
  have marked (y : Shot) :
      y.flashCut = true → (if y.step = step then { y with flashCut := true } else y).flashCut = true := by
    split <;> simp
  refine ⟨⟨rfl, fun other cut => ?_⟩, ?_⟩
  · simp only [Head.CutAt, Head.markFlashCut, List.forall_mem_map]
    intro y mem same
    refine marked y (cut y mem ?_)
    split at same <;> exact same
  · simp only [Head.CutAt, Head.markFlashCut, List.forall_mem_map]
    intro y mem same
    split
    · rfl
    · next other =>
      rw [if_neg other] at same
      exact absurd same other

theorem flashCut_flashes (s : State) (r : ShotRef) : s.Flashes (s.flashCut r) := by
  unfold State.flashCut
  split
  · intro t
    by_cases same : t = r.track
    · subst same
      refine ⟨fun h => if h.index = r.index then h.markFlashCut r.step else h, fun h => ?_, State.updChannel_same s r.track _⟩
      dsimp only
      split
      · exact (markFlashCut_flashes h r.step).1
      · exact ⟨rfl, fun _ => id⟩
    · exact ⟨id, fun _ => ⟨rfl, fun _ => id⟩, by simp [State.updHead, same]⟩
  · exact .of_eq rfl

/-- The open head of a shot whose light is cut gets FLASH_CUT on it (R122). -/
theorem flashCut_marks {r : ShotRef} (open_ : s.shotHeadOpen r = true) :
    ∃ h, (s.flashCut r).findHead r.track r.index = some h ∧ h.CutAt r.step := by
  obtain ⟨-, -, found⟩ := shotHeadOpen_iff.mp open_
  obtain ⟨h, found⟩ := Option.ne_none_iff_exists'.mp found
  rw [State.flashCut, if_pos open_]
  refine ⟨h.markFlashCut r.step, findHead_updHead found fun g index => index, (markFlashCut_flashes h r.step).2⟩

/-- From `s` to `u` the FIRING ones among some strobes have been cut (R122). -/
structure State.Cuts (s u : State) (l : List (Fin 6)) : Prop where
  rest : u = { s with
    channels := u.channels, strobes := u.strobes
    chargeQueue := s.chargeQueue ++ joiners s.ticks (l.filter fun x => (s.strobe x).firing) }
  strobe : ∀ y, u.strobe y = if y ∈ l then (s.strobe y).cut s.ticks else s.strobe y
  heads : s.Flashes u
  marks : ∀ x ∈ l, ∀ r p n, (s.strobe x).state = .firing r p n → s.shotHeadOpen r = true →
    ∃ h, u.findHead r.track r.index = some h ∧ h.CutAt r.step

theorem flashCut_eq (s : State) (r : ShotRef) : s.flashCut r = { s with channels := (s.flashCut r).channels } := by
  unfold State.flashCut
  split <;> rfl

/-- What the cut of one strobe does. -/
theorem cutStrobe_cuts (s : State) (x : Fin 6) : s.Cuts (s.cutStrobe x) [x] := by
  unfold State.cutStrobe
  split
  · next shot pulse since firing =>
    have lit : (s.strobe x).firing = true := by rw [Strobe.firing, firing]
    have frame := flashCut_eq (s.joinQueue x (some (s.ticks - since))) shot
    refine ⟨?_, fun y => ?_, ?_, ?_⟩
    · rw [frame]
      simp [joiners, lit, State.joinQueue]
    · have strobe : ((s.joinQueue x (some (s.ticks - since))).flashCut shot).strobe y
          = (s.joinQueue x (some (s.ticks - since))).strobe y := by rw [frame]; rfl
      rw [strobe, joinQueue_strobe]
      simp only [List.mem_singleton]
      split
      · next same => rw [Strobe.cut, same, firing]
      · rfl
    · exact (State.Flashes.of_eq rfl).trans (flashCut_flashes _ shot)
    · intro y mem r p n firing' open_
      rw [List.mem_singleton.mp mem, firing] at firing'
      obtain ⟨rfl, -, -⟩ := StrobeState.firing.inj firing'
      exact flashCut_marks (s := s.joinQueue x (some (s.ticks - since))) open_
  · next other =>
    have dark : (s.strobe x).firing = false := by
      unfold Strobe.firing
      split
      · exact absurd ‹_› (other _ _ _)
      · rfl
    refine ⟨by simp [joiners, dark], fun y => ?_, .of_eq rfl, fun y mem r p n firing => ?_⟩
    · split
      · next same => rw [List.mem_singleton.mp same, Strobe.cut_of_not_firing dark]
      · rfl
    · rw [List.mem_singleton.mp mem] at firing
      exact absurd firing (other r p n)

/-- What the cut of different strobes does. -/
theorem foldl_cutStrobe_cuts (l : List (Fin 6)) (different : l.Nodup) (s : State) :
    s.Cuts (l.foldl (fun s x => s.cutStrobe x) s) l := by
  induction l generalizing s with
  | nil => exact ⟨by simp [joiners], fun y => by simp, .of_eq rfl, by simp⟩
  | cons x rest ih =>
    obtain ⟨new, different⟩ := List.nodup_cons.mp different
    have first := cutStrobe_cuts s x
    have ticks : (s.cutStrobe x).ticks = s.ticks := by rw [first.rest]
    have others {y : Fin 6} (mem : y ∈ rest) : (s.cutStrobe x).strobe y = s.strobe y := by
      rw [first.strobe, if_neg]
      exact fun same => new (List.mem_singleton.mp same ▸ mem)
    have then_ := ih different (s.cutStrobe x)
    have firing : (rest.filter fun y => ((s.cutStrobe x).strobe y).firing) = rest.filter fun y => (s.strobe y).firing :=
      List.filter_congr fun y mem => by rw [others mem]
    rw [List.foldl_cons]
    refine ⟨?_, fun y => ?_, first.heads.trans then_.heads, fun y mem r p n firing open_ => ?_⟩
    · have queue : (s.cutStrobe x).chargeQueue
          = s.chargeQueue ++ joiners s.ticks ([x].filter fun x => (s.strobe x).firing) := by
        rw [first.rest]
      have appended : s.chargeQueue ++ joiners s.ticks ((x :: rest).filter fun x => (s.strobe x).firing)
          = (s.cutStrobe x).chargeQueue ++ joiners s.ticks (rest.filter fun x => (s.strobe x).firing) := by
        rw [queue, List.append_assoc, joiners, joiners, joiners, ← List.map_append, ← List.filter_append]
        rfl
      rw [then_.rest, firing, ticks, appended, first.rest]
    · rw [then_.strobe, ticks]
      by_cases mem : y ∈ rest
      · rw [if_pos mem, others mem, if_pos (List.mem_cons_of_mem x mem)]
      · simp [mem, first.strobe]
    · by_cases later : y ∈ rest
      · exact then_.marks y later r p n (others later ▸ firing) ((first.heads.shotHeadOpen r).trans open_)
      · have own : y ∈ [x] := by simpa [later] using mem
        obtain ⟨h, found, cut⟩ := first.marks y own r p n firing open_
        obtain ⟨f, flashes, found'⟩ := then_.heads.findHead r.track
        exact ⟨f h, by rw [found', found]; rfl, (flashes h).2 _ cut⟩

/-! ## The inhibit and the strobe unit (R122, R123) -/

theorem Strobe.firing_iff {y : Strobe} : y.firing = true ↔ ∃ r p n, y.state = .firing r p n := by
  unfold Strobe.firing
  split <;> simp_all

/-- SFIRE is high exactly while the strobe is FIRING. -/
theorem State.PoolGood.sfire (good : s.PoolGood) (x : Fin 6) : (s.strobe x).sfire = (s.strobe x).firing := by
  obtain ⟨-, strobes, -⟩ := good
  obtain ⟨-, -, fires⟩ := strobes x
  rw [fires]
  cases state : (s.strobe x).state <;> simp [Strobe.firing, state, StrobeState.code]

theorem foldl_cutStrobe_poolTurns (s : State) : s.PoolTurns (allStrobes.foldl (fun s x => s.cutStrobe x) s) :=
  .foldl _ cutStrobe_poolTurns _ s

theorem cutFiring_poolTurns (s : State) : s.PoolTurns s.cutFiring := by
  unfold State.cutFiring
  split
  · exact ((reopenChoice_poolTurns s).trans (foldl_cutStrobe_poolTurns _)).trans (startCharge_poolTurns _ _)
  · exact .refl s

/-- No strobe fires once every FIRING one has been cut (R122). -/
theorem cutFiring_dark (good : s.PoolGood) (on : s.inhibit = true) (x : Fin 6) : (s.cutFiring.strobe x).sfire = false := by
  unfold State.cutFiring
  split
  · have cut := ((reopenChoice_poolTurns s).trans (foldl_cutStrobe_poolTurns s.reopenChoice)) good
    refine ((startCharge_poolTurns _ _) cut.good).dark (cut.inhibit.trans on) x ?_
    rw [cut.good.sfire, (foldl_cutStrobe_cuts allStrobes allStrobes_nodup _).strobe, if_pos (mem_allStrobes x)]
    exact Strobe.cut_firing _ _
  · next none =>
    rw [good.sfire, Bool.eq_false_iff]
    exact fun firing => none (List.any_eq_true.mpr ⟨x, mem_allStrobes x, firing⟩)

/-- Good strobes stay good as the inhibit is formed from other inputs (R123). -/
theorem reformInhibit_strobesGood (v : Vector InhibitInput 4) (good : s.StrobesGood) :
    { s with inhibits := v }.reformInhibit.StrobesGood := by
  obtain ⟨pool, power, -, dark⟩ := State.strobesGood_iff.mp good
  have formed : State.PoolGood { s with inhibits := v, inhibit := formInhibit v } := pool
  unfold State.reformInhibit
  dsimp only
  split
  · next becomes =>
    obtain ⟨on, -⟩ := Bool.and_eq_true_iff.mp becomes
    have keeps := cutFiring_poolTurns _ formed
    refine State.strobesGood_iff.mpr ⟨keeps.good, fun x => ?_, ?_, fun _ => cutFiring_dark formed on⟩
    · rw [keeps.off, (cutFiring_sameAwake _).anyAwake]
      exact power x
    · rw [keeps.inhibit, keeps.inhibits]
  · next stays =>
    refine State.strobesGood_iff.mpr ⟨formed, power, rfl, fun on x => dark ?_ x⟩
    have active : formInhibit v = true := on
    simpa [active] using stays

end Sys2Proof.Machine
end

section
/-! Proofs: the work on heads and the pulses of a track, as the strobe unit sees them. -/

namespace Sys2Proof.Machine

variable {s u v : State}

/-! ## The work on heads (R121) -/

/-- The work on heads fires READY strobes where the inhibit is not active, and reaches the strobe unit in no other way. -/
theorem tending_poolTurns : Tending State.PoolTurns where
  refl := .refl
  trans := .trans
  head s t n f := .of_records (updHead_records s t n f)
  close s t n cause := .of_records (closeHead_records s t n cause)
  timeline _ _ := .of_pool rfl
  expose _ _ _ _ _ := .of_pool rfl
  fire _ _ shot exposure lit ready := fire_poolTurns shot exposure lit ready
  fault s i := .of_records (fault_records s i)
  good s i := .of_records (good_records s i)
  accepted _ _ := .of_pool rfl
  rejected _ _ := .of_pool rfl
  dropped _ _ := .of_pool rfl
  remove _ _ _ := .of_pool rfl
  enter _ _ _ _ := .of_pool rfl

/-! ## Pulses (R26 to R32) -/

theorem updChannel_poolTurns (s : State) (t : TrackId) (f : Channel → Channel) : s.PoolTurns (s.updChannel t f) := .of_pool rfl

theorem newEstimate_poolTurns (s : State) (t : TrackId) (v : Nat) : s.PoolTurns (s.newEstimate t v) := by
  have reanchored := (updChannel_poolTurns s t fun c => c.takeSpeed v s.ticks).trans
    (tending_poolTurns.reanchorAll t (windowEstimate (enterWindow (s.channel t).speed (s.channel t).window v))
      (s.channel t).timedIndices _)
  unfold State.newEstimate
  dsimp only
  split
  · exact reanchored.trans (tending_poolTurns.judgeAll t _ _ _)
  · exact reanchored

theorem plausibleMatch_poolTurns (s : State) (t : TrackId) (r : PairRole) (v : Nat) : s.PoolTurns (s.plausibleMatch t r v) :=
  (((updChannel_poolTurns s t _).trans (newEstimate_poolTurns _ t v)).trans (tending_poolTurns.goodUnlessRehearsal _ t _)).trans
    (tending_poolTurns.goodUnlessRehearsal _ t _)

theorem judgeMatch_poolTurns (s : State) (t : TrackId) (r : PairRole) (dt : Nat) : s.PoolTurns (s.judgeMatch t r dt) := by
  unfold State.judgeMatch
  dsimp only
  split
  · exact .refl s
  · have noted := updChannel_poolTurns s t fun c =>
      { c with passage := c.passage.noteSpeed ((s.channel t).frame.spacing r) dt }
    split
    · exact noted.trans (plausibleMatch_poolTurns _ t r _)
    · exact noted.trans (updChannel_poolTurns _ t _)

theorem secondSensorPulse_poolTurns (s : State) (t : TrackId) (r : PairRole) (stamp : LocalTime) :
    s.PoolTurns (s.secondSensorPulse t r stamp) := by
  unfold State.secondSensorPulse
  dsimp only
  split
  · split
    · exact .of_records (orphan_records s t r)
    · exact .refl s
  · split
    · exact (updChannel_poolTurns s t _).trans (judgeMatch_poolTurns _ t r _)
    · exact updChannel_poolTurns s t _

theorem takePulse_poolTurns (s : State) (t : TrackId) (w : WheelSensor) (stamp : LocalTime) :
    s.PoolTurns (s.takePulse t w stamp) := by
  have pair (u : State) : u.PoolTurns (u.pairPulse t w stamp) := by
    unfold State.pairPulse
    dsimp only
    split
    · exact .refl u
    · split
      · exact .of_records (firstSensorPulse_records u t w _ stamp)
      · exact secondSensorPulse_poolTurns u t _ stamp
  unfold State.takePulse
  dsimp only
  split
  · exact (updChannel_poolTurns s t _).trans (pair _)
  · exact updChannel_poolTurns s t _

/-! ## The power of the pool (R7, R119, R120) -/

/-- A fold whose every step leaves the strobe unit alone leaves it alone. -/
theorem foldl_pool {α : Type} (f : State → α → State) (h : ∀ s x, (f s x).pool = s.pool) (l : List α) (s : State) :
    (l.foldl f s).pool = s.pool := by
  induction l generalizing s with
  | nil => rfl
  | cons x rest ih => exact (ih _).trans (h s x)

theorem powerUpCameras_samePool (s : State) (t : TrackId) : (s.powerUpCameras t).pool = s.pool :=
  foldl_pool (fun s i => s.updCamera i fun c => c.powerUp s.ticks) (fun _ _ => rfl) _ s

theorem powerDownCameras_samePool (s : State) (t : TrackId) : (s.powerDownCameras t).pool = s.pool := by
  refine foldl_pool (fun s i => s.removePower i) (fun s i => ?_) _ s
  have aborted : (s.abortWindow i).pool = s.pool := by
    unfold State.abortWindow
    split
    · exact (handOver_records _ _ _).pool
    · rfl
  have cut (u : State) : (u.cutCamera i).pool = u.pool := by
    unfold State.cutCamera
    dsimp only
    split
    · exact (handOver_records _ _ _).pool
    · rfl
  unfold State.removePower
  split
  · exact (cut _).trans aborted
  · rfl

theorem joinOffStrobes_poolGood (l : List (Fin 6)) (s : State) (good : s.PoolGood) : (s.joinOffStrobes l).PoolGood := by
  induction l generalizing s with
  | nil => exact good
  | cons x rest ih =>
    refine ih _ ?_
    split
    · next off => exact joinQueue_poolGood none good (by simp [off])
    · exact good

/-- The pool that wakes: every strobe was OFF, and none is (R119). -/
theorem powerUpPool_strobesGood (good : s.PoolGood) (off : ∀ x, (s.strobe x).state = .off) (awake : s.anyAwake = true)
    (inhibit : s.inhibit = formInhibit s.inhibits) : s.powerUpPool.StrobesGood := by
  obtain ⟨joined, -, -⟩ := joinOffStrobes_of_off allStrobes allStrobes_nodup s fun x _ => off x
  have keeps := startCharge_poolTurns _ (some s.ticks) (joinOffStrobes_poolGood allStrobes s good)
  have channels : s.powerUpPool.channels = s.channels := by simp [State.powerUpPool]
  have rest := joinOffStrobes_powers allStrobes s
  have empty (x : Fin 6) : ((s.joinOffStrobes allStrobes).strobe x).state = .empty
      ∧ ((s.joinOffStrobes allStrobes).strobe x).sfire = false := by
    rw [joined, if_pos (mem_allStrobes x)]
    exact ⟨rfl, rfl⟩
  refine State.strobesGood_iff.mpr ⟨keeps.good, fun x => ?_, ?_, fun on x => ?_⟩
  · have awake' : s.powerUpPool.anyAwake = true := by rw [State.anyAwake, channels]; exact awake
    have lit := (keeps.off x).not.mpr (by simp [(empty x).1])
    exact iff_of_false lit (by simp [awake'])
  · refine keeps.inhibit.trans (Eq.trans ?_ (congrArg formInhibit keeps.inhibits).symm)
    rw [rest]
    exact inhibit
  · exact keeps.dark (keeps.inhibit.symm.trans on) x (empty x).2

/-- A track is awake now, and the pool wakes with it if none was (R7, R119). -/
theorem wakePool_strobesGood (good : s.StrobesGood) (same : u.pool = s.pool) (awake : u.anyAwake = true) :
    (u.wakePool s.anyAwake).StrobesGood := by
  unfold State.wakePool
  split
  · next before => exact (State.PoolTurns.of_pool same).strobesGood (awake.trans before.symm) good
  · next asleep =>
    obtain ⟨pool, power, inhibit, -⟩ := State.strobesGood_iff.mp good
    have keeps := State.PoolTurns.of_pool same pool
    refine powerUpPool_strobesGood keeps.good (fun x => ?_) awake ?_
    · exact (keeps.off x).mpr ((power x).mpr (Bool.of_not_eq_true asleep))
    · rw [keeps.inhibit, keeps.inhibits]
      exact inhibit

theorem powerDownPool_strobe (s : State) (x : Fin 6) :
    s.powerDownPool.strobe x = { s.strobe x with state := .off, sfire := false } := by
  simp [State.powerDownPool, State.strobe]

/-- The pool rests: every strobe is OFF, the queue empty and the charger free (R120). -/
theorem powerDownPool_strobesGood (asleep : s.anyAwake = false) (inhibit : s.inhibit = formInhibit s.inhibits) :
    s.powerDownPool.StrobesGood := by
  refine ⟨List.nodup_nil, fun x => ?_, ⟨rfl, rfl⟩, fun x => ?_, inhibit, fun _ x => ?_⟩
  · rw [State.StrobeGood, powerDownPool_strobe]
    simp [State.powerDownPool, StrobeState.code]
  · rw [powerDownPool_strobe]
    exact iff_of_true rfl asleep
  · rw [powerDownPool_strobe]

/-- A track may have fallen asleep, and the pool rests with it where none is awake (R7, R120). -/
theorem restPool_strobesGood (good : s.StrobesGood) (same : u.pool = s.pool)
    (before : u.anyAwake = true → s.anyAwake = true) :
    u.restPool.StrobesGood := by
  unfold State.restPool
  split
  · next awake => exact (State.PoolTurns.of_pool same).strobesGood (awake.trans (before awake).symm) good
  · next asleep =>
    obtain ⟨pool, -, inhibit, -⟩ := State.strobesGood_iff.mp good
    have keeps := State.PoolTurns.of_pool same pool
    refine powerDownPool_strobesGood (Bool.of_not_eq_true asleep) ?_
    rw [keeps.inhibit, keeps.inhibits]
    exact inhibit

theorem State.anyAwake_iff : s.anyAwake = true ↔ ∃ t, (s.channel t).awake = true := by
  rw [State.anyAwake, Bool.or_eq_true]
  exact ⟨fun h => h.elim (⟨.t1, ·⟩) (⟨.t2, ·⟩), fun ⟨t, h⟩ => by cases t; exacts [.inl h, .inr h]⟩

/-- A track that enters IDLE or PASSAGE leaves the strobes good. -/
theorem strobesGood_wake {t : TrackId} {f : Channel → Channel} (good : s.StrobesGood)
    (awake : (f (s.channel t)).awake = true) :
    (((s.updChannel t f).powerUpCameras t).wakePool s.anyAwake).StrobesGood := by
  refine wakePool_strobesGood good (powerUpCameras_samePool _ t) (State.anyAwake_iff.mpr ⟨t, ?_⟩)
  rw [State.channel_eq (powerUpCameras_channels _ _), State.updChannel_same]
  exact awake

/-- A track that leaves IDLE or PASSAGE leaves the strobes good. -/
theorem strobesGood_sleep {t : TrackId} {f : Channel → Channel} (good : s.StrobesGood)
    (asleep : (f (s.channel t)).awake = false) : ((s.updChannel t f).powerDownTrack t).StrobesGood := by
  have same : (s.updChannel t f).SameAwake ((s.updChannel t f).powerDownCameras t) :=
    .foldl (fun s i => s.removePower i) removePower_sameAwake _ _
  refine restPool_strobesGood good (powerDownCameras_samePool _ t) fun after => ?_
  obtain ⟨k, after⟩ := State.anyAwake_iff.mp after
  rw [same k] at after
  by_cases own : k = t
  · rw [own, State.updChannel_same, asleep] at after
    exact absurd after (by simp)
  · rw [State.updChannel_other s f own] at after
    exact State.anyAwake_iff.mpr ⟨k, after⟩

end Sys2Proof.Machine
end

section
/-! Proofs: every command keeps the strobes good (O58). -/

namespace Sys2Proof.Machine

variable {s u v : State}

/-! ## Requests and resets -/

theorem setLocalTime_samePool (s : State) (now : LocalTime) : (s.setLocalTime now).pool = s.pool := rfl

theorem withTracker_samePool (s : State) (k : Tracker) : { s with tracker := k }.pool = s.pool := rfl

/-- The requests that reach the strobe unit. -/
def RequestKind.lighting : List RequestKind := [.setTrackMode, .setStrobe, .setInhibit]

/-- The other requests leave the strobe unit alone. -/
theorem handle_pool {k : RequestKind} (body : List Byte) (s : State) (other : k ∉ RequestKind.lighting) :
    (handle k body s).state.pool = s.pool := by
  cases k with
  | setTrackMode | setStrobe | setInhibit => simp [RequestKind.lighting] at other
  | identify | restart | readEvents | readCameras | readStrobes | readHealth | readTime => rfl
  | setAttention | readTrack | resetCamera | readPlan | fetchRecord | setStore | setHealth | rejoinSensor | setReference =>
    simp only [handle, handleSetAttention, handleReadTrack, handleResetCamera, handleReadPlan, handleFetchRecord,
      handleSetStore, handleSetHealth, handleRejoinSensor, handleSetReference]
    split <;> rfl
  | releaseRecord =>
    simp only [handle, handleReleaseRecord]
    split
    · rfl
    · split <;> rfl
  | setTime =>
    simp only [handle, handleSetTime]
    split
    · rfl
    · split
      · rfl
      · exact (withTracker_samePool _ _).trans (setLocalTime_samePool s _)
  | setTrackGeometry | setTrackTiming | setSpeedFilter | setHeadLimits | setCamera =>
    simp only [handle, handleSetTrackGeometry, handleSetTrackTiming, handleSetSpeedFilter, handleSetHeadLimits,
      handleSetCamera]
    split
    · rfl
    · split
      · rfl
      · split <;> rfl
  | loadPlan | bindPlan =>
    simp only [handle, handleLoadPlan, handleBindPlan]
    split
    · split
      · rfl
      · split <;> rfl
    · rfl
  | rehearse =>
    simp only [handle, handleRehearse]
    split
    · split
      · rfl
      · split
        · rfl
        · split
          · rfl
          · split <;> rfl
    · rfl

theorem handle_sameAwake {k : RequestKind} (body : List Byte) (s : State) (other : k ≠ .setTrackMode) :
    s.SameAwake (handle k body s).state := by
  by_cases power : k ∈ [.setTrackMode, .setCamera, .resetCamera]
  · simp only [List.mem_cons, other, false_or, List.not_mem_nil, or_false] at power
    obtain rfl | rfl := power
    · exact .of_eq (handleSetCamera_channels body s)
    · exact .of_eq (handleResetCamera_channels body s)
  · obtain ⟨awake, -⟩ := handle_cameraTurns body s power
    exact awake

/-- A setting of a strobe that leaves its state and its pin. -/
theorem updStrobe_poolTurns {x : Fin 6} {f : Strobe → Strobe} (state : ∀ y, (f y).state = y.state)
    (sfire : ∀ y, (f y).sfire = y.sfire) : s.PoolTurns (s.updStrobe x f) := fun good => by
  have same (y : Fin 6) : ((s.updStrobe x f).strobe y).state = (s.strobe y).state
      ∧ ((s.updStrobe x f).strobe y).sfire = (s.strobe y).sfire := by
    rw [State.updStrobe_strobe]
    split
    · exact ⟨state _, sfire _⟩
    · exact ⟨rfl, rfl⟩
  obtain ⟨different, strobes, pins⟩ := good
  refine ⟨⟨different, fun y => ?_, pins⟩, fun y => by rw [(same y).1], fun _ y dark => (same y).2.trans dark, rfl, rfl⟩
  rw [State.StrobeGood, (same y).1, (same y).2]
  exact strobes y

theorem handleSetStrobe_poolTurns (body : List Byte) (s : State) : s.PoolTurns (handleSetStrobe body s).state := by
  unfold handleSetStrobe
  dsimp only
  split
  · exact .refl s
  · split
    · exact .refl s
    · split
      · exact .refl s
      · exact updStrobe_poolTurns (fun _ => rfl) fun _ => rfl

theorem abortPassage_sameAwake (s : State) (t : TrackId) : s.SameAwake (s.abortPassage t) :=
  ((updChannel_sameAwake rfl).trans (tending_tends.closeHeads t .cancelled _ _).sameAwake).trans
    (offerPassage_tends _ t _).sameAwake

theorem goOffline_strobesGood (t : TrackId) (good : s.StrobesGood) : (s.goOffline t).StrobesGood := by
  unfold State.goOffline
  split
  · exact good
  · exact strobesGood_sleep good rfl
  · exact strobesGood_sleep good rfl
  · have aborted := (State.PoolTurns.of_records (abortPassage_records s t)).strobesGood
      (abortPassage_sameAwake s t).anyAwake good
    exact strobesGood_sleep aborted rfl

theorem goInService_strobesGood (t : TrackId) (m : Mode) (good : s.StrobesGood) :
    (s.goInService t m).state.StrobesGood := by
  have woken : (s.wakeTrack t m).StrobesGood := strobesGood_wake good rfl
  unfold State.goInService
  split
  · split
    · exact woken
    · exact good
  · next idle =>
    have awake : s.SameAwake (s.updChannel t fun c => (c.takeMode m).enterIdle s.ticks) :=
      updChannel_sameAwake (by simp [Channel.awake, idle, Channel.enterIdle])
    exact (updChannel_poolTurns s t _).strobesGood awake.anyAwake good
  · exact woken
  · split <;> exact good

theorem handle_strobesGood (k : RequestKind) (body : List Byte) (s : State) (good : s.StrobesGood) :
    (handle k body s).state.StrobesGood := by
  cases k with
  | setTrackMode =>
    simp only [handle, handleSetTrackMode]
    split
    · exact goOffline_strobesGood _ good
    · exact goInService_strobesGood _ _ good
    · exact goInService_strobesGood _ _ good
    · exact good
  | setStrobe =>
    exact (handleSetStrobe_poolTurns body s).strobesGood (handle_sameAwake (k := .setStrobe) body s (by simp)).anyAwake good
  | setInhibit =>
    simp only [handle, handleSetInhibit]
    split
    · exact reformInhibit_strobesGood _ good
    · exact good
  | _ =>
    exact (State.PoolTurns.of_pool (handle_pool body s (by simp [RequestKind.lighting]))).strobesGood
      (handle_sameAwake body s (by simp)).anyAwake good

/-- Both resets leave the strobe unit at its reset values, with the inhibit formed from the inputs as they are. -/
theorem strobesGood_of_reset (strobes : u.strobes = State.reset.strobes) (queue : u.chargeQueue = [])
    (charger : u.charger = none) (pins : u.chgEn = false ∧ u.chgSel = 0#3) (asleep : u.anyAwake = false)
    (inhibit : u.inhibit = formInhibit u.inhibits) :
    u.StrobesGood := by
  obtain ⟨-, reset, -, off, -⟩ := State.reset_strobesGood
  have strobe := State.strobe_eq strobes
  refine ⟨by simp [queue], fun x => ?_, by simp [State.ChargerPinsGood, charger, pins], fun x => ?_, inhibit, fun _ x => ?_⟩
  · rw [State.StrobeGood, strobe, queue, charger]
    exact reset x
  · rw [strobe, off]
    exact iff_of_true rfl asleep
  · rw [strobe, State.reset_strobe]
    rfl

/-! ## Events -/

theorem openPassage_strobesGood {t : TrackId} (d : Direction) (stamp : LocalTime) (good : s.StrobesGood) :
    (s.openPassage t d stamp).StrobesGood := by
  unfold State.openPassage
  dsimp only
  split
  · exact strobesGood_wake good rfl
  · refine wakePool_strobesGood good rfl (State.anyAwake_iff.mpr ⟨t, ?_⟩)
    rw [State.updChannel_same]
    rfl

theorem disposePulse_strobesGood (t : TrackId) (w : WheelSensor) (stamp : LocalTime) (good : s.StrobesGood) :
    (s.disposePulse t w stamp).StrobesGood := by
  have taken {u : State} (good : u.StrobesGood) : (u.takePulse t w stamp).StrobesGood :=
    (takePulse_poolTurns u t w stamp).strobesGood (takePulse_cameraTurns u t w stamp).1.anyAwake good
  have opening : (s.openingPulse t w stamp).StrobesGood := by
    unfold State.openingPulse
    split
    · exact taken (openPassage_strobesGood _ stamp good)
    · exact good
  unfold State.disposePulse
  split
  · exact good
  · exact opening
  · exact opening
  · split
    · exact taken good
    · exact good

theorem execWheelPulseAccepted_strobesGood (t : TrackId) (w : WheelSensor) (good : s.StrobesGood) :
    Stays State.StrobesGood (execWheelPulseAccepted t w s) := by
  have taken (f : Channel → Channel) (awake : (f (s.channel t)).awake = (s.channel t).awake) (stamp : LocalTime) :
      ((s.updChannel t f).disposePulse t w stamp).StrobesGood :=
    disposePulse_strobesGood t w stamp ((updChannel_poolTurns s t f).strobesGood (updChannel_sameAwake awake).anyAwake good)
  refine Stays.next ?_
  dsimp only
  split
  · split
    · exact taken _ rfl _
    · exact good
  · split
    · exact taken _ rfl _
    · exact good

theorem execWheelTrailingEdge_poolTurns (t : TrackId) (w : WheelSensor) (s : State) :
    Stays s.PoolTurns (execWheelTrailingEdge t w s) := by
  refine Stays.next ?_
  dsimp only
  split
  · exact .refl s
  · split
    · unfold State.chatter
      split
      · exact (updChannel_poolTurns s t _).trans (tending_poolTurns.faultUnlessRehearsal _ t _)
      · exact updChannel_poolTurns s t _
    · exact updChannel_poolTurns s t _

theorem execBlockedStart_poolTurns (t : TrackId) (d : Detector) (s : State) :
    Stays s.PoolTurns (execBlockedStart t d s) := by
  refine Stays.next ?_
  split
  · exact (updChannel_poolTurns s t _).trans (.of_records (disposeStart_records _ t d))
  · exact .refl s

theorem execBlockedEnd_poolTurns (t : TrackId) (d : Detector) (s : State) : Stays s.PoolTurns (execBlockedEnd t d s) := by
  refine Stays.next ?_
  split
  · refine (updChannel_poolTurns s t fun c => c.settleDetector d false).trans ?_
    unfold State.disposeEnd
    dsimp only
    split
    · split
      · exact (State.PoolTurns.of_records (updPassage_records _ t _)).trans (tending_poolTurns.judgeInterval _ t _)
      · exact .refl _
    · exact .refl _
  · exact .refl s

theorem execHeadCrosses_poolTurns (t : TrackId) (n : Nat) (s : State) : Stays s.PoolTurns (execHeadCrosses t n s) := by
  refine Stays.next ?_
  split
  · split
    · exact tending_poolTurns.head s t n _
    · exact .refl s
  · exact .refl s

theorem execHeadDeparted_poolTurns (t : TrackId) (n : Nat) (s : State) : Stays s.PoolTurns (execHeadDeparted t n s) := by
  refine Stays.next ?_
  split
  · split
    · exact (tending_poolTurns.head s t n _).trans (.of_records (testHead_records _ t n))
    · exact .refl s
  · exact .refl s

theorem execTimelineEntryExpiry_poolTurns (t : TrackId) (n : Nat) (s : State) :
    Stays s.PoolTurns (execTimelineEntryExpiry t n s) := by
  refine Stays.next ?_
  split
  · split
    · exact tending_poolTurns.expireEntry s t n _
    · exact .refl s
  · exact .refl s

theorem updCamera_poolTurns (s : State) (i : Fin 8) (f : Camera → Camera) : s.PoolTurns (s.updCamera i f) := .of_pool rfl

theorem handOver_poolTurns (s : State) (r : ShotRef) (result : Confirmation) : s.PoolTurns (s.handOver r result) :=
  .of_records (handOver_records s r result)

theorem execCdoneEdge_poolTurns (i : Fin 8) (s : State) : Stays s.PoolTurns (execCdoneEdge i s) := by
  refine Stays.next ?_
  split
  · exact (updCamera_poolTurns s i _).trans (handOver_poolTurns _ _ _)
  · exact .refl s

theorem failCamera_poolTurns (s : State) (i : Fin 8) (shot : ShotRef) : s.PoolTurns (s.failCamera i shot) := by
  unfold State.failCamera
  refine State.PoolTurns.trans ?_ (.of_records (latch_records _ .cameraFault))
  split
  · exact (updCamera_poolTurns s i _).trans (.of_records (handOverBoth_records _ _ _ _ _))
  · exact (updCamera_poolTurns s i _).trans (handOver_poolTurns _ _ _)

theorem execConfirmationWindowExpiry_poolTurns (i : Fin 8) (s : State) :
    Stays s.PoolTurns (execConfirmationWindowExpiry i s) := by
  refine Stays.next ?_
  split
  · split
    · unfold State.expireWindow
      dsimp only
      split
      · exact (updCamera_poolTurns s i _).trans (failCamera_poolTurns _ i _)
      · exact (updCamera_poolTurns s i _).trans (handOver_poolTurns _ _ _)
    · exact .refl s
  · exact .refl s

theorem execClearIntervalExpiry_poolTurns (t : TrackId) (s : State) : Stays s.PoolTurns (execClearIntervalExpiry t s) := by
  obtain ⟨-, out⟩ | ⟨-, -, out⟩ | ⟨-, -, out⟩ := execClearIntervalExpiry_cases t s
  · exact out ▸ Stays.next (.of_records (beginClose_records s t))
  · exact out ▸ Stays.next (.of_records (completeClose_records s t))
  · exact out ▸ Stays.next (.refl s)

theorem execStalenessExpiry_poolTurns (t : TrackId) (s : State) : Stays s.PoolTurns (execStalenessExpiry t s) := by
  refine Stays.next ?_
  split
  · exact (updChannel_poolTurns s t _).trans (tending_poolTurns.reanchorAll t 0 _ _)
  · exact .refl s

theorem execRefEdge_poolTurns (rising : Bool) (s : State) : Stays s.PoolTurns (execRefEdge rising s) := by
  have judged : s.PoolTurns s.judgeEdge := by
    unfold State.judgeEdge
    split
    · exact .refl s
    · exact .of_pool ((latch_records _ _).pool.trans ((withTracker_samePool _ _).trans (setLocalTime_samePool s _)))
  refine Stays.next ?_
  split
  · exact .refl s
  · split
    · exact .refl s
    · exact judged
    · unfold State.measureEdge
      split
      · exact .of_pool (withTracker_samePool s _)
      · exact .refl s
    · exact judged

theorem execWindowClose_poolTurns (s : State) : Stays s.PoolTurns (execWindowClose s) := by
  refine Stays.next ?_
  split
  · unfold State.closeWindow State.missWindow
    split
    · exact .of_pool rfl
    · dsimp only
      split <;> exact .of_pool rfl
  · exact .refl s

theorem execRehearsalEdgeDelivery_poolTurns (t : TrackId) (s : State) :
    Stays s.PoolTurns (execRehearsalEdgeDelivery t s) := by
  refine Stays.next ?_
  split
  · exact .of_records (deliver_records s t _)
  · exact .refl s

theorem advance_poolTurns (s : State) : s.PoolTurns s.advance := by
  refine .of_pool ?_
  unfold State.advance State.tick
  split <;> rfl

/-- What an outcome leaves awake and keeps of the strobe unit keeps the strobes good. -/
theorem State.StrobesGood.stays {o : Host.Outcome State Fault Refusal} (good : s.StrobesGood) (awake : Stays s.CameraTurns o)
    (turns : Stays s.PoolTurns o) : Stays State.StrobesGood o := fun u next =>
  (turns u next).strobesGood (awake u next).1.anyAwake good

theorem steady_strobesGood : Steady State.StrobesGood where
  queue _ _ _ good := good
  link _ _ good := good
  attention _ _ good := good
  advance s good := (advance_poolTurns s).strobesGood (advance_cameraTurns s).1.anyAwake good
  handled := handle_strobesGood
  restart s _ := strobesGood_of_reset rfl rfl rfl ⟨rfl, rfl⟩ rfl rfl
  pinReset straps s _ := strobesGood_of_reset rfl rfl rfl ⟨rfl, rfl⟩ rfl rfl
  wheelLeadingEdge t w s good := by
    refine Stays.next ?_
    split
    · exact good
    · exact (updChannel_poolTurns s t _).strobesGood (updChannel_sameAwake rfl).anyAwake good
  wheelTrailingEdge t w s good := good.stays (execWheelTrailingEdge_cameraTurns t w s) (execWheelTrailingEdge_poolTurns t w s)
  wheelPulseAccepted t w _ good := execWheelPulseAccepted_strobesGood t w good
  headDetectorEdge t d high s good :=
    good.stays (execHeadDetectorEdge_cameraTurns t d high s) (Stays.next (updChannel_poolTurns s t _))
  blockedStart t d s good := good.stays (execBlockedStart_cameraTurns t d s) (execBlockedStart_poolTurns t d s)
  blockedEnd t d s good := good.stays (execBlockedEnd_cameraTurns t d s) (execBlockedEnd_poolTurns t d s)
  headCrosses t n s good := good.stays (execHeadCrosses_cameraTurns t n s) (execHeadCrosses_poolTurns t n s)
  headDeparted t n s good := good.stays (execHeadDeparted_cameraTurns t n s) (execHeadDeparted_poolTurns t n s)
  timelineEntryExpiry t n s good :=
    good.stays (execTimelineEntryExpiry_cameraTurns t n s) (execTimelineEntryExpiry_poolTurns t n s)
  triggerRelease i s good := good.stays (execTriggerRelease_cameraTurns i s) (Stays.next (by split <;> exact .of_pool rfl))
  cdoneEdge i s good := good.stays (execCdoneEdge_cameraTurns i s) (execCdoneEdge_poolTurns i s)
  confirmationWindowExpiry i s good :=
    good.stays (execConfirmationWindowExpiry_cameraTurns i s) (execConfirmationWindowExpiry_poolTurns i s)
  recoveryEnd i s good := good.stays (execRecoveryEnd_cameraTurns i s) (Stays.next (by split <;> exact .of_pool rfl))
  warmUpEnd i s good :=
    good.stays (Stays.next (updCamera_turns (.warmed s.ticks))) (Stays.next (updCamera_poolTurns s i _))
  strobePulseEnd x s good := good.stays (execStrobePulseEnd_cameraTurns x s) (execStrobePulseEnd_poolTurns x s)
  inhibitInputEdge i high s good := Stays.next (reformInhibit_strobesGood _ good)
  chargeCompletion s good := good.stays (execChargeCompletion_cameraTurns s) (execChargeCompletion_poolTurns s)
  clearIntervalExpiry t s good := good.stays (execClearIntervalExpiry_cameraTurns t s) (execClearIntervalExpiry_poolTurns t s)
  dormantDelayExpiry t s good := by
    refine Stays.next ?_
    split
    · exact strobesGood_sleep good rfl
    · exact good
  stalenessExpiry t s good := good.stays (execStalenessExpiry_cameraTurns t s) (execStalenessExpiry_poolTurns t s)
  refEdge rising s good := good.stays (execRefEdge_cameraTurns rising s) (execRefEdge_poolTurns rising s)
  windowClose s good := good.stays (execWindowClose_cameraTurns s) (execWindowClose_poolTurns s)
  rehearsalEdgeDelivery t s good :=
    good.stays (execRehearsalEdgeDelivery_cameraTurns t s) (execRehearsalEdgeDelivery_poolTurns t s)

/-- Settles O58: while the tracks stay as awake as they are, strobes join the queue, are charged and fire in ways that keep
the unit consistent; the pool wakes and rests with the tracks; and a forming inhibit cuts every strobe that fires. -/
theorem strobesStayGood : Obligations.StrobesStayGood := steady_strobesGood.kept

end Sys2Proof.Machine
end

section
/-! Proofs: the member of the charge queue that is charged, a pulse that ends, and a charge that completes (O44). -/

namespace Sys2Proof.Machine

variable {s u : State} {x : Fin 6} {m : QueueMember} {joins : Option Nat} {c : Charge}

/-! ## The member that is charged (R127, R128) -/

/-- What goes before every other element stands first. -/
theorem sortBy_first {α : Type} {goesBefore : α → α → Bool} {m : α} {l : List α} (mem : m ∈ l)
    (ahead : ∀ k ∈ l, k ≠ m → goesBefore m k = true ∧ goesBefore k m = false) :
    ∃ rest, sortBy goesBefore l = m :: rest := by
  induction l with
  | nil => simp at mem
  | cons x l ih =>
    have aheadOfRest : ∀ k ∈ l, k ≠ m → goesBefore m k = true ∧ goesBefore k m = false :=
      fun k mem => ahead k (List.mem_cons_of_mem x mem)
    rw [sortBy]
    by_cases own : x = m
    · subst own
      cases sorted : sortBy goesBefore l with
      | nil => exact ⟨[], rfl⟩
      | cons y rest =>
        have mem : y ∈ l := (sortBy_perm goesBefore l).mem_iff.mp (sorted ▸ List.mem_cons_self)
        rw [sortBy.insertFirst]
        split
        · next before =>
          by_cases same : y = x
          · exact ⟨_, by rw [same]⟩
          · simp [(aheadOfRest y mem same).2] at before
        · exact ⟨_, rfl⟩
    · obtain ⟨rest, sorted⟩ := ih ((List.mem_cons.mp mem).resolve_left (Ne.symm own)) aheadOfRest
      rw [sorted, sortBy.insertFirst, if_pos (ahead x List.mem_cons_self own).1]
      exact ⟨_, rfl⟩

/-- The member stands in the queue, ahead of every other (R127). -/
def State.First (s : State) (m : QueueMember) : Prop :=
  m ∈ s.chargeQueue ∧ ∀ k ∈ s.chargeQueue, k ≠ m → s.chargesBefore m k = true ∧ s.chargesBefore k m = false

theorem startCharge_first (free : s.charger = none) (first : s.First m) :
    s.startCharge joins = s.beginCharge joins m.strobe := by
  obtain ⟨mem, ahead⟩ := first
  obtain ⟨rest, order⟩ := sortBy_first (goesBefore := s.chargesBefore) mem ahead
  rw [State.startCharge, free, State.queueOrder, order]
  rfl

theorem startCharge_busy (busy : s.charger ≠ none) : s.startCharge joins = s :=
  if_pos (Option.isSome_iff_ne_none.mpr busy)

theorem startCharge_empty (empty : s.chargeQueue = []) : s.startCharge joins = s := by
  obtain ⟨same, -⟩ | ⟨front, rest, -, order, -⟩ := startCharge_cases s joins
  · exact same
  · rw [State.queueOrder, empty] at order
    exact absurd order (by simp [sortBy])

/-! ## A pulse that ends (R121, R128) -/

theorem Strobe.pulseDue_iff {y : Strobe} {ticks : Nat} :
    y.pulseDue ticks = true ↔ ∃ r p n, y.state = .firing r p n ∧ n + p ≤ ticks := by
  unfold Strobe.pulseDue
  split
  · next state => simp [state]
  · next other =>
    simp only [Bool.false_eq_true, false_iff]
    exact fun ⟨r, p, n, state, _⟩ => other r p n state

/-- Once a strobe has joined, the pulses that still end at this instant are those of others. -/
theorem joinsToCome_joinQueue (s : State) (x : Fin 6) (p : Option Nat) : (s.joinQueue x p).joinsToCome = true ↔
    ∃ y r p n, y ≠ x ∧ (s.strobe y).state = .firing r p n ∧ n + p ≤ s.ticks := by
  have ticks : (s.joinQueue x p).ticks = s.ticks := rfl
  simp only [State.joinsToCome, List.any_eq_true, mem_allStrobes, true_and, Strobe.pulseDue_iff, joinQueue_strobe, ticks]
  refine exists_congr fun y => ?_
  by_cases own : y = x
  · simp [own]
  · simp [own]

theorem strobePulseEnd_early
    (early : ∀ shot pulse since, (s.strobe x).state = .firing shot pulse since → s.ticks < since + pulse) :
    Completes (.strobePulseEnd x) s s := by
  have stays : execStrobePulseEnd x s = .next s := by
    unfold execStrobePulseEnd
    split
    · have notDue : ¬(s.strobe x).pulseDue s.ticks = true := fun due => by
        obtain ⟨r, p, n, state, due⟩ := Strobe.pulseDue_iff.mp due
        exact absurd (early r p n state) (Nat.not_lt.mpr due)
      rw [if_neg notDue]
    · rfl
  exact stays

/-- A strobe that joins an empty queue and is charged at once. -/
theorem beginCharge_joinQueue {pulse : Nat} (empty : s.chargeQueue = []) :
    (s.joinQueue x (some pulse)).beginCharge (some s.ticks) x
    = { s.updStrobe x fun y => { y with state := .charging, sfire := false, lastPulse := some pulse } with
        chargeQueue := []
        charger :=
          some { strobe := x, completes := s.ticks + ((s.strobe x).base + (s.strobe x).factor * pulse),
                 joins := some s.ticks }
        chgEn := true
        chgSel := BitVec.ofNat 3 x.val } := by
  rw [State.beginCharge, joinQueue_strobe, if_pos rfl]
  simp [State.joinQueue, State.updStrobe, updateAt_updateAt, empty, Strobe.chargeTicks]

section Due

variable {shot : ShotRef} {pulse since : Nat} (firing : (s.strobe x).state = .firing shot pulse since)
  (due : since + pulse ≤ s.ticks)
include firing due

theorem execStrobePulseEnd_due : execStrobePulseEnd x s = .next
    (if (s.joinQueue x (some pulse)).joinsToCome then s.joinQueue x (some pulse)
      else (s.joinQueue x (some pulse)).startCharge (some s.ticks)) := by
  have elapsed : (s.strobe x).pulseDue s.ticks = true := Strobe.pulseDue_iff.mpr ⟨_, _, _, firing, due⟩
  simp only [execStrobePulseEnd, firing, elapsed, if_true]

/-- The strobe joins, and that is all, while the charger is busy or another pulse ends at this instant. -/
theorem strobePulseEnd_joins
    (waits : s.charger ≠ none ∨ ∃ y r p n, y ≠ x ∧ (s.strobe y).state = .firing r p n ∧ n + p ≤ s.ticks) :
    Completes (.strobePulseEnd x) s (s.joinQueue x (some pulse)) := by
  refine (execStrobePulseEnd_due firing due).trans (congrArg _ ?_)
  rw [ite_eq_left_iff]
  intro alone
  rcases waits with busy | other
  · exact startCharge_busy busy
  · exact absurd ((joinsToCome_joinQueue s x _).mpr other) alone

/-- The strobe joins, and the free charger takes the member that stands first. -/
theorem strobePulseEnd_charges (free : s.charger = none)
    (alone : ∀ y r p n, y ≠ x → (s.strobe y).state = .firing r p n → s.ticks < n + p)
    (first : (s.joinQueue x (some pulse)).First m) :
    Completes (.strobePulseEnd x) s ((s.joinQueue x (some pulse)).beginCharge (some s.ticks) m.strobe) := by
  have noMore : ¬(s.joinQueue x (some pulse)).joinsToCome = true := fun more => by
    obtain ⟨y, r, p, n, other, state, due⟩ := (joinsToCome_joinQueue s x _).mp more
    exact absurd (alone y r p n other state) (Nat.not_lt.mpr due)
  refine (execStrobePulseEnd_due firing due).trans (congrArg _ ?_)
  rw [if_neg noMore]
  exact startCharge_first free first

end Due

/-! ## A charge that completes (R129) -/

theorem chargeDue_iff (runs : s.charger = some c) : s.chargeDue = true ↔ c.completes ≤ s.ticks := by
  simp [State.chargeDue, runs]

theorem chargeCompletion_early (early : ∀ c, s.charger = some c → s.ticks < c.completes) :
    Completes .chargeCompletion s s := by
  have stays : execChargeCompletion s = .next s := by
    unfold execChargeCompletion
    split
    · next runs => rw [if_neg (mt (chargeDue_iff runs).mp (Nat.not_le.mpr (early _ runs)))]
    · rfl
  exact stays

theorem chargeCompletion_due (runs : s.charger = some c) (due : c.completes ≤ s.ticks) :
    Completes .chargeCompletion s ((s.freeCharger c.strobe).startCharge none) := by
  have completes : execChargeCompletion s = .next ((s.freeCharger c.strobe).startCharge none) := by
    simp only [execChargeCompletion, runs, (chargeDue_iff runs).mpr due, if_true]
    rfl
  exact completes

/-- Settles O44: a pulse that ends has its strobe join, a charge that completes frees the charger, and a free charger takes
the member that stands first. -/
theorem strobesFireAndCharge : Obligations.StrobesFireAndCharge := by
  refine ⟨fun s x => ⟨strobePulseEnd_early, fun shot pulse since firing due => ⟨fun busy => ?_, fun free empty alone => ?_,
    fun free => ⟨fun other => ?_, fun m mem ahead alone => ?_⟩⟩⟩, fun s => ⟨chargeCompletion_early, fun c runs due =>
    ⟨fun empty => ?_, fun ahead m behind splits other first => ?_⟩⟩⟩
  · exact strobePulseEnd_joins firing due (.inl busy)
  · have only : (s.joinQueue x (some pulse)).First { strobe := x, joined := s.ticks } := by
      simp [State.First, State.joinQueue, empty]
    have charges := strobePulseEnd_charges firing due free alone only
    exact beginCharge_joinQueue (s := s) (x := x) (pulse := pulse) empty ▸ charges
  · exact strobePulseEnd_joins firing due (.inr other)
  · exact strobePulseEnd_charges firing due free alone ⟨mem, ahead⟩
  · have charges := chargeCompletion_due runs due
    rw [startCharge_empty (s := s.freeCharger c.strobe) empty] at charges
    exact charges
  · have charges := chargeCompletion_due runs due
    have queue : (s.freeCharger c.strobe).First m := by
      refine ⟨splits ▸ by simp, fun k mem apart => first k ?_⟩
      have mem : k ∈ s.chargeQueue := mem
      rw [splits] at mem
      simpa [apart] using mem
    rw [startCharge_first rfl queue, State.beginCharge, freeCharger_strobe, if_neg other] at charges
    exact charges

end Sys2Proof.Machine
end

section
/-! Proofs: the inhibit cuts the strobes that fire, and what joins the charge queue with them (O45). -/

namespace Sys2Proof.Machine

variable {s u : State} {x : Fin 6} {m : QueueMember} {v : Vector InhibitInput 4} {body : List Byte}

/-! ## What joins at a cut (R122, R128, log entry 19) -/

/-- The strobe whose charge is chosen anew at this instant, because joins of this very instant started it. -/
def State.reopens (s : State) : List (Fin 6) :=
  match s.charger with
  | some c => if c.joins = some s.ticks then [c.strobe] else []
  | none => []

/-- The charger runs a charge that is not chosen anew. -/
def State.Busy (s : State) : Prop := ∃ c, s.charger = some c ∧ c.joins ≠ some s.ticks

/-- A strobe once every FIRING one has been cut and the choice reopened. -/
def State.emptied (s : State) (x : Fin 6) : Strobe :=
  match (s.strobe x).state with
  | .firing _ _ n => { s.strobe x with state := .empty, sfire := false, lastPulse := some (s.ticks - n) }
  | _ => if x ∈ s.reopens then { s.strobe x with state := .empty, sfire := false } else s.strobe x

/-- The charge queue with all that join at a cut. -/
def State.cutQueue (s : State) : List QueueMember :=
  s.chargeQueue ++ joiners s.ticks (s.reopens ++ allStrobes.filter fun x => (s.strobe x).firing)

/-- The strobe on the charger is CHARGING. -/
def State.ChargerRuns (s : State) : Prop := ∀ c, s.charger = some c → (s.strobe c.strobe).state = .charging

theorem State.reopens_of_mem (mem : x ∈ s.reopens) : ∃ c, s.charger = some c ∧ c.strobe = x := by
  unfold State.reopens at mem
  split at mem
  · next c runs =>
    split at mem
    · exact ⟨c, runs, (List.mem_singleton.mp mem).symm⟩
    · simp at mem
  · simp at mem

/-- The choice that is reopened: the strobe on the charger joins the queue, and the charger is free. -/
theorem reopenChoice_reopens (s : State) :
    s.reopenChoice = { s with
      strobes := s.reopenChoice.strobes, chargeQueue := s.chargeQueue ++ joiners s.ticks s.reopens
      charger := s.reopenChoice.charger, chgEn := s.reopenChoice.chgEn, chgSel := s.reopenChoice.chgSel }
    ∧ (∀ x, s.reopenChoice.strobe x
      = if x ∈ s.reopens then { s.strobe x with state := .empty, sfire := false } else s.strobe x)
    ∧ (s.Busy → s.reopenChoice = s) ∧ (¬s.Busy → s.reopenChoice.charger = none) := by
  obtain ⟨same, busy⟩ | ⟨c, runs, joins, opened⟩ := reopenChoice_cases s
  · have fixed : s.reopens = [] := by
      unfold State.reopens
      split
      · next c runs => exact if_neg (busy c runs)
      · rfl
    refine ⟨?_, fun x => ?_, fun _ => same, fun free => ?_⟩
    · rw [same, fixed]
      simp [joiners]
    · simp [same, fixed]
    · rw [same]
      exact Option.eq_none_iff_forall_ne_some.mpr fun c runs => free ⟨c, runs, busy c runs⟩
  · have one : s.reopens = [c.strobe] := by simp [State.reopens, runs, joins]
    refine ⟨?_, fun x => ?_, fun ⟨d, runs', late⟩ => ?_, fun _ => ?_⟩
    · rw [opened, one]
      rfl
    · rw [opened, one]
      refine (joinQueue_strobe s c.strobe x _).trans ?_
      simp only [List.mem_singleton]
      split
      · next own => rw [own]
      · rfl
    · rw [runs, Option.some.injEq] at runs'
      exact absurd (runs' ▸ joins) late
    · rw [opened]

/-- The state once every FIRING strobe has been cut, before a charge is chosen. -/
def State.afterCuts (s : State) : State := allStrobes.foldl (fun s x => s.cutStrobe x) s.reopenChoice

theorem State.afterCuts_cuts (s : State) : s.reopenChoice.Cuts s.afterCuts allStrobes :=
  foldl_cutStrobe_cuts allStrobes allStrobes_nodup _

theorem reopenChoice_ticks (s : State) : s.reopenChoice.ticks = s.ticks := by
  obtain ⟨rest, -⟩ := reopenChoice_reopens s
  rw [rest]

/-- Reopening the choice neither lights nor darkens a strobe. -/
theorem reopenChoice_firing (runs : s.ChargerRuns) (x : Fin 6) (r : ShotRef) (p n : Nat) :
    (s.reopenChoice.strobe x).state = .firing r p n ↔ (s.strobe x).state = .firing r p n := by
  obtain ⟨-, strobe, -⟩ := reopenChoice_reopens s
  rw [strobe]
  split
  · next mem =>
    obtain ⟨c, charger, rfl⟩ := State.reopens_of_mem mem
    simp [runs c charger]
  · rfl

theorem State.afterCuts_strobe (runs : s.ChargerRuns) (x : Fin 6) : s.afterCuts.strobe x = s.emptied x := by
  obtain ⟨-, strobe, -⟩ := reopenChoice_reopens s
  rw [s.afterCuts_cuts.strobe, if_pos (mem_allStrobes x), strobe, reopenChoice_ticks, State.emptied]
  by_cases mem : x ∈ s.reopens
  · obtain ⟨c, charger, rfl⟩ := State.reopens_of_mem mem
    rw [if_pos mem, runs c charger]
    rfl
  · simp only [if_neg mem]
    rfl

theorem State.afterCuts_rest (runs : s.ChargerRuns) : s.afterCuts = { s with
    channels := s.afterCuts.channels, strobes := s.afterCuts.strobes, chargeQueue := s.cutQueue
    charger := s.reopenChoice.charger, chgEn := s.reopenChoice.chgEn, chgSel := s.reopenChoice.chgSel } := by
  obtain ⟨rest, -⟩ := reopenChoice_reopens s
  have firing : (fun x => (s.reopenChoice.strobe x).firing) = fun x => (s.strobe x).firing := by
    funext x
    rw [Bool.eq_iff_iff, Strobe.firing_iff, Strobe.firing_iff]
    simp only [reopenChoice_firing runs]
  have queue : s.reopenChoice.chargeQueue = s.chargeQueue ++ joiners s.ticks s.reopens := by rw [rest]
  have joined : s.reopenChoice.chargeQueue ++ joiners s.reopenChoice.ticks (allStrobes.filter fun x =>
      (s.reopenChoice.strobe x).firing) = s.cutQueue := by
    rw [firing, queue, reopenChoice_ticks, State.cutQueue, List.append_assoc, joiners, joiners, joiners, ← List.map_append]
  have cuts := s.afterCuts_cuts.rest
  rw [joined] at cuts
  rw [cuts, rest]

/-- Every open shot whose strobe was FIRING carries FLASH_CUT (R122). -/
def State.Marks (s u : State) : Prop := ∀ x r p n, (s.strobe x).state = .firing r p n → s.shotHeadOpen r = true →
  ∃ h, u.findHead r.track r.index = some h ∧ ∀ y ∈ h.shots, y.step = r.step → y.flashCut = true

theorem State.Marks.beginCharge (marks : s.Marks u) (joins : Option Nat) (x : Fin 6) : s.Marks (u.beginCharge joins x) := marks

theorem State.afterCuts_marks (runs : s.ChargerRuns) : s.Marks s.afterCuts := fun x r p n firing open_ =>
  s.afterCuts_cuts.marks x (mem_allStrobes x) r p n ((reopenChoice_firing runs x r p n).mpr firing)
    ((shotHeadOpen_eq (reopenChoice_channels s) r).trans open_)

/-- FLASH_CUT changes no place in the queue. -/
theorem State.Flashes.chargesBefore (flashes : s.Flashes u) (plans : u.plans = s.plans) (timeline : u.timeline = s.timeline) :
    u.chargesBefore = s.chargesBefore := by
  have plan (t : TrackId) (n : Nat) : u.planOf t n = s.planOf t n := by
    obtain ⟨f, flashes, found⟩ := flashes.findHead t
    have cursor (h : Head) : (f h).cursor = h.cursor := by rw [(flashes h).1]
    rw [State.planOf, State.planOf, found, plans, Option.bind_map]
    simp only [Function.comp_def, cursor]
  have need : u.needTime = s.needTime := by
    funext x
    simp only [State.needTime, State.entryNeeds, plan, timeline]
  funext a b
  simp only [State.chargesBefore, need]

theorem State.afterCuts_first (runs : s.ChargerRuns) (mem : m ∈ s.cutQueue)
    (ahead : ∀ k ∈ s.cutQueue, k ≠ m → s.chargesBefore m k = true ∧ s.chargesBefore k m = false) :
    s.afterCuts.First m := by
  have rest := State.afterCuts_rest runs
  have queue : s.afterCuts.chargeQueue = s.cutQueue := by rw [rest]
  have flashes : s.Flashes s.afterCuts := (State.Flashes.of_eq (reopenChoice_channels s)).trans s.afterCuts_cuts.heads
  have order : s.afterCuts.chargesBefore = s.chargesBefore := flashes.chargesBefore (by rw [rest]) (by rw [rest])
  rw [State.First, queue, order]
  exact ⟨mem, ahead⟩

/-! ## A cut, and the charge that follows it -/

theorem cutFiring_eq (firing : ∃ x r p n, (s.strobe x).state = .firing r p n) :
    s.cutFiring = s.afterCuts.startCharge (some s.ticks) := by
  obtain ⟨x, r, p, n, firing⟩ := firing
  exact if_pos (List.any_eq_true.mpr ⟨x, mem_allStrobes x, Strobe.firing_iff.mpr ⟨r, p, n, firing⟩⟩)

theorem cutFiring_none (dark : ∀ x r p n, (s.strobe x).state ≠ .firing r p n) : s.cutFiring = s := by
  refine if_neg fun firing => ?_
  obtain ⟨x, -, firing⟩ := List.any_eq_true.mp firing
  obtain ⟨r, p, n, firing⟩ := Strobe.firing_iff.mp firing
  exact dark x r p n firing

/-- A cut while the charger is busy. -/
def State.CutTo (s u : State) : Prop :=
  u = { s with channels := u.channels, strobes := u.strobes, chargeQueue := s.cutQueue }
  ∧ s.Marks u ∧ ∀ x, u.strobe x = s.emptied x

/-- A cut, and the charge of a member that joined with it or waited. -/
def State.ChargedTo (s : State) (m : QueueMember) (u : State) : Prop :=
  u = { s with
    channels := u.channels, strobes := u.strobes
    chargeQueue := s.cutQueue.filter fun k => k.strobe != m.strobe
    charger := some { strobe := m.strobe, completes := s.ticks + (s.emptied m.strobe).chargeTicks, joins := some s.ticks }
    chgEn := true
    chgSel := BitVec.ofNat 3 m.strobe.val }
  ∧ s.Marks u ∧ ∀ x, u.strobe x = if x = m.strobe then { s.emptied x with state := .charging } else s.emptied x

/-- The start of a charge, from a state that differs from `s` in channels and the strobe unit alone. -/
theorem beginCharge_frame {joins : Option Nat} {queue : List QueueMember} {charger : Option Charge} {en : Bool} {sel : BitVec 3}
    (rest : u = { s with
      channels := u.channels, strobes := u.strobes, chargeQueue := queue, charger := charger, chgEn := en, chgSel := sel }) :
    u.beginCharge joins x = { s with
      channels := (u.beginCharge joins x).channels, strobes := (u.beginCharge joins x).strobes
      chargeQueue := queue.filter fun k => k.strobe != x
      charger := some { strobe := x, completes := s.ticks + (u.strobe x).chargeTicks, joins := joins }
      chgEn := true
      chgSel := BitVec.ofNat 3 x.val } := by
  obtain ⟨channels, strobes, rfl⟩ : ∃ channels strobes, u = { s with
    channels := channels, strobes := strobes, chargeQueue := queue, charger := charger, chgEn := en, chgSel := sel } :=
      ⟨_, _, rest⟩
  rfl

section Cut

variable (runs : s.ChargerRuns) (firing : ∃ x r p n, (s.strobe x).state = .firing r p n)
include runs firing

theorem cutFiring_busy (busy : s.Busy) : s.CutTo s.cutFiring := by
  obtain ⟨-, -, opened, -⟩ := reopenChoice_reopens s
  have rest := State.afterCuts_rest runs
  rw [opened busy] at rest
  have charger : s.afterCuts.charger ≠ none := by
    obtain ⟨c, charges, -⟩ := busy
    rw [congrArg State.charger rest]
    simp [charges]
  rw [cutFiring_eq firing, startCharge_busy charger]
  exact ⟨rest, State.afterCuts_marks runs, State.afterCuts_strobe runs⟩

theorem cutFiring_free (free : ¬s.Busy) (mem : m ∈ s.cutQueue)
    (ahead : ∀ k ∈ s.cutQueue, k ≠ m → s.chargesBefore m k = true ∧ s.chargesBefore k m = false) :
    s.ChargedTo m s.cutFiring := by
  obtain ⟨-, -, -, opened⟩ := reopenChoice_reopens s
  have rest := State.afterCuts_rest runs
  have charger : s.afterCuts.charger = none := (congrArg State.charger rest).trans (opened free)
  have frame := beginCharge_frame (joins := some s.ticks) (x := m.strobe) rest
  rw [State.afterCuts_strobe runs] at frame
  rw [cutFiring_eq firing, startCharge_first charger (State.afterCuts_first runs mem ahead)]
  refine ⟨frame, (State.afterCuts_marks runs).beginCharge _ _, fun x => ?_⟩
  rw [beginCharge_strobe, State.afterCuts_strobe runs]

end Cut

/-! ## The inhibit is formed (R123) -/

/-- Some enabled input is at its active level. -/
def inhibited (v : Vector InhibitInput 4) : Bool := decide (∃ i : Fin 4, v[i].enabled = true ∧ v[i].level = v[i].activeHigh)

theorem formInhibit_eq (v : Vector InhibitInput 4) : formInhibit v = inhibited v := by
  rw [Bool.eq_iff_iff, formInhibit_iff, inhibited, decide_eq_true_iff]
  simp only [InhibitInput.active, Bool.and_eq_true, beq_iff_eq]

/-- The inhibit does not become active, or finds no strobe FIRING. -/
def State.Quiet (s : State) (v : Vector InhibitInput 4) : Prop :=
  inhibited v = false ∨ s.inhibit = true ∨ ∀ x r p n, (s.strobe x).state ≠ .firing r p n

theorem reformInhibit_quiet (quiet : s.Quiet v) :
    State.reformInhibit { s with inhibits := v } = { s with inhibits := v, inhibit := inhibited v } := by
  unfold State.reformInhibit
  rw [formInhibit_eq]
  dsimp only
  split
  · next becomes =>
    have dark : ∀ x r p n, (s.strobe x).state ≠ .firing r p n := by
      rcases quiet with off | on | dark
      · simp [off] at becomes
      · simp [on] at becomes
      · exact dark
    exact cutFiring_none (s := { s with inhibits := v, inhibit := inhibited v }) dark
  · rfl

theorem reformInhibit_cuts (loud : ¬s.Quiet v) : (∃ x r p n, (s.strobe x).state = .firing r p n)
    ∧ State.reformInhibit { s with inhibits := v } = State.cutFiring { s with inhibits := v, inhibit := true } := by
  simp only [State.Quiet, not_or, not_forall, not_not, Bool.not_eq_false, Bool.not_eq_true] at loud
  obtain ⟨on, before, firing⟩ := loud
  refine ⟨firing, ?_⟩
  simp [State.reformInhibit, formInhibit_eq, on, before]

/-- What the forming of the inhibit comes to, for whatever is said of the state that it leaves. -/
theorem reformInhibit_outcomes {reached : State → Prop} (runs : s.ChargerRuns)
    (reaches : reached (State.reformInhibit { s with inhibits := v })) :
    (s.Quiet v → reached { s with inhibits := v, inhibit := inhibited v })
    ∧ (¬s.Quiet v →
      (s.Busy → ∃ u, reached u ∧ State.CutTo { s with inhibits := v, inhibit := true } u)
      ∧ (¬s.Busy → ∀ m, (m ∈ s.cutQueue
        ∧ ∀ k ∈ s.cutQueue, k ≠ m → s.chargesBefore m k = true ∧ s.chargesBefore k m = false) →
        ∃ u, reached u ∧ State.ChargedTo { s with inhibits := v, inhibit := true } m u)) := by
  refine ⟨fun quiet => reformInhibit_quiet quiet ▸ reaches, fun loud => ?_⟩
  obtain ⟨firing, cuts⟩ := reformInhibit_cuts loud
  rw [cuts] at reaches
  refine ⟨fun busy => ⟨_, reaches, ?_⟩, fun free m ⟨mem, ahead⟩ => ⟨_, reaches, ?_⟩⟩
  · exact cutFiring_busy (s := { s with inhibits := v, inhibit := true }) runs firing busy
  · exact cutFiring_free (s := { s with inhibits := v, inhibit := true }) runs firing free mem ahead

/-! ## SET INHIBIT (R124) -/

theorem reformInhibit_ticks (s : State) : s.reformInhibit.ticks = s.ticks := by
  have cut (u : State) : u.cutFiring.ticks = u.ticks := by
    obtain ⟨ticks, -⟩ := (cutFiring_work u).keeps
    exact ticks
  unfold State.reformInhibit
  dsimp only
  split
  · exact cut _
  · rfl

/-- A fold of updates at different places updates each of those once. -/
theorem foldl_updateAt {α : Type} {n : Nat} (f : Fin n → α → α) (l : List (Fin n)) (different : l.Nodup) (v : Vector α n)
    (j : Fin n) : (l.foldl (fun v i => updateAt v i (f i)) v)[j.val] = if j ∈ l then f j v[j.val] else v[j.val] := by
  induction l generalizing v with
  | nil => rfl
  | cons i rest ih =>
    obtain ⟨new, different⟩ := List.nodup_cons.mp different
    rw [List.foldl_cons, ih different, updateAt_get]
    by_cases here : j = i
    · simp [here, new]
    · simp [here]

/-- The inputs as SET INHIBIT sets them. -/
theorem configureInhibits_eq {old : Vector InhibitInput 4} (sets : ∀ i : Fin 4, v[i] =
    { level := old[i].level, enabled := decide (field body (2 * i.val) 1 = 1),
      activeHigh := decide (field body (2 * i.val + 1) 1 = 1) }) : configureInhibits body old = v := by
  refine Vector.ext fun i inside => Eq.trans ?_ (sets ⟨i, inside⟩).symm
  exact (foldl_updateAt _ allInhibits (by decide) old ⟨i, inside⟩).trans (if_pos (mem_allInhibits _))

theorem isFlag_iff {n : Nat} : isFlag n = true ↔ n ≤ 1 := by
  rw [isFlag, Bool.or_eq_true, decide_eq_true_iff, decide_eq_true_iff]
  omega

theorem handleSetInhibit_flags (flags : ∀ b ∈ body, b.toNat ≤ 1) : handleSetInhibit body s
    = accept (State.reformInhibit { s with inhibits := configureInhibits body s.inhibits }) [] := by
  refine if_pos (List.all_eq_true.mpr fun b mem => ?_)
  rw [isFlag_iff]
  exact flags b mem

/-- Settles O45: an edge and a SET INHIBIT form the inhibit anew, which cuts the strobes that fire where it becomes active;
a charger that is free, or whose choice is reopened, takes the member that stands first. -/
theorem inhibitCutsFiringStrobes : Obligations.InhibitCutsFiringStrobes := by
  intro s formed quiet reopened emptied joining joined flashes cut charged busy chosen runs
  refine ⟨?_, fun body idle length => ⟨fun ⟨b, mem, big⟩ => ?_, fun v flags sets => ?_⟩⟩
  · intro i high v
    exact reformInhibit_outcomes (reached := Completes (.inhibitInputEdge i high) s) runs rfl
  · refine answers_of_handle idle (by omega) length (by simp) ?_ rfl
    have wrong : ¬(body.all fun b => isFlag b.toNat) = true := fun all =>
      absurd (isFlag_iff.mp (List.all_eq_true.mp all b mem)) (Nat.not_le.mpr big)
    exact if_neg wrong
  · refine reformInhibit_outcomes (reached := fun u => Answers .setInhibit body s u .ok []) runs ?_
    refine answers_of_handle idle (by omega) length (by simp) ?_ (reformInhibit_ticks _)
    rw [← configureInhibits_eq sets]
    exact handleSetInhibit_flags flags

end Sys2Proof.Machine
end

section
/-! Proofs: what keeps a health entry, the attention unit, the record store and the tracker good, operation by operation. -/

namespace Sys2Proof.Machine

/-! ## Health entries (R134 to R138, R141) -/

section health

variable {h : Health}

/-- A score in range, the state of its range and totals that go on counting make a good entry (R134). -/
theorem Health.Good.withScore (good : h.Good) {score : Nat} (range : score ≤ 255) : (h.withScore score).Good := by
  obtain ⟨-, -, progress, faults, goods⟩ := good
  refine ⟨range, rfl, ?_, faults, goods⟩
  unfold Health.withScore
  split
  · exact Nat.zero_le _
  · exact progress

theorem Health.Good.countFault (good : h.Good) : Health.Good { h with faults := satSucc top32 h.faults } := by
  obtain ⟨score, state, progress, -, goods⟩ := good
  exact ⟨score, state, progress, satSucc_le _ _, goods⟩

theorem Health.Good.countGood (good : h.Good) : Health.Good { h with goods := satSucc top32 h.goods } := by
  obtain ⟨score, state, progress, faults, -⟩ := good
  exact ⟨score, state, progress, faults, satSucc_le _ _⟩

theorem Health.Good.withProgress (good : h.Good) {n : Nat} (range : n ≤ 3) : Health.Good { h with progress := n } := by
  obtain ⟨score, state, -, faults, goods⟩ := good
  exact ⟨score, state, range, faults, goods⟩

theorem Health.Good.fault (good : h.Good) : h.fault.Good := by
  unfold Health.fault
  dsimp only
  split
  · exact good.countFault
  · exact good.countFault.withScore (Nat.min_le_left _ _)

theorem Health.Good.good (good : h.Good) : h.good.Good := by
  obtain ⟨score, -⟩ := id good
  unfold Health.good
  dsimp only
  split
  · exact good.countGood
  · exact good.countGood.withScore (by omega)

theorem Health.Good.rejoin (good : h.Good) : h.rejoin.Good := by
  obtain ⟨-, -, -, faults, goods⟩ := good
  exact ⟨Nat.zero_le _, rfl, Nat.zero_le _, faults, goods⟩

end health

theorem updHealth_healthGood {s : State} {i : Fin 12} {f : Health → Health} (keeps : ∀ h : Health, h.Good → (f h).Good)
    (good : s.HealthGood) : (s.updHealth i f).HealthGood := by
  intro j
  rw [State.updHealth_health]
  split
  · exact keeps _ (good j)
  · exact good j

/-! ## The attention unit (R181 to R184) -/

section attention

variable {a : Attention}

/-- In LEVEL mode ATTN settles on what the latched set and the mask say; in EDGE mode it stays. -/
theorem Attention.settle_good (edge : a.mode = .edge → a.attn = a.pulseEnds.isSome) : a.settle.Good := by
  unfold Attention.settle
  split
  · next level => exact ⟨fun _ => ⟨rfl, rfl⟩, fun other => absurd (level.symm.trans other) (by decide)⟩
  · next isEdge => exact ⟨fun other => absurd (isEdge.symm.trans other) (by decide), edge⟩

/-- A pulse of EDGE mode asserts ATTN until it ends. -/
theorem Attention.pulse_good (edge : a.mode = .edge) (ticks : Nat) : (a.pulse ticks).Good :=
  ⟨fun level => absurd (edge.symm.trans level) (by decide), fun _ => rfl⟩

theorem Attention.Good.latch (good : a.Good) (e : Event) (ticks : Nat) : (a.latch e ticks).Good := by
  obtain ⟨-, edge⟩ := id good
  unfold Attention.latch
  split
  · dsimp only
    split
    · exact Attention.settle_good edge
    · next isEdge =>
      split
      · exact Attention.pulse_good (a := { a with latched := a.latched ||| e.mask }) isEdge ticks
      · exact ⟨fun level => absurd (isEdge.symm.trans level) (by decide), edge⟩
  · exact good

theorem Attention.Good.clear (good : a.Good) : a.clear.Good := Attention.settle_good good.2

theorem Attention.Good.configure (good : a.Good) (mask : BitVec 12) (mode : AttnMode) (ticks : Nat) :
    (a.configure mask mode ticks).Good := by
  cases mode with
  | level => exact Attention.settle_good (a := { a with mask := mask, mode := .level }) nofun
  | edge =>
    have kept : (if a.mode = .level then { a with attn := false, pulseEnds := none } else a).attn
        = (if a.mode = .level then { a with attn := false, pulseEnds := none } else a).pulseEnds.isSome := by
      split
      · rfl
      · next notLevel => exact good.2 (by cases mode : a.mode <;> simp_all)
    unfold Attention.configure
    dsimp only
    generalize (if a.mode = .level then { a with attn := false, pulseEnds := none } else a) = base at kept ⊢
    split
    · exact Attention.pulse_good (a := { base with mask := mask, mode := .edge }) rfl ticks
    · exact ⟨fun level => absurd level (by simp), fun _ => kept⟩

/-- Only a pulse of EDGE mode runs out. -/
theorem Attention.Good.endPulse (good : a.Good) {ticks : Nat} (due : a.pulseDue ticks = true) : a.endPulse.Good := by
  obtain ⟨level, -⟩ := good
  refine ⟨fun isLevel => ?_, fun _ => rfl⟩
  obtain ⟨-, none⟩ := level isLevel
  simp [Attention.pulseDue, timerDue, none] at due

end attention

/-! ## Record numbers (R167) -/

theorem iterate_nextRecordNumber {n : Nat} (range : RecordNumber n) (k : Nat) :
    nextRecordNumber^[k] n = (n - 1 + k) % 65535 + 1 := by
  obtain ⟨low, high⟩ := range
  induction k with
  | zero =>
    rw [Function.iterate_zero_apply]
    omega
  | succ k ih =>
    rw [Function.iterate_succ_apply', ih, nextRecordNumber]
    split <;> omega

/-- The numbers that follow one another within a round are different. -/
theorem iterate_nextRecordNumber_nodup {n k : Nat} (range : RecordNumber n) (round : k ≤ 65535) :
    ((List.range k).map fun j => nextRecordNumber^[j] n).Nodup := by
  refine List.Nodup.map_on (fun i mem j mem' same => ?_) List.nodup_range
  rw [List.mem_range] at mem mem'
  rw [iterate_nextRecordNumber range, iterate_nextRecordNumber range] at same
  omega

/-- The search for a free number stops at one, unless the numbers that it may skip are all used. -/
theorem freeNumber_free_or (used : List Nat) (skips n : Nat) :
    freeNumber used skips n ∉ used ∨ ∀ k ≤ skips, nextRecordNumber^[k] n ∈ used := by
  induction skips generalizing n with
  | zero =>
    by_cases mem : n ∈ used
    · exact .inr fun k none => by rwa [Nat.le_zero.mp none]
    · exact .inl mem
  | succ skips ih =>
    rw [freeNumber]
    split
    · next mem =>
      refine (ih (nextRecordNumber n)).imp_right fun all k within => ?_
      cases k with
      | zero => exact mem
      | succ k => exact all k (Nat.le_of_succ_le_succ within)
    · exact .inl ‹_›

/-- Fewer numbers are used than may be skipped, so that the number assigned is a free one (R167). -/
theorem freeNumber_not_mem {used : List Nat} {n : Nat} (range : RecordNumber n) (few : used.length < 65535) :
    freeNumber used used.length n ∉ used := by
  refine (freeNumber_free_or used used.length n).resolve_right fun all => ?_
  have inside : ((List.range (used.length + 1)).map fun k => nextRecordNumber^[k] n) ⊆ used := by
    intro x mem
    obtain ⟨k, within, rfl⟩ := List.mem_map.mp mem
    exact all k (Nat.le_of_lt_succ (List.mem_range.mp within))
  have fits := ((iterate_nextRecordNumber_nodup range few).subperm inside).length_le
  rw [List.length_map, List.length_range] at fits
  omega

/-! ## The record store (R166 to R172) -/

section store

variable {st other : Store}

/-- A good store stays good where its numbers are some of those it had, in their order, and its threshold is in range. -/
theorem Store.Good.of_sublist (good : st.Good)
    (numbers : (other.records.map fun r => r.number).Sublist (st.records.map fun r => r.number))
    (next : other.nextNumber = st.nextNumber) (threshold : 1 ≤ other.threshold ∧ other.threshold ≤ 32) : other.Good := by
  obtain ⟨length, different, range, nextRange, -⟩ := good
  have count := numbers.length_le
  rw [List.length_map, List.length_map] at count
  refine ⟨count.trans length, different.sublist numbers, fun r mem => ?_, next ▸ nextRange, threshold⟩
  obtain ⟨x, held, same⟩ := List.mem_map.mp (numbers.subset (List.mem_map_of_mem mem))
  exact same ▸ range x held

theorem Store.Good.threshold (good : st.Good) : 1 ≤ st.threshold ∧ st.threshold ≤ 32 := by
  obtain ⟨-, -, -, -, threshold⟩ := good
  exact threshold

/-- A record joins a store with room under a free number (R167). -/
theorem Store.Good.append (good : st.Good) (room : st.records.length < 32) (t : TrackId) (now : LocalTime)
    (displaced : Bool) (body : RecordBody) : (st.append t now displaced body).Good := by
  obtain ⟨-, different, range, next, threshold⟩ := good
  have assigned : RecordNumber st.assigned := freeNumber_range _ _ _ next
  have free : st.assigned ∉ st.records.map fun r => r.number := by
    have free := freeNumber_not_mem (used := st.records.map fun r => r.number) next (by rw [List.length_map]; omega)
    rwa [List.length_map] at free
  refine ⟨?_, ?_, fun r mem => ?_, nextRecordNumber_range _, threshold⟩
  · simp only [Store.append, List.length_append, List.length_singleton]
    exact room
  · simp only [Store.append, List.map_append, List.map_cons, List.map_nil]
    rw [← List.concat_eq_append]
    exact different.concat free
  · rcases List.mem_append.mp mem with held | new
    · exact range r held
    · rw [List.mem_singleton.mp new]
      exact assigned

theorem Store.Good.dropOldest (good : st.Good) : Store.Good { st with records := st.records.drop 1 } :=
  good.of_sublist ((List.drop_sublist 1 _).map _) rfl good.threshold

theorem Store.Good.release (good : st.Good) (number : Nat) : (st.release number).Good :=
  good.of_sublist (List.filter_sublist.map _) rfl good.threshold

/-- Dealing places anew changes no number (R72). -/
theorem Store.Good.deal (good : st.Good) (moves : Moves) (offer : OfferedRecord) : (st.deal moves offer).Good := by
  obtain ⟨-, numbers, next, -, threshold⟩ := deal_keeps st moves offer
  exact good.of_sublist (numbers ▸ .refl _) next (threshold ▸ good.threshold)

/-- A store that gives up its oldest record has room for one (R169). -/
theorem Store.Good.room (good : st.Good) : (st.records.drop 1).length < 32 := by
  obtain ⟨length, -⟩ := good
  rw [Config.storeSlots] at length
  rw [List.length_drop]
  omega

end store

/-! ## The tracker (section 9.2, R149 to R155) -/

section tracker

variable {k : Tracker}

theorem Tracker.Good.enabled (good : k.Good) (works : k.state ≠ .free) : k.enabled = true := by
  obtain ⟨free, -⟩ := good
  exact Bool.of_not_eq_false fun disabled => works (free.mp disabled)

/-- A tracker that is enabled is good as it is LOCKED with at most one miss. -/
theorem Tracker.good_of_locked (enabled : k.enabled = true) (locked : k.state = .locked) (misses : k.misses ≤ 1) : k.Good := by
  simp [Tracker.Good, enabled, locked, misses]

theorem Tracker.Good.miss (good : k.Good) (locked : k.state = .locked) : k.miss.Good := by
  have enabled := good.enabled (by simp [locked])
  obtain ⟨-, misses, -⟩ := good
  unfold Tracker.miss
  split
  · simp [Tracker.Good, enabled]
  · exact Tracker.good_of_locked enabled locked (by simp only; omega)

theorem Tracker.Good.configure (good : k.Good) (enable falling : Bool) : (k.configure enable falling).Good := by
  unfold Tracker.configure
  split
  · simp [Tracker.Good, Tracker.restart]
  · split
    · simp [Tracker.Good, Tracker.restart]
    · exact good

/-- Corrections that follow from those there were leave the tracker good: of none come none. -/
theorem Tracker.Good.withCorrections (good : k.Good) {window : LocalTime} {corrections : List Correction}
    (none : k.corrections = [] → corrections = []) :
    Tracker.Good { k with window := window, corrections := corrections } := by
  obtain ⟨free, misses, unlocked, empty⟩ := good
  exact ⟨free, misses, unlocked, fun early => none (empty early)⟩

end tracker

end Sys2Proof.Machine
end

section
/-! Proofs: fault and good events (O49), and SET STORE, SET HEALTH and REJOIN SENSOR (O47). -/

namespace Sys2Proof.Machine

variable {s : State} {i : Fin 12} {body : List Byte}

/-! ## Fault and good events (R134 to R137) -/

/-- The thresholds of R134, from above. -/
theorem healthOfScore_eq (n : Nat) :
    healthOfScore n = if 128 ≤ n then HealthState.excluded else if 96 ≤ n then .degraded else .normal := by
  unfold healthOfScore
  grind

theorem healthOfScore_excluded_iff {n : Nat} : healthOfScore n = .excluded ↔ 128 ≤ n := by
  rw [healthOfScore_eq]
  split_ifs <;> simp_all

theorem updHealth_congr {f g : Health → Health} (h : f s.health[i] = g s.health[i]) :
    s.updHealth i f = s.updHealth i g := by
  have entry : f s.health[i.val] = g s.health[i.val] := h
  simp only [State.updHealth, updateAt, Fin.getElem_fin, entry]

/-- An EXCLUDED sensor keeps its score: only the total rises, and nothing is latched (R135). -/
theorem fault_of_excluded (excluded : s.health[i].state = .excluded) :
    s.fault i = s.updHealth i fun h => { h with faults := satSucc 4294967295 h.faults } := by
  have entry : s.health[i].fault = { s.health[i] with faults := satSucc 4294967295 s.health[i].faults } := if_pos excluded
  rw [State.fault, entry, excluded]
  exact updHealth_congr entry

theorem good_of_excluded (excluded : s.health[i].state = .excluded) :
    s.good i = s.updHealth i fun h => { h with goods := satSucc 4294967295 h.goods } := by
  have entry : s.health[i].good = { s.health[i] with goods := satSucc 4294967295 s.health[i].goods } := if_pos excluded
  rw [State.good, entry, excluded]
  exact updHealth_congr entry

/-- The entry of a sensor that works, after a fault event (R135). -/
def Health.faulted (h : Health) : Health :=
  { h with
    score := h.score + 8, state := healthOfScore (h.score + 8), faults := satSucc 4294967295 h.faults
    progress := if 128 ≤ h.score + 8 then 0 else h.progress }

/-- A sensor that works takes 8 on its score, which stays within 255, and the change of its state latches its event (R135). -/
theorem fault_of_working (state : s.health[i].state = healthOfScore s.health[i].score) (works : s.health[i].score < 128) :
    s.fault i = State.latchSome (s.updHealth i Health.faulted)
      (healthEvent (healthOfScore s.health[i].score) (healthOfScore (s.health[i].score + 8))) := by
  have notExcluded : s.health[i].state ≠ .excluded := by
    rw [state, ne_eq, healthOfScore_excluded_iff]
    omega
  have entry : s.health[i].fault = s.health[i].faulted := by
    rw [Health.fault, if_neg notExcluded, Nat.min_eq_right (by omega)]
    simp only [Health.withScore, Health.faulted, healthOfScore_excluded_iff, top32]
  rw [State.fault, updHealth_congr entry, entry, state]
  rfl

/-- A good event takes 1 from the score of a sensor that works; a state that it changes is a better one (R136). -/
theorem good_of_working (state : s.health[i].state = healthOfScore s.health[i].score) (works : s.health[i].score < 128) :
    s.good i = s.updHealth i fun h =>
      { h with score := h.score - 1, state := healthOfScore (h.score - 1), goods := satSucc 4294967295 h.goods } := by
  have notExcluded : s.health[i].state ≠ .excluded := by
    rw [state, ne_eq, healthOfScore_excluded_iff]
    omega
  have lower : ¬healthOfScore (s.health[i].score - 1) = .excluded := by
    rw [healthOfScore_excluded_iff]
    omega
  have entry : s.health[i].good = { s.health[i] with
      score := s.health[i].score - 1, state := healthOfScore (s.health[i].score - 1),
      goods := satSucc 4294967295 s.health[i].goods } := by
    rw [Health.good, if_neg notExcluded]
    simp only [Health.withScore, lower, if_false, top32]
  have quiet : healthEvent (healthOfScore s.health[i].score) (healthOfScore (s.health[i].score - 1)) = none := by
    unfold healthOfScore
    grind [healthEvent]
  rw [State.good, entry, state, quiet]
  exact updHealth_congr entry

/-- What a fault event of a sensor that works latches: its entry to EXCLUDED, or from NORMAL to DEGRADED (R134). -/
theorem healthEvent_of_rise {n : Nat} (works : n < 128) :
    healthEvent (healthOfScore n) (healthOfScore (n + 8)) =
      if 128 ≤ n + 8 then some .sensorExcluded else if n < 96 ∧ 96 ≤ n + 8 then some .sensorDegraded else none := by
  unfold healthOfScore
  grind [healthEvent]

/-- Settles O49: the state tells an EXCLUDED sensor from one that works, and where the score of one that works passes 96 or
128 its event is latched. -/
theorem faultAndGoodEventsMoveTheScore : Obligations.FaultAndGoodEventsMoveTheScore := by
  intro s i
  dsimp only
  simp only [← healthOfScore_eq]
  intro state
  refine ⟨fun excluded => ?_, fun works => ?_⟩
  · have excluded := state.trans (healthOfScore_excluded_iff.mpr excluded)
    exact ⟨fault_of_excluded excluded, good_of_excluded excluded⟩
  · have event := healthEvent_of_rise works
    have faulted := fault_of_working state works
    rw [event, updHealth_congr (g := fun h => { h with
      score := s.health[i].score + 8, state := healthOfScore (s.health[i].score + 8),
      faults := satSucc 4294967295 h.faults
      progress := if 128 ≤ s.health[i].score + 8 then 0 else h.progress }) rfl] at faulted
    refine ⟨good_of_working state works, fun excluded => ?_, fun low high => ?_, fun within => ?_⟩
    · rw [faulted, if_pos excluded]
      rfl
    · rw [faulted, if_neg (by omega), if_pos ⟨low, high⟩]
      rfl
    · rw [faulted, if_neg (by omega), if_neg (by omega)]
      rfl

/-! ## The three requests (R140, R142, R172) -/

theorem sensorOfCode_val (i : Fin 12) : sensorOfCode i.val = some i := dif_pos i.isLt

theorem sensorOfCode_none {n : Nat} (h : 12 ≤ n) : sensorOfCode n = none := dif_neg (by omega)

/-- Settles O47: no handler of the three looks at a track. -/
theorem storeAndHealthAreSet : Obligations.StoreAndHealthAreSet := by
  refine fun s body idle => ⟨fun length => ?_, fun length => ?_, fun length => ⟨fun wrong => ?_, fun i code => ?_⟩⟩
  · refine judged_of_checks (ok := isFlag (field body 0 1) && inRange 1 32 (field body 1 1)) (barred := false) idle (by omega)
      length (by simp) ?_ ?_ (by simp) rfl
    · simp only [handle, handleSetStore]
      cases isFlag (field body 0 1) && inRange 1 32 (field body 1 1) <;> rfl
    · rw [Bool.and_eq_true, isFlag_iff, inRange_iff]
  · refine judged_of_checks (ok := isFlag (field body 0 1)) (barred := false) idle (by omega) length (by simp) ?_ isFlag_iff
      (by simp) rfl
    simp only [handle, handleSetHealth]
    cases isFlag (field body 0 1) <;> rfl
  · refine answers_of_handle idle (by omega) length (by simp) ?_ rfl
    simp only [handle, handleRejoinSensor, sensorOfCode_none wrong]
    rfl
  · refine answers_of_handle idle (by omega) length (by simp) ?_ rfl
    simp only [handle, handleRejoinSensor, code, sensorOfCode_val]
    rfl

end Sys2Proof.Machine
end

section
/-! Proofs: what the operations of the part do to health, store, attention, tracker and link: each mends what it touches. -/

namespace Sys2Proof.Machine

variable {s u v : State}

/-! ## The shared units -/

/-- What most operations do to the shared units: each of health, store, attention and tracker stays good on its own, and the
link is revised at most. -/
structure State.Mends (s u : State) : Prop where
  health : s.HealthGood → u.HealthGood
  store : s.store.Good → u.store.Good
  attention : s.attention.Good → u.attention.Good
  tracker : s.tracker.Good → u.tracker.Good
  link : Revised s.link u.link

theorem State.Mends.refl (s : State) : s.Mends s := ⟨id, id, id, id, .refl _⟩

theorem State.Mends.trans (h : s.Mends u) (k : u.Mends v) : s.Mends v :=
  ⟨k.health ∘ h.health, k.store ∘ h.store, k.attention ∘ h.attention, k.tracker ∘ h.tracker, h.link.trans k.link⟩

/-- The shared units of the part. -/
def State.units (s : State) : Vector Health 12 × Store × Attention × Tracker × Link :=
  (s.health, s.store, s.attention, s.tracker, s.link)

/-- Where the shared units are as they were, there is nothing to mend. -/
theorem State.Mends.of_units (h : u.units = s.units) : s.Mends u := by
  simp only [State.units, Prod.mk.injEq] at h
  obtain ⟨health, store, attention, tracker, link⟩ := h
  refine ⟨fun good => ?_, fun good => store ▸ good, fun good => attention ▸ good, fun good => tracker ▸ good, ?_⟩
  · rwa [State.HealthGood, health]
  · rw [link]
    exact .refl _

theorem State.Mends.of_powers (h : Powers s u) : s.Mends u := .of_units (by unfold Powers at h; rw [h]; rfl)

theorem State.Mends.foldl {α : Type} (f : State → α → State) (h : ∀ (s : State) x, s.Mends (f s x)) (l : List α)
    (s : State) : s.Mends (l.foldl f s) := by
  induction l generalizing s with
  | nil => exact .refl s
  | cons x rest ih => exact (h s x).trans (ih _)

theorem updChannel_mends (s : State) (t : TrackId) (f : Channel → Channel) : s.Mends (s.updChannel t f) := .of_units rfl

theorem updCamera_mends (s : State) (i : Fin 8) (f : Camera → Camera) : s.Mends (s.updCamera i f) := .of_units rfl

theorem withTracker_mends (s : State) {k : Tracker} (keeps : s.tracker.Good → k.Good) : s.Mends { s with tracker := k } :=
  ⟨id, id, id, keeps, .refl _⟩

/-- Local time is set and the tracker changes with it (R150, R155). -/
theorem setLocalTime_mends (s : State) (now : LocalTime) {k : Tracker} (keeps : s.tracker.Good → k.Good) :
    s.Mends { s.setLocalTime now with tracker := k } := ⟨id, id, id, keeps, .refl _⟩

/-! ## Attention and health (R134 to R138, R181) -/

theorem latch_mends (s : State) (e : Event) : s.Mends (s.latch e) :=
  ⟨id, id, fun good => good.latch e s.ticks, id, .refl _⟩

theorem latchSome_mends (s : State) (e : Option Event) : s.Mends (s.latchSome e) := by
  cases e with
  | none => exact .refl s
  | some e => exact latch_mends s e

theorem updHealth_mends (s : State) (i : Fin 12) {f : Health → Health} (keeps : ∀ h : Health, h.Good → (f h).Good) :
    s.Mends (s.updHealth i f) := ⟨updHealth_healthGood keeps, id, id, id, .refl _⟩

theorem fault_mends (s : State) (i : Fin 12) : s.Mends (s.fault i) :=
  (updHealth_mends s i fun _ => Health.Good.fault).trans (latchSome_mends _ _)

theorem good_mends (s : State) (i : Fin 12) : s.Mends (s.good i) :=
  (updHealth_mends s i fun _ => Health.Good.good).trans (latchSome_mends _ _)

theorem agree_mends (s : State) (i : Fin 12) : s.Mends (s.agree i) := by
  unfold State.agree
  dsimp only
  split
  · exact (updHealth_mends s i fun _ => Health.Good.rejoin).trans (latch_mends _ _)
  · exact updHealth_mends s i fun _ good => good.withProgress (Nat.min_le_left _ _)

theorem reportSensor_mends (s : State) (t : TrackId) (agreed : Option Nat) (counts : PerSensor Nat) (w : WheelSensor) :
    s.Mends (s.reportSensor t agreed counts w) := by
  have restarts (u : State) (i : Fin 12) : u.Mends (u.updHealth i fun h => { h with progress := 0 }) :=
    updHealth_mends u i fun _ good => good.withProgress (Nat.zero_le _)
  unfold State.reportSensor
  dsimp only
  split
  · split
    · split
      · exact agree_mends s _
      · exact (fault_mends s _).trans (restarts _ _)
    · exact restarts s _
  · split
    · split
      · exact .refl s
      · exact fault_mends s _
    · exact .refl s

theorem reportClose_mends (s : State) (t : TrackId) : s.Mends (s.reportClose t) := by
  unfold State.reportClose
  dsimp only
  split
  · exact .foldl _ (fun s w => reportSensor_mends s t _ _ w) _ s
  · exact .refl s

/-! ## Records, heads and passages (R14 to R18, R72, R111, R168, R169) -/

/-- An offer stores its record where there is room or room is made, and latches an event at most (R168, R169). -/
theorem offer_mends (s : State) (t : TrackId) (body : RecordBody) : s.Mends (s.offer t body) := by
  unfold State.offer
  dsimp only
  split
  · next room =>
    have stored : s.Mends { s with store := s.store.append t s.localTime false body } :=
      ⟨id, fun good => good.append room _ _ _ _, id, id, .refl _⟩
    split
    · exact stored.trans (latch_mends _ _)
    · exact stored
  · split
    · have counted : s.Mends (s.countLost t body) := by cases body <;> exact .of_units rfl
      exact counted.trans (latch_mends _ _)
    · refine State.Mends.trans ?_ (latch_mends _ _)
      exact ⟨id, fun good => good.dropOldest.append good.room _ _ _ _, id, id, .refl _⟩

theorem offerInOrder_mends (s : State) (w : OfferedRecord) : s.Mends (s.offerInOrder w) := by
  refine State.Mends.trans ?_ (offer_mends _ w.track _)
  exact ⟨id, fun good => good.deal _ _, id, id, deal_revised s.link _ _⟩

theorem closeHead_mends (s : State) (t : TrackId) (n : Nat) (cause : CloseCause) : s.Mends (s.closeHead t n cause) := by
  unfold State.closeHead
  split
  · exact .refl s
  · refine State.Mends.trans ?_ (offerInOrder_mends _ _)
    exact .of_units rfl

theorem offerPassage_mends (s : State) (t : TrackId) (agreed : Option Nat) : s.Mends (s.offerPassage t agreed) := by
  refine State.Mends.trans ?_ (offer_mends _ t _)
  exact ⟨id, fun good => good.of_sublist (.refl _) rfl good.threshold, id, id, .refl _⟩

/-- The work on heads reaches the shared units by fault and good events and by the records of the heads that close. -/
theorem tending_mends : Tending State.Mends where
  refl := .refl
  trans := .trans
  head s t _ _ := updChannel_mends s t _
  close := closeHead_mends
  timeline _ _ := .of_units rfl
  expose _ _ _ _ _ := .of_units rfl
  fire _ _ _ _ _ _ := .of_units rfl
  fault := fault_mends
  good := good_mends
  accepted _ _ := .of_units rfl
  rejected _ _ := .of_units rfl
  dropped _ _ := .of_units rfl
  remove _ _ _ := .of_units rfl
  enter _ _ _ _ := .of_units rfl

theorem completeClose_mends (s : State) (t : TrackId) : s.Mends (s.completeClose t) := by
  unfold State.completeClose
  exact ((reportClose_mends s t).trans (offerPassage_mends _ t _)).trans (updChannel_mends _ t _)

theorem testHead_mends (s : State) (t : TrackId) (n : Nat) : s.Mends (s.testHead t n) := by
  refine (tending_mends.closeTest s t n).trans ?_
  rw [State.testHead]
  obtain same | ⟨-, -, -, completes⟩ := settleClose_cases (s.closeTest t n) t
  · rw [same]
    exact .refl _
  · rw [completes]
    exact completeClose_mends _ t

theorem testShotHead_mends (s : State) (r : ShotRef) : s.Mends (s.testShotHead r) := by
  unfold State.testShotHead
  split
  · exact testHead_mends s _ _
  · exact .refl s

theorem settleResult_mends (s : State) (r : ShotRef) (result : Confirmation) : s.Mends (s.settleResult r result) := by
  obtain ⟨-, same⟩ | ⟨-, notes⟩ := settleResult_cases s r result
  · rw [same]
    exact .refl s
  · rw [notes]
    exact updChannel_mends s _ _

theorem handOver_mends (s : State) (r : ShotRef) (result : Confirmation) : s.Mends (s.handOver r result) :=
  (settleResult_mends s r result).trans (testShotHead_mends _ r)

theorem handOverBoth_mends (s : State) (a b : ShotRef) (first second : Confirmation) :
    s.Mends (s.handOverBoth a first b second) :=
  (((settleResult_mends s a first).trans (settleResult_mends _ b second)).trans (testShotHead_mends _ a)).trans
    (testShotHead_mends _ b)

theorem beginClose_mends (s : State) (t : TrackId) : s.Mends (s.beginClose t) := by
  have stuck (u : State) (d : Detector) : u.Mends (u.stuckTest t d) := by
    unfold State.stuckTest
    split
    · exact tending_mends.faultUnlessRehearsal u t _
    · exact .refl u
  have tested := State.Mends.foldl (fun s d => s.stuckTest t d) stuck allDetectors s
  unfold State.beginClose
  exact (tested.trans (State.Mends.of_units (by rfl))).trans (tending_mends.closeTests t _ _)

/-! ## Cameras and strobes (R106, R110, R119 to R123) -/

theorem removePower_mends (s : State) (i : Fin 8) : s.Mends (s.removePower i) := by
  have aborts : s.Mends (s.abortWindow i) := by
    unfold State.abortWindow
    split
    · exact (updCamera_mends s i _).trans (handOver_mends _ _ _)
    · exact .refl s
  have cuts (u : State) : u.Mends (u.cutCamera i) := by
    unfold State.cutCamera
    dsimp only
    split
    · exact (updCamera_mends u i _).trans (handOver_mends _ _ _)
    · exact updCamera_mends u i _
  unfold State.removePower
  split
  · exact aborts.trans (cuts _)
  · exact .refl s

theorem powerDownTrack_mends (s : State) (t : TrackId) : s.Mends (s.powerDownTrack t) :=
  (State.Mends.foldl (fun s i => s.removePower i) removePower_mends _ s).trans (.of_powers (restPool_powers _))

theorem expireWindow_mends (s : State) (i : Fin 8) (shot : ShotRef) : s.Mends (s.expireWindow i shot) := by
  have fails (u : State) : u.Mends (u.failCamera i shot) := by
    unfold State.failCamera
    refine State.Mends.trans ?_ (latch_mends _ _)
    split
    · exact (updCamera_mends u i _).trans (handOverBoth_mends _ _ _ _ _)
    · exact (updCamera_mends u i _).trans (handOver_mends _ _ _)
  unfold State.expireWindow
  dsimp only
  split
  · exact (updCamera_mends s i _).trans (fails _)
  · exact (updCamera_mends s i _).trans (handOver_mends _ _ _)

theorem startCharge_mends (s : State) (joins : Option Nat) : s.Mends (s.startCharge joins) :=
  .of_powers (startCharge_powers s joins)

theorem cutStrobe_mends (s : State) (x : Fin 6) : s.Mends (s.cutStrobe x) := by
  unfold State.cutStrobe
  split
  · rw [flashCut_eq]
    exact .of_units rfl
  · exact .refl s

theorem reopenChoice_mends (s : State) : s.Mends s.reopenChoice := by
  obtain ⟨same, -⟩ | ⟨c, -, -, opened⟩ := reopenChoice_cases s
  · rw [same]
    exact .refl s
  · rw [opened]
    exact .of_units rfl

theorem reformInhibit_mends (s : State) : s.Mends s.reformInhibit := by
  have cuts (u : State) : u.Mends u.cutFiring := by
    unfold State.cutFiring
    split
    · exact ((reopenChoice_mends u).trans (.foldl (fun s x => s.cutStrobe x) cutStrobe_mends _ _)).trans (startCharge_mends _ _)
    · exact .refl u
  have formed : s.Mends { s with inhibit := formInhibit s.inhibits } := .of_units rfl
  unfold State.reformInhibit
  dsimp only
  split
  · exact formed.trans (cuts _)
  · exact formed

/-! ## Pulses (R9 to R13, R26 to R32) -/

theorem newEstimate_mends (s : State) (t : TrackId) (v : Nat) : s.Mends (s.newEstimate t v) := by
  have reanchored := (updChannel_mends s t fun c => c.takeSpeed v s.ticks).trans
    (tending_mends.reanchorAll t (windowEstimate (enterWindow (s.channel t).speed (s.channel t).window v))
      (s.channel t).timedIndices _)
  unfold State.newEstimate
  dsimp only
  split
  · exact reanchored.trans (tending_mends.judgeAll t _ _ _)
  · exact reanchored

theorem judgeMatch_mends (s : State) (t : TrackId) (r : PairRole) (dt : Nat) : s.Mends (s.judgeMatch t r dt) := by
  have noted := updChannel_mends s t fun c =>
    { c with passage := c.passage.noteSpeed ((s.channel t).frame.spacing r) dt }
  unfold State.judgeMatch
  dsimp only
  split
  · exact .refl s
  · split
    · exact ((noted.trans ((updChannel_mends _ t _).trans (newEstimate_mends _ t _))).trans
        (tending_mends.goodUnlessRehearsal _ t _)).trans (tending_mends.goodUnlessRehearsal _ t _)
    · exact noted.trans (updChannel_mends _ t _)

theorem orphan_mends (s : State) (t : TrackId) (r : PairRole) : s.Mends (s.orphan t r) :=
  ((updChannel_mends s t _).trans (tending_mends.closeHeads t .cancelled _ _)).trans (latch_mends _ _)

theorem pairPulse_mends (s : State) (t : TrackId) (w : WheelSensor) (stamp : LocalTime) : s.Mends (s.pairPulse t w stamp) := by
  have enters (r : PairRole) : s.Mends (s.firstSensorPulse t w r stamp) := by
    unfold State.firstSensorPulse
    split
    · exact updChannel_mends s t _
    · exact tending_mends.faultUnlessRehearsal s t _
  have leaves (r : PairRole) : s.Mends (s.secondSensorPulse t r stamp) := by
    unfold State.secondSensorPulse
    dsimp only
    split
    · split
      · exact orphan_mends s t r
      · exact .refl s
    · split
      · exact (updChannel_mends s t _).trans (judgeMatch_mends _ t r _)
      · exact updChannel_mends s t _
  unfold State.pairPulse
  dsimp only
  split
  · exact .refl s
  · split
    · exact enters _
    · exact leaves _

theorem takePulse_mends (s : State) (t : TrackId) (w : WheelSensor) (stamp : LocalTime) : s.Mends (s.takePulse t w stamp) := by
  unfold State.takePulse
  dsimp only
  split
  · exact (updChannel_mends s t _).trans (pairPulse_mends _ t w stamp)
  · exact updChannel_mends s t _

theorem openPassage_mends (s : State) (t : TrackId) (d : Direction) (stamp : LocalTime) : s.Mends (s.openPassage t d stamp) := by
  unfold State.openPassage
  dsimp only
  refine State.Mends.trans ?_ (.of_powers (wakePool_powers _ _))
  split
  · exact (updChannel_mends s t _).trans (.of_powers (powerUpCameras_powers _ t))
  · exact updChannel_mends s t _

theorem disposePulse_mends (s : State) (t : TrackId) (w : WheelSensor) (stamp : LocalTime) :
    s.Mends (s.disposePulse t w stamp) := by
  have opens : s.Mends (s.openingPulse t w stamp) := by
    unfold State.openingPulse
    split
    · exact (openPassage_mends s t _ stamp).trans (takePulse_mends _ t w stamp)
    · exact .refl s
  unfold State.disposePulse
  split
  · exact .refl s
  · exact opens
  · exact opens
  · split
    · exact takePulse_mends s t w stamp
    · exact .refl s

/-! ## Track modes (R2 to R5, R17) -/

theorem wakeTrack_mends (s : State) (t : TrackId) (m : Mode) : s.Mends (s.wakeTrack t m) :=
  ((updChannel_mends s t _).trans (.of_powers (powerUpCameras_powers _ t))).trans (.of_powers (wakePool_powers _ _))

theorem goOffline_mends (s : State) (t : TrackId) : s.Mends (s.goOffline t) := by
  have leaves (u : State) : u.Mends (u.leaveService t) := (updChannel_mends u t _).trans (powerDownTrack_mends _ t)
  have aborts : s.Mends (s.abortPassage t) :=
    ((updChannel_mends s t _).trans (tending_mends.closeHeads t .cancelled _ _)).trans (offerPassage_mends _ t _)
  unfold State.goOffline
  split
  · exact .refl s
  · exact leaves s
  · exact leaves s
  · exact aborts.trans (leaves _)

theorem goInService_mends (s : State) (t : TrackId) (m : Mode) : s.Mends (s.goInService t m).state := by
  unfold State.goInService
  split
  · split
    · exact wakeTrack_mends s t m
    · exact .refl s
  · exact updChannel_mends s t fun c => (c.takeMode m).enterIdle s.ticks
  · exact wakeTrack_mends s t m
  · split <;> exact .refl s

end Sys2Proof.Machine
end

section
/-! Proofs: every command keeps health, store, link, attention and tracker good (O59). -/

namespace Sys2Proof.Machine

variable {s u v : State}

/-! ## Requests -/

theorem storeSettings_mends (t : Option TrackId) (ok : Bool) (f : Channel → Channel) (s : State) :
    s.Mends (storeSettings t ok f s).state := by
  unfold storeSettings
  split
  · exact .refl s
  · split
    · exact .refl s
    · split
      · exact .refl s
      · exact updChannel_mends s _ f

theorem handleSetStore_mends (body : List Byte) (s : State) : s.Mends (handleSetStore body s).state := by
  unfold handleSetStore
  dsimp only
  split
  · next ok =>
    have range := inRange_iff.mp (Bool.and_eq_true_iff.mp ok).2
    exact ⟨id, fun good => good.of_sublist (.refl _) rfl range, id, id, .refl _⟩
  · exact .refl s

theorem handleSetTime_mends (body : List Byte) (s : State) : s.Mends (handleSetTime body s).state := by
  unfold handleSetTime
  dsimp only
  split
  · exact .refl s
  · split
    · exact .refl s
    · exact setLocalTime_mends s _ fun good => good.withCorrections fun none => congrArg (List.map _) none

theorem handle_mends (k : RequestKind) (body : List Byte) (s : State) : s.Mends (handle k body s).state := by
  cases k with
  | identify | restart | readCameras | readStrobes | readHealth | readTime => exact .refl s
  | readTrack | readPlan | fetchRecord =>
    simp only [handle, handleReadTrack, handleReadPlan, handleFetchRecord]
    split <;> exact .refl s
  | setHealth | resetCamera =>
    simp only [handle, handleSetHealth, handleResetCamera]
    split <;> exact .of_units rfl
  | setTrackGeometry => exact storeSettings_mends _ _ _ s
  | setTrackTiming => exact storeSettings_mends _ _ _ s
  | setSpeedFilter => exact storeSettings_mends _ _ _ s
  | setHeadLimits => exact storeSettings_mends _ _ _ s
  | loadPlan | bindPlan =>
    simp only [handle, handleLoadPlan, handleBindPlan]
    split
    · split
      · exact .refl s
      · split <;> exact .of_units rfl
    · exact .refl s
  | setCamera | setStrobe =>
    simp only [handle, handleSetCamera, handleSetStrobe]
    split
    · exact .refl s
    · split
      · exact .refl s
      · split <;> exact .of_units rfl
  | rehearse =>
    simp only [handle, handleRehearse]
    split
    · split
      · exact .refl s
      · split
        · exact .refl s
        · split
          · exact .refl s
          · split <;> exact .of_units rfl
    · exact .refl s
  | readEvents => exact ⟨id, id, fun good => good.clear, id, .refl _⟩
  | setAttention =>
    simp only [handle, handleSetAttention]
    split
    · exact ⟨id, id, fun good => good.configure _ _ _, id, .refl _⟩
    · exact .refl s
  | setTrackMode =>
    simp only [handle, handleSetTrackMode]
    split
    · exact goOffline_mends s _
    · exact goInService_mends s _ _
    · exact goInService_mends s _ _
    · exact .refl s
  | setInhibit =>
    simp only [handle, handleSetInhibit]
    split
    · refine State.Mends.trans ?_ (reformInhibit_mends _)
      exact .of_units rfl
    · exact .refl s
  | releaseRecord =>
    simp only [handle, handleReleaseRecord]
    split
    · exact .refl s
    · split
      · exact ⟨id, fun good => good.release _, id, id, .refl _⟩
      · exact .refl s
  | setStore => exact handleSetStore_mends body s
  | rejoinSensor =>
    simp only [handle, handleRejoinSensor]
    split
    · exact updHealth_mends s _ fun _ => Health.Good.rejoin
    · exact .refl s
  | setTime => exact handleSetTime_mends body s
  | setReference =>
    simp only [handle, handleSetReference]
    split
    · exact withTracker_mends s fun good => good.configure _ _
    · exact .refl s

theorem answer_mends (q : Request) (s : State) : s.Mends (answer q s).state := by
  unfold answer
  split
  · exact .refl s
  · split
    · exact handle_mends _ _ s
    · exact .refl s

/-! ## Events -/

theorem execWheelTrailingEdge_mends (t : TrackId) (w : WheelSensor) (s : State) :
    Stays s.Mends (execWheelTrailingEdge t w s) := by
  refine Stays.next ?_
  dsimp only
  split
  · exact .refl s
  · split
    · unfold State.chatter
      split
      · exact (updChannel_mends s t _).trans (tending_mends.faultUnlessRehearsal _ t _)
      · exact updChannel_mends s t _
    · exact updChannel_mends s t _

theorem execWheelPulseAccepted_mends (t : TrackId) (w : WheelSensor) (s : State) :
    Stays s.Mends (execWheelPulseAccepted t w s) := by
  refine Stays.next ?_
  dsimp only
  split
  · split
    · exact (updChannel_mends s t _).trans (disposePulse_mends _ t w _)
    · exact .refl s
  · split
    · exact (updChannel_mends s t _).trans (disposePulse_mends _ t w _)
    · exact .refl s

theorem execBlockedStart_mends (t : TrackId) (d : Detector) (s : State) : Stays s.Mends (execBlockedStart t d s) := by
  refine Stays.next ?_
  split
  · refine (updChannel_mends s t fun c => c.settleDetector d true).trans ?_
    unfold State.disposeStart
    dsimp only
    split
    · exact .refl _
    · split
      · split
        · exact updChannel_mends _ t _
        · exact .refl _
      · split
        · exact tending_mends.judgeDeparture _ t
        · exact .refl _
  · exact .refl s

theorem execBlockedEnd_mends (t : TrackId) (d : Detector) (s : State) : Stays s.Mends (execBlockedEnd t d s) := by
  refine Stays.next ?_
  split
  · refine (updChannel_mends s t fun c => c.settleDetector d false).trans ?_
    unfold State.disposeEnd
    dsimp only
    split
    · split
      · exact (updChannel_mends _ t _).trans (tending_mends.judgeInterval _ t _)
      · exact .refl _
    · exact .refl _
  · exact .refl s

theorem execHeadCrosses_mends (t : TrackId) (n : Nat) (s : State) : Stays s.Mends (execHeadCrosses t n s) := by
  refine Stays.next ?_
  split
  · split
    · exact tending_mends.head s t n _
    · exact .refl s
  · exact .refl s

theorem execHeadDeparted_mends (t : TrackId) (n : Nat) (s : State) : Stays s.Mends (execHeadDeparted t n s) := by
  refine Stays.next ?_
  split
  · split
    · exact (tending_mends.head s t n _).trans (testHead_mends _ t n)
    · exact .refl s
  · exact .refl s

theorem execTimelineEntryExpiry_mends (t : TrackId) (n : Nat) (s : State) :
    Stays s.Mends (execTimelineEntryExpiry t n s) := by
  refine Stays.next ?_
  split
  · split
    · exact tending_mends.expireEntry s t n _
    · exact .refl s
  · exact .refl s

theorem execCdoneEdge_mends (i : Fin 8) (s : State) : Stays s.Mends (execCdoneEdge i s) := by
  refine Stays.next ?_
  split
  · exact (updCamera_mends s i _).trans (handOver_mends _ _ _)
  · exact .refl s

theorem execConfirmationWindowExpiry_mends (i : Fin 8) (s : State) : Stays s.Mends (execConfirmationWindowExpiry i s) := by
  refine Stays.next ?_
  split
  · split
    · exact expireWindow_mends s i _
    · exact .refl s
  · exact .refl s

theorem execStrobePulseEnd_mends (x : Fin 6) (s : State) : Stays s.Mends (execStrobePulseEnd x s) := by
  have joins (p : Option Nat) : s.Mends (s.joinQueue x p) := .of_units rfl
  refine Stays.next ?_
  split
  · split
    · dsimp only
      split
      · exact joins _
      · exact (joins _).trans (startCharge_mends _ _)
    · exact .refl s
  · exact .refl s

theorem execChargeCompletion_mends (s : State) : Stays s.Mends (execChargeCompletion s) := by
  refine Stays.next ?_
  split
  · split
    · refine State.Mends.trans ?_ (startCharge_mends _ _)
      exact .of_units rfl
    · exact .refl s
  · exact .refl s

theorem execClearIntervalExpiry_mends (t : TrackId) (s : State) : Stays s.Mends (execClearIntervalExpiry t s) := by
  obtain ⟨-, out⟩ | ⟨-, -, out⟩ | ⟨-, -, out⟩ := execClearIntervalExpiry_cases t s
  · exact out ▸ Stays.next (beginClose_mends s t)
  · exact out ▸ Stays.next (completeClose_mends s t)
  · exact out ▸ Stays.next (.refl s)

theorem execDormantDelayExpiry_mends (t : TrackId) (s : State) : Stays s.Mends (execDormantDelayExpiry t s) := by
  refine Stays.next ?_
  split
  · exact (updChannel_mends s t _).trans (powerDownTrack_mends _ t)
  · exact .refl s

theorem execStalenessExpiry_mends (t : TrackId) (s : State) : Stays s.Mends (execStalenessExpiry t s) := by
  refine Stays.next ?_
  split
  · exact (updChannel_mends s t _).trans (tending_mends.reanchorAll t 0 _ _)
  · exact .refl s

theorem execRehearsalEdgeDelivery_mends (t : TrackId) (s : State) : Stays s.Mends (execRehearsalEdgeDelivery t s) := by
  refine Stays.next ?_
  split
  · unfold State.deliver
    dsimp only
    split
    · exact (updChannel_mends s t _).trans (latch_mends _ _)
    · exact updChannel_mends s t _
  · exact .refl s

/-! ## The tracker's own events (R148 to R154) -/

/-- A step leaves a tracker that was enabled LOCKED with no miss (R150). -/
theorem judgeEdge_mends (works : s.tracker.state ≠ .free) : s.Mends s.judgeEdge := by
  unfold State.judgeEdge
  split
  · exact .refl s
  · refine State.Mends.trans ?_ (latch_mends _ _)
    exact setLocalTime_mends s _ fun good => Tracker.good_of_locked (good.enabled works) rfl (Nat.zero_le _)

/-- An edge that is measured ends a run of misses (R152). -/
theorem measureEdge_mends (locked : s.tracker.state = .locked) : s.Mends s.measureEdge := by
  unfold State.measureEdge
  split
  · exact withTracker_mends s fun good => Tracker.good_of_locked (good.enabled (by simp [locked])) locked (Nat.zero_le _)
  · exact .refl s

theorem execRefEdge_mends (rising : Bool) (s : State) : Stays s.Mends (execRefEdge rising s) := by
  refine Stays.next ?_
  split
  · exact .refl s
  · split
    · exact .refl s
    · next search => exact judgeEdge_mends (by simp [search])
    · next locked => exact measureEdge_mends locked
    · next holdover => exact judgeEdge_mends (by simp [holdover])

/-- A window closes in LOCKED alone; the second miss in a row leaves LOCKED and ends the count (R152, R154). -/
theorem execWindowClose_mends (s : State) : Stays s.Mends (execWindowClose s) := by
  refine Stays.next ?_
  split
  · next due =>
    have locked : s.tracker.state = .locked := of_decide_eq_true (Bool.and_eq_true_iff.mp due).1
    unfold State.closeWindow State.missWindow
    split
    · exact withTracker_mends s id
    · have missed : s.Mends (State.latch { s with tracker := s.tracker.miss.turnWindow } .refMissed) := by
        refine State.Mends.trans ?_ (latch_mends _ _)
        exact withTracker_mends s fun good => good.miss locked
      dsimp only
      split
      · exact missed.trans (latch_mends _ _)
      · exact missed
  · exact .refl s

/-- A tick ends the order among the offers of its instant, and an adjusted one takes its target from the list (R72, R153). -/
theorem advance_mends (s : State) : s.Mends s.advance := by
  have ended (good : s.store.Good) : Store.Good { s.store with offered := [] } :=
    good.of_sublist (.refl _) rfl good.threshold
  unfold State.advance State.tick
  split
  · exact ⟨id, ended, id, fun good => good.withCorrections fun none => by rw [none]; rfl, .refl _⟩
  · exact ⟨id, ended, id, id, .refl _⟩

/-! ## The link (R177, R178, R180) -/

/-- What every command does to the shared units: each stays good on its own. -/
structure State.Upholds (s u : State) : Prop where
  health : s.HealthGood → u.HealthGood
  store : s.store.Good → u.store.Good
  link : s.link.Good → u.link.Good
  attention : s.attention.Good → u.attention.Good
  tracker : s.tracker.Good → u.tracker.Good

/-- A link that is revised at most has the requests that it had, and is as idle as it was. -/
theorem Revised.good {l m : Link} (h : Revised l m) (good : l.Good) : m.Good := by
  obtain ⟨-, -, queue, idle⟩ := h.keeps
  rwa [Link.Good, queue, idle]

theorem State.Mends.upholds (h : s.Mends u) : s.Upholds u := ⟨h.health, h.store, h.link.good, h.attention, h.tracker⟩

theorem State.Mends.upheld {o : Host.Outcome State Fault Refusal} (h : Stays s.Mends o) : Stays s.Upholds o :=
  fun u next => (h u next).upholds

theorem State.Upholds.refl (s : State) : s.Upholds s := (State.Mends.refl s).upholds

theorem State.Upholds.trans (h : s.Upholds u) (k : u.Upholds v) : s.Upholds v :=
  ⟨k.health ∘ h.health, k.store ∘ h.store, k.link ∘ h.link, k.attention ∘ h.attention, k.tracker ∘ h.tracker⟩

theorem withLink_upholds (s : State) {l : Link} (good : s.link.Good → l.Good) : s.Upholds { s with link := l } :=
  ⟨id, id, good, id, id⟩

theorem setReceiver_upholds (s : State) (r : Receiver) : s.Upholds (s.setReceiver r) := withLink_upholds s id

/-- A request that is taken is answered and its reply sent, while those behind it wait on (R178). -/
theorem process_upholds (s : State) (q : Request) {l : Link} (short : s.link.Good → l.queue.length ≤ Config.rxQueueMax) :
    s.Upholds (State.process { s with link := l } q) := by
  have answered := answer_mends q { s with link := l }
  obtain ⟨-, -, queue, -⟩ := answered.link.keeps
  refine ⟨answered.health, answered.store, fun good => ⟨?_, nofun⟩, answered.attention, answered.tracker⟩
  exact (congrArg List.length queue).trans_le (short good)

/-- A request is taken, waits behind fewer than 4, or is discarded (R177). -/
theorem receive_upholds (s : State) (q : Request) : s.Upholds (s.receive q) := by
  unfold State.receive
  split
  · exact process_upholds s q (l := s.link) And.left
  · next waits =>
    split
    · next room =>
      refine withLink_upholds s fun good => ⟨?_, fun idle => ?_⟩
      · rw [List.length_append]
        exact room
      · simp [show s.link.transmission = none from idle, good.2 idle] at waits
    · exact (latch_mends s _).upholds

theorem submit_upholds (s : State) (k : RequestKind) (tag : Byte) (body : List Byte) : s.Upholds (s.submit k tag body) := by
  unfold State.submit
  split
  · exact receive_upholds s _
  · exact .refl s

theorem completeFrame_upholds (s : State) (taken : List Byte) : s.Upholds (s.completeFrame taken) := by
  unfold State.completeFrame
  dsimp only
  split
  · exact (setReceiver_upholds s _).trans (receive_upholds _ _)
  · exact setReceiver_upholds s _

theorem takeByte_upholds (s : State) (taken : List Byte) : s.Upholds (s.takeByte taken) := by
  unfold State.takeByte
  split
  · exact .refl s
  · split
    · exact setReceiver_upholds s _
    · split
      · exact completeFrame_upholds s _
      · exact setReceiver_upholds s _

theorem execRxByte_upholds (value : Byte) (stopHigh : Bool) (s : State) : Stays s.Upholds (execRxByte value stopHigh s) := by
  have hunts : s.Upholds (s.hunt value stopHigh) := setReceiver_upholds s _
  refine Stays.next ?_
  split
  · exact hunts
  · split
    · exact hunts
    · split
      · exact takeByte_upholds s _
      · exact setReceiver_upholds s _
  · split
    · exact completeFrame_upholds s _
    · exact hunts

/-- At the end of a reply the first request that waits is taken (R178). -/
theorem endReply_upholds (s : State) : s.Upholds s.endReply := by
  unfold State.endReply State.takeNext
  split
  · next none => exact withLink_upholds s fun _ => ⟨by rw [none]; exact Nat.zero_le _, fun _ => none⟩
  · next first rest waits =>
    refine process_upholds s first fun good => ?_
    have short := good.1
    rw [show s.link.queue = first :: rest from waits, List.length_cons] at short
    exact Nat.le_of_succ_le short

/-! ## Resets (R144, R158, R173, R180) -/

/-- Both resets put health, store, link and attention at their reset values, which are good. -/
theorem common_upholds (s : State) (baud : BitVec 2) : s.Upholds (s.common baud) := by
  obtain ⟨-, -, -, -, -, -, -, -, -, -, health, tracker, store, -, attention⟩ := resetIsGood
  exact ⟨fun _ => health, fun _ => store, fun _ => ⟨Nat.zero_le _, fun _ => rfl⟩, fun _ => attention, fun _ => tracker⟩

/-- A RESTART lets the tracker go on, and empties the link (R158, R180). -/
theorem restart_upholds (s : State) : s.Upholds s.restart := by
  have common := common_upholds s s.link.baud
  exact ⟨common.health, common.store, fun _ => ⟨Nat.zero_le _, fun _ => rfl⟩, common.attention, id⟩

/-! ## Every command -/

theorem exec_upholds (c : Instr) (s : State) : Stays s.Upholds (exec c s) := by
  cases c
  case restartTakesEffect =>
    refine .next ?_
    split
    · exact restart_upholds s
    · exact .refl s
  case pinReset straps => exact .next (common_upholds s straps)
  case rxByte value stopHigh => exact execRxByte_upholds value stopHigh s
  case frameGapTimeout =>
    refine .next ?_
    split
    · exact setReceiver_upholds s _
    · exact .refl s
  case replySent =>
    refine .next ?_
    split
    · split
      · exact restart_upholds s
      · exact endReply_upholds s
    · exact .refl s
  case attnPulseEnd =>
    refine .next ?_
    split
    · next due => exact ⟨id, id, id, fun good => good.endPulse due, id⟩
    · exact .refl s
  case wheelLeadingEdge t w =>
    refine .next ?_
    split
    · exact .refl s
    · exact (updChannel_mends s t _).upholds
  case wheelTrailingEdge t w => exact State.Mends.upheld (execWheelTrailingEdge_mends t w s)
  case wheelPulseAccepted t w => exact State.Mends.upheld (execWheelPulseAccepted_mends t w s)
  case headDetectorEdge t d high => exact .next (updChannel_mends s t _).upholds
  case blockedStart t d => exact State.Mends.upheld (execBlockedStart_mends t d s)
  case blockedEnd t d => exact State.Mends.upheld (execBlockedEnd_mends t d s)
  case headCrosses t n => exact State.Mends.upheld (execHeadCrosses_mends t n s)
  case headDeparted t n => exact State.Mends.upheld (execHeadDeparted_mends t n s)
  case timelineEntryExpiry t n => exact State.Mends.upheld (execTimelineEntryExpiry_mends t n s)
  case triggerRelease i =>
    refine .next ?_
    split
    · exact (updCamera_mends s i _).upholds
    · exact .refl s
  case cdoneEdge i => exact State.Mends.upheld (execCdoneEdge_mends i s)
  case confirmationWindowExpiry i => exact State.Mends.upheld (execConfirmationWindowExpiry_mends i s)
  case recoveryEnd i =>
    refine .next ?_
    split
    · exact (updCamera_mends s i _).upholds
    · exact .refl s
  case warmUpEnd i => exact .next (updCamera_mends s i _).upholds
  case strobePulseEnd x => exact State.Mends.upheld (execStrobePulseEnd_mends x s)
  case inhibitInputEdge i high =>
    have seen : s.Mends { s with inhibits := updateAt s.inhibits i fun x => { x with level := high } } := .of_units rfl
    exact .next (seen.trans (reformInhibit_mends _)).upholds
  case chargeCompletion => exact State.Mends.upheld (execChargeCompletion_mends s)
  case clearIntervalExpiry t => exact State.Mends.upheld (execClearIntervalExpiry_mends t s)
  case dormantDelayExpiry t => exact State.Mends.upheld (execDormantDelayExpiry_mends t s)
  case stalenessExpiry t => exact State.Mends.upheld (execStalenessExpiry_mends t s)
  case refEdge rising => exact State.Mends.upheld (execRefEdge_mends rising s)
  case windowClose => exact State.Mends.upheld (execWindowClose_mends s)
  case adjustedTick =>
    refine .next ?_
    split
    · exact (advance_mends s).upholds
    · exact .refl s
  case rehearsalEdgeDelivery t => exact State.Mends.upheld (execRehearsalEdgeDelivery_mends t s)
  all_goals exact .next (submit_upholds s _ _ _)

theorem step_upholds (s : State) : Stays s.Upholds (step s) := by
  unfold Machine.step
  split
  · next c rest _ =>
    have taken : s.Mends { s with pending := rest } := .of_units rfl
    exact fun u next => taken.upholds.trans (exec_upholds c _ u next)
  · refine .next ?_
    obtain ⟨-, idle⟩ | ⟨e, -, n, idle⟩ := idle_cases s
    · rw [idle]
      exact (advance_mends s).upholds
    · rw [idle]
      exact ⟨id, id, id, id, id⟩

/-- Settles O59: a command of the link takes, queues or answers requests, and every other command reaches the shared units by
operations that keep each of them good. -/
theorem sharedUnitsStayGood : Obligations.SharedUnitsStayGood :=
  ⟨fun s u good next => (step_upholds s u next).health good, fun s u good next => (step_upholds s u next).store good,
    fun s u good next => (step_upholds s u next).link good, fun s u good next => (step_upholds s u next).attention good,
    fun s u good next => (step_upholds s u next).tracker good⟩

end Sys2Proof.Machine
end

section
/-! Proofs: the clock of the part, event by event: which of them leave the ticks and local time as they are. -/

namespace Sys2Proof.Machine

variable {s u v : State}

/-! ## The clock (R146, R147) -/

/-- From `s` to `u` no tick passes, and local time is neither stepped nor set. -/
def State.KeepsClock (s u : State) : Prop := u.ticks = s.ticks ∧ u.localTime = s.localTime

theorem State.KeepsClock.refl (s : State) : s.KeepsClock s := ⟨rfl, rfl⟩

theorem State.KeepsClock.trans (h : s.KeepsClock u) (k : u.KeepsClock v) : s.KeepsClock v :=
  ⟨k.1.trans h.1, k.2.trans h.2⟩

theorem Work.keepsClock (h : Work s u) : s.KeepsClock u := by
  obtain ⟨ticks, time, -⟩ := h.keeps
  exact ⟨ticks, time⟩

theorem Settings.keepsClock (h : Settings s u) : s.KeepsClock u := by
  obtain ⟨_, _, _, _, _, _, _, _, rfl⟩ := h
  exact .refl s

theorem Stays.keepsClock {o : Host.Outcome State Fault Refusal} (h : Stays (Work s) o) : Stays s.KeepsClock o :=
  fun u next => (h u next).keepsClock

theorem reformInhibit_keepsClock (s : State) : s.KeepsClock s.reformInhibit := by
  have formed : s.KeepsClock { s with inhibit := formInhibit s.inhibits } := ⟨rfl, rfl⟩
  unfold State.reformInhibit
  dsimp only
  split
  · exact formed.trans (cutFiring_work _).keepsClock
  · exact formed

/-! ## Events of tracks, heads, cameras and strobes -/

theorem execWheelLeadingEdge_work (t : TrackId) (w : WheelSensor) (s : State) :
    Stays (Work s) (execWheelLeadingEdge t w s) := by
  refine Stays.next ?_
  split
  · exact .refl s
  · exact (updChannel_records s t _).work

theorem execWheelTrailingEdge_work (t : TrackId) (w : WheelSensor) (s : State) :
    Stays (Work s) (execWheelTrailingEdge t w s) := by
  have low (f : Channel → Channel) : Work s (s.updChannel t f) := (updChannel_records s t f).work
  refine Stays.next ?_
  dsimp only
  split
  · exact .refl s
  · split
    · unfold State.chatter
      split
      · exact (low _).trans (faultUnlessRehearsal_records _ t _).work
      · exact low _
    · exact low _

theorem execWheelPulseAccepted_work (t : TrackId) (w : WheelSensor) (s : State) :
    Stays (Work s) (execWheelPulseAccepted t w s) := by
  refine Stays.next ?_
  dsimp only
  split
  · split
    · exact (updChannel_records s t _).work.trans (disposePulse_work _ t w _)
    · exact .refl s
  · split
    · exact (updChannel_records s t _).work.trans (disposePulse_work _ t w _)
    · exact .refl s

theorem execBlockedStart_work (t : TrackId) (d : Detector) (s : State) : Stays (Work s) (execBlockedStart t d s) := by
  refine Stays.next ?_
  split
  · exact ((updChannel_records s t _).trans (disposeStart_records _ t d)).work
  · exact .refl s

theorem execBlockedEnd_work (t : TrackId) (d : Detector) (s : State) : Stays (Work s) (execBlockedEnd t d s) := by
  refine Stays.next ?_
  split
  · exact (updChannel_records s t _).work.trans (disposeEnd_work _ t d)
  · exact .refl s

theorem execHeadCrosses_work (t : TrackId) (n : Nat) (s : State) : Stays (Work s) (execHeadCrosses t n s) := by
  refine Stays.next ?_
  split
  · split
    · exact (updHead_records s t n _).work
    · exact .refl s
  · exact .refl s

theorem execHeadDeparted_work (t : TrackId) (n : Nat) (s : State) : Stays (Work s) (execHeadDeparted t n s) := by
  refine Stays.next ?_
  split
  · split
    · exact ((updHead_records s t n _).trans (testHead_records _ t n)).work
    · exact .refl s
  · exact .refl s

theorem execTimelineEntryExpiry_work (t : TrackId) (n : Nat) (s : State) :
    Stays (Work s) (execTimelineEntryExpiry t n s) := by
  refine Stays.next ?_
  split
  · split
    · exact expireEntry_work s t n _
    · exact .refl s
  · exact .refl s

theorem execTriggerRelease_work (i : Fin 8) (s : State) : Stays (Work s) (execTriggerRelease i s) := by
  refine Stays.next ?_
  split
  · exact updCamera_work s i _
  · exact .refl s

theorem execCdoneEdge_work (i : Fin 8) (s : State) : Stays (Work s) (execCdoneEdge i s) := by
  refine Stays.next ?_
  split
  · exact (updCamera_work s i _).trans (handOver_records _ _ _).work
  · exact .refl s

theorem failCamera_work (s : State) (i : Fin 8) (shot : ShotRef) : Work s (s.failCamera i shot) := by
  unfold State.failCamera
  refine Work.trans ?_ (latch_records _ .cameraFault).work
  split
  · exact (updCamera_work s i _).trans (handOverBoth_records _ _ _ _ _).work
  · exact (updCamera_work s i _).trans (handOver_records _ _ _).work

theorem execConfirmationWindowExpiry_work (i : Fin 8) (s : State) :
    Stays (Work s) (execConfirmationWindowExpiry i s) := by
  refine Stays.next ?_
  split
  · split
    · unfold State.expireWindow
      dsimp only
      split
      · exact (updCamera_work s i _).trans (failCamera_work _ i _)
      · exact (updCamera_work s i _).trans (handOver_records _ _ _).work
    · exact .refl s
  · exact .refl s

theorem execRecoveryEnd_work (i : Fin 8) (s : State) : Stays (Work s) (execRecoveryEnd i s) := by
  refine Stays.next ?_
  split
  · exact updCamera_work s i _
  · exact .refl s

theorem execStrobePulseEnd_work (x : Fin 6) (s : State) : Stays (Work s) (execStrobePulseEnd x s) := by
  refine Stays.next ?_
  split
  · split
    · dsimp only
      split
      · exact joinQueue_work s x _
      · exact (joinQueue_work s x _).trans (startCharge_work _ _)
    · exact .refl s
  · exact .refl s

theorem execChargeCompletion_work (s : State) : Stays (Work s) (execChargeCompletion s) := by
  refine Stays.next ?_
  split
  · split
    · refine Work.trans ?_ (startCharge_work _ _)
      exact .of _ _ _ _ _ _ _ _ _ _ _ _
    · exact .refl s
  · exact .refl s

theorem execClearIntervalExpiry_work (t : TrackId) (s : State) : Stays (Work s) (execClearIntervalExpiry t s) := by
  obtain ⟨-, out⟩ | ⟨-, -, out⟩ | ⟨-, -, out⟩ := execClearIntervalExpiry_cases t s
  · exact out ▸ Stays.next (beginClose_records s t).work
  · exact out ▸ Stays.next (completeClose_records s t).work
  · exact out ▸ Stays.next (.refl s)

theorem execDormantDelayExpiry_work (t : TrackId) (s : State) : Stays (Work s) (execDormantDelayExpiry t s) := by
  refine Stays.next ?_
  split
  · exact (updChannel_records s t _).work.trans (powerDownTrack_work _ t)
  · exact .refl s

theorem execStalenessExpiry_work (t : TrackId) (s : State) : Stays (Work s) (execStalenessExpiry t s) := by
  refine Stays.next ?_
  split
  · exact (updChannel_records s t _).work.trans (reanchorAll_work t 0 _ _)
  · exact .refl s

theorem execRehearsalEdgeDelivery_work (t : TrackId) (s : State) : Stays (Work s) (execRehearsalEdgeDelivery t s) := by
  refine Stays.next ?_
  split
  · exact (deliver_records s t _).work
  · exact .refl s

end Sys2Proof.Machine
end

section
/-! Proofs: ticks, and local time during a passage (O2, O60). -/

namespace Sys2Proof.Machine

variable {s u v : State}

/-! ## Traffic (R151, R155, R157) -/

theorem wheelInput_counts_iff (x : WheelInput) (ticks : Nat) :
    x.counts ticks = true ↔ ∃ n, x.count = some n ∧ ticks < n.2 := by
  cases count : x.count <;> simp [WheelInput.counts, count]

theorem outerCountRuns_iff (c : Channel) (ticks : Nat) : c.outerCountRuns ticks = true ↔ c.OuterCounts ticks := by
  have real : (∃ w n, (w = .wao ∨ w = .wbo) ∧ (c.wheels.get w).count = some n ∧ ticks < n.2)
      ↔ c.wheels.wao.counts ticks = true ∨ c.wheels.wbo.counts ticks = true := by
    rw [wheelInput_counts_iff, wheelInput_counts_iff]
    constructor
    · rintro ⟨w, n, rfl | rfl, runs⟩
      · exact .inl ⟨n, runs⟩
      · exact .inr ⟨n, runs⟩
    · rintro (⟨n, runs⟩ | ⟨n, runs⟩)
      · exact ⟨.wao, n, .inl rfl, runs⟩
      · exact ⟨.wbo, n, .inr rfl, runs⟩
  rw [Channel.OuterCounts, real]
  simp [Channel.outerCountRuns]

theorem channel_traffic_iff (c : Channel) (ticks : Nat) : c.traffic ticks = true ↔
    c.state = .passage ∨ ((c.state = .idle ∨ c.state = .dormant) ∧ c.OuterCounts ticks) := by
  cases state : c.state <;> simp [Channel.traffic, state, outerCountRuns_iff]

theorem traffic_iff (s : State) : s.traffic = true ↔ s.SomeTraffic := by
  have track (t : TrackId) := channel_traffic_iff (s.channel t) s.ticks
  rw [State.traffic, Bool.or_eq_true]
  constructor
  · rintro (busy | busy)
    · exact ⟨.t1, (track .t1).mp busy⟩
    · exact ⟨.t2, (track .t2).mp busy⟩
  · rintro ⟨t, busy⟩
    cases t
    · exact .inl ((track .t1).mpr busy)
    · exact .inr ((track .t2).mpr busy)

theorem State.SomePassage.traffic (h : s.SomePassage) : s.traffic = true := by
  obtain ⟨t, passage⟩ := h
  exact (traffic_iff s).mpr ⟨t, .inl passage⟩

/-! ## A tick (R146, R153) -/

/-- A tick passes from `s` to `u`: an adjusted one advances local time by 2 or 0, every other one by 1 (R146, R153). -/
def State.TickPasses (s u : State) : Prop :=
  u.ticks = s.ticks + 1
  ∧ ((∃ c ∈ s.tracker.corrections, c.target = s.localTime + 1#48
        ∧ u.localTime = s.localTime + (if c.up then 2#48 else 0#48))
    ∨ ((∀ c ∈ s.tracker.corrections, c.target ≠ s.localTime + 1#48) ∧ u.localTime = s.localTime + 1#48))

theorem nextCorrection_none (h : ∀ c ∈ s.tracker.corrections, c.target ≠ s.localTime + 1#48) : s.nextCorrection = none :=
  List.find?_eq_none.mpr fun c mem => by simpa [later] using h c mem

theorem nextCorrection_first {c : Correction} {ahead behind : List Correction}
    (corrections : s.tracker.corrections = ahead ++ c :: behind) (target : c.target = s.localTime + 1#48)
    (first : ∀ d ∈ ahead, d.target ≠ c.target) : s.nextCorrection = some c := by
  have passed : ahead.find? (fun d => d.target == later s.localTime 1) = none :=
    List.find?_eq_none.mpr fun d mem => by simpa [later, ← target] using first d mem
  rw [State.nextCorrection, corrections, List.find?_append, passed]
  simp [target, later]

theorem later_advance (t : LocalTime) (c : Correction) : later t c.advance = t + (if c.up then 2#48 else 0#48) := by
  unfold Correction.advance
  split <;> rfl

/-- A tick that no correction adjusts. -/
theorem advance_plain (none : s.nextCorrection = none) :
    s.advance = { s with
      ticks := s.ticks + 1, localTime := s.localTime + 1#48, store := { s.store with offered := [] } } := by
  have none' : State.nextCorrection { s with store := { s.store with offered := [] } } = Option.none := none
  rw [State.advance, State.tick, none']
  rfl

/-- An adjusted tick. -/
theorem advance_adjusted {c : Correction} (next : s.nextCorrection = some c) :
    s.advance = { s with
      ticks := s.ticks + 1
      localTime := s.localTime + (if c.up then 2#48 else 0#48)
      tracker := { s.tracker with corrections := s.tracker.corrections.erase c }
      store := { s.store with offered := [] } } := by
  have next' : State.nextCorrection { s with store := { s.store with offered := [] } } = some c := next
  rw [State.advance, State.tick, next', ← later_advance]

theorem advance_tickPasses (s : State) : s.TickPasses s.advance := by
  cases next : s.nextCorrection with
  | none =>
    rw [advance_plain next]
    refine ⟨rfl, .inr ⟨fun c mem target => ?_, rfl⟩⟩
    exact List.find?_eq_none.mp next c mem (beq_iff_eq.mpr target)
  | some c =>
    have reached : (c.target == later s.localTime 1) = true :=
      List.find?_some (p := fun d : Correction => d.target == later s.localTime 1) next
    rw [advance_adjusted next]
    exact ⟨rfl, .inl ⟨c, List.mem_of_find?_eq_some next, eq_of_beq reached, rfl⟩⟩

/-- Settles O2: with nothing waiting the part goes on by `idle_cases`, and the correction of a tick is the first of the list
whose target that tick would reach. -/
theorem timePassesOnlyWhenNothingIsDue : Obligations.TimePassesOnlyWhenNothingIsDue := by
  have idles {s : State} (empty : s.pending = []) : step s = .next s.idle := by rw [step, empty]
  refine ⟨fun s empty due => ?_, fun s empty calm none => ?_, fun s c ahead behind calm corrections target first => ?_⟩
  · obtain ⟨calm, -⟩ | ⟨e, mem, n, idle⟩ := idle_cases s
    · exact absurd calm due
    · exact ⟨e, mem, n, by rw [idles empty, idle]⟩
  · obtain ⟨-, idle⟩ | ⟨e, mem, -⟩ := idle_cases s
    · rw [idles empty, idle, advance_plain (nextCorrection_none none)]
    · simp [calm] at mem
  · have next := nextCorrection_first corrections target first
    have other : c ∉ ahead := fun mem => first c mem rfl
    have erased : s.tracker.corrections.erase c = ahead ++ behind := by
      rw [corrections, List.erase_append_right _ other, List.erase_cons_head]
    change execAdjustedTick s = _
    rw [execAdjustedTick, next, calm, ← erased, ← advance_adjusted next]
    rfl

/-! ## Requests during a passage (R147, R155) -/

theorem storeSettings_keepsClock (t : Option TrackId) (ok : Bool) (f : Channel → Channel) (s : State) :
    s.KeepsClock (storeSettings t ok f s).state := by
  unfold storeSettings
  split
  · exact .refl s
  · split
    · exact .refl s
    · split
      · exact .refl s
      · exact (updChannel_records s _ f).work.keepsClock

theorem handleSetTrackMode_work (body : List Byte) (s : State) : Work s (handleSetTrackMode body s).state := by
  unfold handleSetTrackMode
  split
  · exact goOffline_work s _
  · exact goInService_work s _ _
  · exact goInService_work s _ _
  · exact .refl s

/-- SET TIME is refused during traffic (R155). -/
theorem handleSetTime_busy (body : List Byte) (busy : s.traffic = true) : (handleSetTime body s).state = s := by
  by_cases high : 281474975 < field body 0 4
  · rw [handleSetTime, if_pos high]
    rfl
  · rw [handleSetTime, if_neg high, if_pos busy]
    rfl

/-- During traffic no request sets local time. -/
theorem handle_keepsClock (k : RequestKind) (body : List Byte) (busy : s.traffic = true) :
    s.KeepsClock (handle k body s).state := by
  cases k with
  | setTrackGeometry => exact storeSettings_keepsClock _ _ _ s
  | setTrackTiming => exact storeSettings_keepsClock _ _ _ s
  | setSpeedFilter => exact storeSettings_keepsClock _ _ _ s
  | setHeadLimits => exact storeSettings_keepsClock _ _ _ s
  | setTrackMode => exact (handleSetTrackMode_work body s).keepsClock
  | setCamera =>
    simp only [handle, handleSetCamera]
    split
    · exact .refl s
    · split
      · exact .refl s
      · split
        · exact (updCamera_work s _ _).keepsClock
        · exact .refl s
  | resetCamera =>
    simp only [handle, handleResetCamera]
    split
    · exact .refl s
    · exact (updCamera_work s _ _).keepsClock
  | setInhibit =>
    have configured : s.KeepsClock { s with inhibits := configureInhibits body s.inhibits } := ⟨rfl, rfl⟩
    simp only [handle, handleSetInhibit]
    split
    · exact configured.trans (reformInhibit_keepsClock _)
    · exact .refl s
  | setTime =>
    rw [handle, handleSetTime_busy body busy]
    exact .refl s
  | rehearse =>
    simp only [handle, handleRehearse]
    split
    · split
      · exact .refl s
      · split
        · exact .refl s
        · split
          · exact .refl s
          · split
            · exact .refl s
            · exact (updChannel_records s _ _).work.keepsClock
    · exact .refl s
  | _ => exact (handle_settings body s (by simp [RequestKind.reaching])).keepsClock

/-! ## The link during a passage (R176 to R178) -/

/-- A request is answered, whatever the link holds. -/
theorem process_keepsClock (q : Request) (busy : s.traffic = true) : s.KeepsClock (s.process q) := by
  have answered : s.KeepsClock (answer q s).state := by
    unfold answer
    split
    · exact .refl s
    · split
      · exact handle_keepsClock _ _ busy
      · exact .refl s
  exact answered

theorem receive_keepsClock (q : Request) (busy : s.traffic = true) : s.KeepsClock (s.receive q) := by
  unfold State.receive
  split
  · exact process_keepsClock q busy
  · split <;> exact ⟨rfl, rfl⟩

theorem submit_keepsClock (k : RequestKind) (tag : Byte) (body : List Byte) (busy : s.traffic = true) :
    s.KeepsClock (s.submit k tag body) := by
  unfold State.submit
  split
  · exact receive_keepsClock _ busy
  · exact .refl s

theorem setReceiver_keepsClock (s : State) (r : Receiver) : s.KeepsClock (s.setReceiver r) := ⟨rfl, rfl⟩

theorem completeFrame_keepsClock (taken : List Byte) (busy : s.traffic = true) : s.KeepsClock (s.completeFrame taken) := by
  have hunting : (s.setReceiver .hunting).traffic = true := busy
  unfold State.completeFrame
  dsimp only
  split
  · exact (setReceiver_keepsClock s _).trans (receive_keepsClock _ hunting)
  · exact setReceiver_keepsClock s _

theorem takeByte_keepsClock (taken : List Byte) (busy : s.traffic = true) : s.KeepsClock (s.takeByte taken) := by
  unfold State.takeByte
  split
  · exact .refl s
  · split
    · exact setReceiver_keepsClock s _
    · split
      · exact completeFrame_keepsClock _ busy
      · exact setReceiver_keepsClock s _

theorem execRxByte_keepsClock (value : Byte) (stopHigh : Bool) (busy : s.traffic = true) :
    Stays s.KeepsClock (execRxByte value stopHigh s) := by
  have hunts : s.KeepsClock (s.hunt value stopHigh) := setReceiver_keepsClock s _
  refine Stays.next ?_
  split
  · exact hunts
  · split
    · exact hunts
    · split
      · exact takeByte_keepsClock _ busy
      · exact setReceiver_keepsClock s _
  · split
    · exact completeFrame_keepsClock _ busy
    · exact hunts

theorem endReply_keepsClock (busy : s.traffic = true) : s.KeepsClock s.endReply := by
  unfold State.endReply State.takeNext
  split
  · exact ⟨rfl, rfl⟩
  · next q rest _ =>
    exact process_keepsClock (s := { s with link := { s.link with transmission := none, queue := rest } }) q busy

theorem execReplySent_keepsClock (busy : s.traffic = true) : Stays s.KeepsClock (execReplySent s) := by
  refine Stays.next ?_
  split
  · split
    · exact ⟨rfl, rfl⟩
    · exact endReply_keepsClock busy
  · exact .refl s

/-! ## The tracker during a passage (R151, R152, R154) -/

theorem measureEdge_keepsClock (s : State) : s.KeepsClock s.measureEdge := by
  unfold State.measureEdge
  split <;> exact ⟨rfl, rfl⟩

theorem judgeEdge_busy (busy : s.traffic = true) : s.judgeEdge = s := if_pos busy

theorem execRefEdge_keepsClock (rising : Bool) (busy : s.traffic = true) : Stays s.KeepsClock (execRefEdge rising s) := by
  refine Stays.next ?_
  rw [judgeEdge_busy busy]
  split
  · exact .refl s
  · split
    · exact .refl s
    · exact .refl s
    · exact measureEdge_keepsClock s
    · exact .refl s

theorem execWindowClose_keepsClock (s : State) : Stays s.KeepsClock (execWindowClose s) := by
  refine Stays.next ?_
  split
  · unfold State.closeWindow State.missWindow
    split
    · exact ⟨rfl, rfl⟩
    · dsimp only
      split <;> exact ⟨rfl, rfl⟩
  · exact .refl s

/-! ## Every command during a passage (R147) -/

/-- During traffic every command but a pin reset and an adjusted tick keeps the clock. -/
theorem exec_keepsClock (c : Instr) (busy : s.traffic = true) (noReset : ∀ straps, c ≠ .pinReset straps)
    (noTick : c ≠ .adjustedTick) : Stays s.KeepsClock (exec c s) := by
  cases c
  case pinReset straps => exact absurd rfl (noReset straps)
  case adjustedTick => exact absurd rfl noTick
  case restartTakesEffect =>
    refine .next ?_
    split
    · exact ⟨rfl, rfl⟩
    · exact .refl s
  case rxByte value stopHigh => exact execRxByte_keepsClock value stopHigh busy
  case frameGapTimeout =>
    refine .next ?_
    split
    · exact setReceiver_keepsClock s _
    · exact .refl s
  case replySent => exact execReplySent_keepsClock busy
  case attnPulseEnd =>
    refine .next ?_
    split
    · exact ⟨rfl, rfl⟩
    · exact .refl s
  case wheelLeadingEdge t w => exact (execWheelLeadingEdge_work t w s).keepsClock
  case wheelTrailingEdge t w => exact (execWheelTrailingEdge_work t w s).keepsClock
  case wheelPulseAccepted t w => exact (execWheelPulseAccepted_work t w s).keepsClock
  case headDetectorEdge t d high => exact .next (updChannel_records s t _).work.keepsClock
  case blockedStart t d => exact (execBlockedStart_work t d s).keepsClock
  case blockedEnd t d => exact (execBlockedEnd_work t d s).keepsClock
  case headCrosses t n => exact (execHeadCrosses_work t n s).keepsClock
  case headDeparted t n => exact (execHeadDeparted_work t n s).keepsClock
  case timelineEntryExpiry t n => exact (execTimelineEntryExpiry_work t n s).keepsClock
  case triggerRelease i => exact (execTriggerRelease_work i s).keepsClock
  case cdoneEdge i => exact (execCdoneEdge_work i s).keepsClock
  case confirmationWindowExpiry i => exact (execConfirmationWindowExpiry_work i s).keepsClock
  case recoveryEnd i => exact (execRecoveryEnd_work i s).keepsClock
  case warmUpEnd i => exact .next (updCamera_work s i _).keepsClock
  case strobePulseEnd x => exact (execStrobePulseEnd_work x s).keepsClock
  case inhibitInputEdge i high =>
    have seen : s.KeepsClock { s with inhibits := updateAt s.inhibits i fun x => { x with level := high } } := ⟨rfl, rfl⟩
    exact .next (seen.trans (reformInhibit_keepsClock _))
  case chargeCompletion => exact (execChargeCompletion_work s).keepsClock
  case clearIntervalExpiry t => exact (execClearIntervalExpiry_work t s).keepsClock
  case dormantDelayExpiry t => exact (execDormantDelayExpiry_work t s).keepsClock
  case stalenessExpiry t => exact (execStalenessExpiry_work t s).keepsClock
  case refEdge rising => exact execRefEdge_keepsClock rising busy
  case windowClose => exact execWindowClose_keepsClock s
  case rehearsalEdgeDelivery t => exact (execRehearsalEdgeDelivery_work t s).keepsClock
  all_goals exact .next (submit_keepsClock _ _ _ busy)

/-- The adjusted tick passes, or it is not its instant. -/
theorem execAdjustedTick_cases (s : State) : Stays (fun u => s.KeepsClock u ∨ s.TickPasses u) (execAdjustedTick s) := by
  refine Stays.next ?_
  split
  · exact .inr (advance_tickPasses s)
  · exact .inl (.refl s)

/-- Settles O60: during a passage SET TIME is refused and a REF edge does not step, no other command reaches the clock but
the adjusted tick, and with no command waiting an event is queued or a tick passes. -/
theorem localTimeOnlyAdvancesDuringAPassage : Obligations.LocalTimeOnlyAdvancesDuringAPassage := by
  intro s u passage noReset steps
  change s.KeepsClock u ∨ s.TickPasses u
  cases waiting : s.pending with
  | cons c rest =>
    rw [step, waiting] at steps
    have busy : State.traffic { s with pending := rest } = true := passage.traffic
    by_cases tick : c = .adjustedTick
    · subst tick
      exact execAdjustedTick_cases { s with pending := rest } u steps
    · exact .inl (exec_keepsClock c busy (fun straps same => noReset straps rest (by rw [waiting, same])) tick u steps)
  | nil =>
    obtain rfl : s.idle = u := by simpa [step, waiting] using steps
    obtain ⟨-, idle⟩ | ⟨e, -, n, idle⟩ := idle_cases s
    · exact idle ▸ .inr (advance_tickPasses s)
    · exact idle ▸ .inl ⟨rfl, rfl⟩

end Sys2Proof.Machine
end

section
/-! Proofs: local time is set, and with it the pulses that are accepted after that (O51). -/

namespace Sys2Proof.Machine

variable {s u p : State} {t : TrackId} {w : WheelSensor} {stamp delta : LocalTime}

/-! ## The pulses as local time is set (R147, R157, log entry 33) -/

theorem channel_moved_pulsesMoved (c : Channel) (ticks : Nat) (delta : LocalTime) :
    c.PulsesMoved (c.moved ticks delta) ticks delta := by
  refine ⟨rfl, fun w => ?_, rfl⟩
  cases w <;> rfl

/-- The pulses are no part of a track's state and mode. -/
theorem Channel.PulsesMoved.keeps {c d : Channel} {ticks : Nat} (h : c.PulsesMoved d ticks delta) :
    d.state = c.state ∧ d.mode = c.mode := by
  rw [h.1]
  exact ⟨rfl, rfl⟩

theorem setLocalTime_channel (s : State) (now : LocalTime) (t : TrackId) :
    (s.setLocalTime now).channel t = (s.channel t).moved s.ticks (now - s.localTime) := by
  cases t <;> rfl

/-- A pulse that is accepted at this instant is accepted at its moved timestamp once local time has been set. -/
theorem State.Accepts.moved (h : s.Accepts t w stamp p) (ticks : u.ticks = s.ticks)
    (channel : (s.channel t).PulsesMoved (u.channel t) s.ticks delta) : ∃ q, u.Accepts t w (stamp + delta) q := by
  obtain ⟨-, mode⟩ := channel.keeps
  obtain ⟨-, wheels, synthetic⟩ := channel
  rcases h with ⟨live, ⟨n, count, due⟩, -⟩ | ⟨rehearses, x, ahead, behind, pulses, rfl, rfl, due, first, -⟩
  · refine ⟨_, .inl ⟨mode.trans live, ⟨n, ?_, by rwa [ticks]⟩, rfl⟩⟩
    rw [wheels, count]
    simp [due]
  · rw [pulses, List.map_append, List.map_cons] at synthetic
    refine ⟨_, .inr ⟨mode.trans rehearses, _, _, _, synthetic, rfl, by simp [due], by rwa [ticks], fun y mem => ?_, rfl⟩⟩
    obtain ⟨z, inside, rfl⟩ := List.mem_map.mp mem
    rw [ticks]
    exact first z inside

/-- An outer pulse of a quiet track opens a passage at its timestamp. -/
theorem State.Accepts.opens (h : s.Accepts t w stamp p) (outer : w = .wao ∨ w = .wbo)
    (quiet : (s.channel t).state = .idle ∨ (s.channel t).state = .dormant) :
    ∃ v, Completes (.wheelPulseAccepted t w) s v ∧ (v.channel t).state = .passage
      ∧ (v.channel t).passage.opened = stamp ∧ v.localTime = s.localTime := by
  obtain ⟨d, leads⟩ : ∃ d : Direction, (w = .wao ∧ d = .ab) ∨ (w = .wbo ∧ d = .ba) := by
    rcases outer with rfl | rfl
    · exact ⟨.ab, .inl ⟨rfl, rfl⟩⟩
    · exact ⟨.ba, .inr ⟨rfl, rfl⟩⟩
  obtain ⟨v, completes, same, channel, -⟩ := outerPulseOpensAPassage s p t w stamp d h quiet leads
  exact ⟨v, completes, by rw [channel], by rw [channel], by rw [same]⟩

/-- Local time is set and the pulses move along: a passage that opens at this instant is read on the new run. -/
theorem opensOnTheNewRun_of_moved (ticks : u.ticks = s.ticks)
    (moved : ∀ t, (s.channel t).PulsesMoved (u.channel t) s.ticks (u.localTime - s.localTime)) : s.OpensOnTheNewRun u := by
  intro t w stamp p accepts outer quiet
  obtain ⟨v, completes, passage, -, -⟩ := accepts.opens outer quiet
  refine ⟨⟨v, completes, t, passage⟩, ?_⟩
  obtain ⟨q, accepted⟩ := accepts.moved ticks (moved t)
  obtain ⟨state, -⟩ := (moved t).keeps
  obtain ⟨v, completes, passage, opened, now⟩ := accepted.opens outer (by rwa [state])
  refine ⟨v, completes, passage, ?_⟩
  rw [opened, now]
  ring

/-! ## SET TIME (R155) -/

/-- Whole seconds in range keep the phase of local time (R155). -/
theorem withSeconds_toNat {seconds : Nat} (range : seconds ≤ 281474975) (t : LocalTime) :
    (withSeconds seconds t).toNat = seconds * 1000000 + t.toNat % 1000000 := by
  rw [withSeconds, usPerSecond, BitVec.toNat_ofNat]
  omega

theorem movedWindow_whole {window delta now : LocalTime} (whole : (window + delta).toNat % 1000000 = 0) :
    movedWindow window delta now = window + delta := if_pos (decide_eq_true whole)

/-- The part after local time was set and the tracker changed with it. -/
theorem setLocalTime_moves (s : State) (now : LocalTime) (k : Tracker) :
    let u := { s.setLocalTime now with tracker := k }
    (∀ t, (s.channel t).PulsesMoved (u.channel t) s.ticks (now - s.localTime)) ∧ s.OpensOnTheNewRun u := by
  intro u
  have moved (t : TrackId) : (s.channel t).PulsesMoved (u.channel t) s.ticks (now - s.localTime) := by
    have channel : u.channel t = (s.channel t).moved s.ticks (now - s.localTime) := setLocalTime_channel s now t
    rw [channel]
    exact channel_moved_pulsesMoved _ _ _
  exact ⟨moved, opensOnTheNewRun_of_moved rfl moved⟩

/-- The part after SET TIME: the windows and targets of the tracker move along (R155). -/
def State.timeSet (s : State) (now : LocalTime) : State :=
  { s.setLocalTime now with tracker := s.tracker.move (now - s.localTime) now }

/-- What SET TIME leaves: local time, the pulses that are accepted at this instant, and what the tracker looks to. -/
theorem timeSet_eq (s : State) (now : LocalTime) :
    s.timeSet now = { s with
      localTime := now
      channels := (s.timeSet now).channels
      tracker := { s.tracker with
        window := movedWindow s.tracker.window (now - s.localTime) now
        corrections := s.tracker.corrections.map fun c => { c with target := c.target + (now - s.localTime) } } } := rfl

theorem timeSet_moves (s : State) (now : LocalTime) :
    (∀ t, (s.channel t).PulsesMoved ((s.timeSet now).channel t) s.ticks (now - s.localTime))
    ∧ s.OpensOnTheNewRun (s.timeSet now) :=
  setLocalTime_moves s now _

theorem timeSet_ticks (s : State) (now : LocalTime) : (s.timeSet now).ticks = s.ticks := rfl

/-- SET TIME of whole seconds beyond local time is refused (R155). -/
theorem handleSetTime_high (body : List Byte) (high : 281474975 < field body 0 4) :
    handle .setTime body s = ⟨s, .badValue, []⟩ := by
  rw [handle, handleSetTime, if_pos high]
  rfl

/-- SET TIME during traffic is refused (R155). -/
theorem handleSetTime_wrong (body : List Byte) (range : field body 0 4 ≤ 281474975) (busy : s.traffic = true) :
    handle .setTime body s = ⟨s, .wrongState, []⟩ := by
  rw [handle, handleSetTime, if_neg (Nat.not_lt.mpr range), if_pos busy]
  rfl

/-- SET TIME without traffic (R155). -/
theorem handleSetTime_quiet (body : List Byte) (range : field body 0 4 ≤ 281474975) (quiet : ¬s.traffic = true) :
    handle .setTime body s = ⟨s.timeSet (withSeconds (field body 0 4) s.localTime), .ok, []⟩ := by
  rw [handle, handleSetTime, if_neg (Nat.not_lt.mpr range), if_neg quiet]
  rfl

/-! ## SET REFERENCE (R149) -/

/-- The tracker that SET REFERENCE leaves, by its table (R149). -/
theorem configure_eq (k : Tracker) (enable : Nat) (flag : enable ≤ 1) (falling : Bool) :
    k.configure (enable = 1) falling =
      if enable = 0 then { k with enabled := false, falling := falling, state := .free, misses := 0, corrections := [] }
      else if k.state = .free ∨ k.falling ≠ falling then
        { k with enabled := true, falling := falling, state := .search, misses := 0, corrections := [] }
      else k := by
  by_cases off : enable = 0
  · simp [Tracker.configure, Tracker.restart, off]
  · have on : enable = 1 := by omega
    simp only [Tracker.configure, Tracker.restart, on, Bool.or_eq_true, decide_eq_true_eq, bne_iff_ne, ne_comm (a := falling)]
    rfl

theorem setReference_judged (body : List Byte) (idle : s.LinkIdle) (length : body.length = 2) :
    Judged .setReference body s (field body 0 1 ≤ 1 ∧ field body 1 1 ≤ 1) True
      { s with tracker := s.tracker.configure (field body 0 1 = 1) (field body 1 1 = 1) } [] := by
  have flags : (isFlag (field body 0 1) && isFlag (field body 1 1)) = true ↔ field body 0 1 ≤ 1 ∧ field body 1 1 ≤ 1 := by
    rw [Bool.and_eq_true, isFlag_iff, isFlag_iff]
  refine judged_of_handle idle (by omega) length (by simp) (fun bad => ?_) (fun _ never => absurd trivial never)
    (fun good _ => ?_) rfl
  · exact if_neg (mt flags.mp bad)
  · exact if_pos (flags.mpr good)

/-- Settles O51: SET TIME moves the pulses that are accepted at this instant along with local time, so that what they open is
read on the new seconds. -/
theorem timeAndReferenceAreSet : Obligations.TimeAndReferenceAreSet := by
  refine fun s body idle => ⟨fun length => ?_, fun length => ?_⟩
  · intro seconds now delta
    have fits : body.length ≤ 248 := by omega
    have reading : now = withSeconds seconds s.localTime := rfl
    clear_value now
    subst reading
    refine ⟨fun high => ?_, fun range busy => ?_, fun range quiet => ?_⟩
    · exact answers_of_handle idle fits length (by simp) (handleSetTime_high body high) rfl
    · exact answers_of_handle idle fits length (by simp) (handleSetTime_wrong body range ((traffic_iff s).mpr busy)) rfl
    · have value := withSeconds_toNat range s.localTime
      obtain ⟨moved, opens⟩ := timeSet_moves s (withSeconds seconds s.localTime)
      have handled := handleSetTime_quiet body range (mt (traffic_iff s).mp quiet)
      exact ⟨_, _, answers_of_handle idle fits length (by simp) handled (timeSet_ticks s _), timeSet_eq s _, moved, opens,
        by omega, by omega, movedWindow_whole⟩
  · intro k falling
    obtain ⟨bad, wrong, good⟩ := setReference_judged body idle length
    refine ⟨bad, wrong, fun values allowed => ?_⟩
    rw [← configure_eq k _ values.1]
    exact good values allowed

end Sys2Proof.Machine
end

section
/-! Proofs: the nearest whole second, and the targets of a correction. -/

namespace Sys2Proof.Machine

/-! ## Whole seconds (R146, R150) -/

/-- A signed distance, by how far the one instant lies ahead of the other modulo 2^48 (R146). -/
theorem timeDiff_eq (a b : LocalTime) :
    timeDiff a b = if (a - b).toNat < 140737488355328 then ((a - b).toNat : Int) else (a - b).toNat - 281474976710656 := by
  rw [timeDiff, BitVec.toInt_eq_toNat_cond]
  have := (a - b).isLt
  split <;> split <;> omega

theorem floorSecond_toNat (t : LocalTime) : (floorSecond t).toNat = t.toNat / 1000000 * 1000000 := by
  have := t.isLt
  rw [floorSecond, usPerSecond, BitVec.toNat_ofNat]
  omega

theorem nextSecond_eq (t : LocalTime) :
    nextSecond t = if t.toNat = 281474976000000 then 0#48 else t + 1000000#48 := rfl

/-- The whole second after a whole second. -/
theorem nextSecond_toNat {t : LocalTime} (whole : t.toNat % 1000000 = 0) :
    (nextSecond t).toNat = if t.toNat = 281474976000000 then 0 else t.toNat + 1000000 := by
  have := t.isLt
  rw [nextSecond_eq]
  split
  · rfl
  · rw [BitVec.toNat_add, BitVec.toNat_ofNat]
    omega

theorem since_floorSecond (t : LocalTime) : (t - floorSecond t).toNat = t.toNat % 1000000 := by
  have := t.isLt
  rw [BitVec.toNat_sub, floorSecond_toNat]
  omega

/-- How far the next whole second lies ahead of an instant: by what is left of its second, which the wrap cuts short
(R146). -/
def toNextSecond (t : LocalTime) : Nat := min (1000000 - t.toNat % 1000000) (281474976710656 - t.toNat)

theorem until_nextSecond (t : LocalTime) : (nextSecond (floorSecond t) - t).toNat = toNextSecond t := by
  have := t.isLt
  have whole : (floorSecond t).toNat % 1000000 = 0 := by rw [floorSecond_toNat]; omega
  rw [BitVec.toNat_sub, nextSecond_toNat whole, floorSecond_toNat, toNextSecond]
  split <;> omega

/-- How far a whole second lies ahead of an instant modulo 2^48: at the instant, or not before the next whole second and not
after the latest one. -/
theorem ahead_of_instant {t m : LocalTime} (whole : m.toNat % 1000000 = 0) :
    ((m - t).toNat = 0 ∧ t.toNat % 1000000 = 0)
    ∨ (toNextSecond t ≤ (m - t).toNat ∧ (m - t).toNat + t.toNat % 1000000 ≤ 281474976710656) := by
  have := t.isLt
  have := m.isLt
  have ahead : (m - t).toNat = if t.toNat ≤ m.toNat then m.toNat - t.toNat else 281474976710656 - t.toNat + m.toNat := by
    rw [BitVec.toNat_sub]
    split <;> omega
  rw [ahead, toNextSecond]
  split <;> omega

theorem floorSecond_ahead (t : LocalTime) : (floorSecond t - t).toNat
    = if t.toNat % 1000000 = 0 then 0 else 281474976710656 - t.toNat % 1000000 := by
  have := t.isLt
  rw [BitVec.toNat_sub, floorSecond_toNat]
  split <;> omega

theorem nearestSecond_whole (t : LocalTime) : (nearestSecond t).toNat % 1000000 = 0 := by
  have whole : (floorSecond t).toNat % 1000000 = 0 := by rw [floorSecond_toNat]; omega
  unfold nearestSecond
  dsimp only
  split
  · rw [nextSecond_toNat whole]
    split <;> omega
  · exact whole

theorem timeDiff_nearestSecond (t : LocalTime) : timeDiff (nearestSecond t) t
    = if toNextSecond t ≤ t.toNat % 1000000 then (toNextSecond t : Int) else -(t.toNat % 1000000 : Nat) := by
  have := t.isLt
  rw [nearestSecond, until_nextSecond, since_floorSecond]
  by_cases near : toNextSecond t ≤ t.toNat % 1000000
  · rw [if_pos near, if_pos near, timeDiff_eq, until_nextSecond, if_pos (by omega)]
  · rw [if_neg near, if_neg near, timeDiff_eq, floorSecond_ahead]
    split <;> split <;> omega

/-- No whole second is nearer, and of two that are equally near it is the later (R150). -/
theorem nearestSecond_nearest {t m : LocalTime} (whole : m.toNat % 1000000 = 0) :
    (timeDiff (nearestSecond t) t).natAbs ≤ (timeDiff m t).natAbs
    ∧ ((timeDiff m t).natAbs = (timeDiff (nearestSecond t) t).natAbs → timeDiff m t ≤ timeDiff (nearestSecond t) t) := by
  have apart := ahead_of_instant (t := t) whole
  have inside : 0 < toNextSecond t := by
    have := t.isLt
    unfold toNextSecond
    omega
  have := (m - t).isLt
  rw [timeDiff_nearestSecond, timeDiff_eq m]
  split <;> split <;> omega

/-! ## The targets of a correction (R153) -/

/-- Targets join the list, and nothing leaves it. -/
theorem joinTargets_perm (new old : List Correction) : (joinTargets old new).Perm (new ++ old) := by
  induction new generalizing old with
  | nil => exact .refl _
  | cons x rest ih =>
    have inserted : (rest ++ insertSorted (fun a b => after b.target a.target) x old).Perm (rest ++ x :: old) :=
      (insertSorted_perm _ x old).append_left rest
    exact (ih _).trans (inserted.trans List.perm_middle)

theorem mem_targetsOf {second : LocalTime} {c : Int} {x : Correction} : x ∈ targetsOf second c ↔
    ∃ j, 1 ≤ j ∧ j ≤ c.natAbs ∧ x = { target := second + BitVec.ofNat 48 (20000 * j), up := decide (0 < c) } := by
  simp only [targetsOf, List.mem_map, List.mem_range, later]
  constructor
  · rintro ⟨k, below, rfl⟩
    exact ⟨k + 1, by omega, by omega, rfl⟩
  · rintro ⟨j, low, high, rfl⟩
    exact ⟨j - 1, by omega, by rw [Nat.sub_add_cancel low]⟩

/-- A phase error beyond ±1 is corrected by at most 50, against its sign (R153). -/
theorem correctionOf_eq (e : Int) : correctionOf e =
    if min 50 e.natAbs ≤ 1 then 0 else if e < 0 then ((min 50 e.natAbs : Nat) : Int) else -((min 50 e.natAbs : Nat) : Int) := by
  simp only [correctionOf, inRangeInt, Bool.and_eq_true, decide_eq_true_eq]
  split_ifs <;> omega

/-- The corrections after an edge with a phase error (R153). -/
theorem measured_corrections (k : Tracker) (e : Int) :
    let n := min 50 e.natAbs
    (n ≤ 1 → (k.measure e).corrections = k.corrections)
    ∧ (1 < n → (k.measure e).corrections.length = k.corrections.length + n
      ∧ ∀ x, x ∈ (k.measure e).corrections ↔ x ∈ k.corrections
        ∨ ∃ j, 1 ≤ j ∧ j ≤ n ∧ x = { target := k.window + BitVec.ofNat 48 (20000 * j), up := decide (e < 0) }) := by
  intro n
  have joined := joinTargets_perm (targetsOf k.window (correctionOf e)) k.corrections
  refine ⟨fun small => ?_, fun large => ?_⟩
  · rw [Tracker.measure, correctionOf_eq, if_pos small]
    rfl
  · have size : (correctionOf e).natAbs = n := by
      rw [correctionOf_eq, if_neg (Nat.not_le.mpr large)]
      split <;> omega
    have sign : 0 < correctionOf e ↔ e < 0 := by
      rw [correctionOf_eq, if_neg (Nat.not_le.mpr large)]
      split <;> omega
    refine ⟨?_, fun x => ?_⟩
    · rw [Tracker.measure, joined.length_eq, List.length_append, targetsOf, List.length_map, List.length_range, size,
        Nat.add_comm]
    · rw [Tracker.measure, joined.mem_iff, List.mem_append, mem_targetsOf, size, or_comm, decide_eq_decide.mpr sign]

end Sys2Proof.Machine
end

section
/-! Proofs: REF edges and windows (O52). -/

namespace Sys2Proof.Machine

variable {s : State} {rising : Bool}

/-! ## REF edges (R148 to R152, R157) -/

theorem refEdge_otherPolarity (other : rising = s.tracker.falling) : Completes (.refEdge rising) s s :=
  congrArg Host.Outcome.next (if_pos (beq_iff_eq.mpr other))

/-- An edge of the configured polarity, by the state of the tracker (R148). -/
theorem execRefEdge_heard (polarity : rising ≠ s.tracker.falling) : execRefEdge rising s = .next
    (match s.tracker.state with
      | .free => s
      | .search => s.judgeEdge
      | .locked => s.measureEdge
      | .holdover => s.judgeEdge) :=
  congrArg Host.Outcome.next (if_neg fun same => polarity (beq_iff_eq.mp same))

theorem refEdge_free (polarity : rising ≠ s.tracker.falling) (free : s.tracker.state = .free) :
    Completes (.refEdge rising) s s := by
  change execRefEdge rising s = _
  rw [execRefEdge_heard polarity, free]

theorem refEdge_searching (polarity : rising ≠ s.tracker.falling)
    (searching : s.tracker.state = .search ∨ s.tracker.state = .holdover) : Completes (.refEdge rising) s s.judgeEdge := by
  change execRefEdge rising s = _
  rw [execRefEdge_heard polarity]
  rcases searching with state | state <;> rw [state]

theorem refEdge_locked (polarity : rising ≠ s.tracker.falling) (locked : s.tracker.state = .locked) :
    Completes (.refEdge rising) s s.measureEdge := by
  change execRefEdge rising s = _
  rw [execRefEdge_heard polarity, locked]

/-- An edge outside the open, unseen window of the tracker is ignored (R152). -/
theorem measureEdge_outside (outside : s.tracker.seen = true ∨ timeDiff s.localTime s.tracker.window < -500
    ∨ 500 < timeDiff s.localTime s.tracker.window) : s.measureEdge = s := by
  have none : s.tracker.phaseAt s.localTime = none := by
    refine if_neg fun inside => ?_
    simp only [inRangeInt, Bool.and_eq_true, Bool.not_eq_true', decide_eq_true_eq] at inside
    obtain ⟨unseen, low, high⟩ := inside
    rcases outside with seen | early | late
    · simp [seen] at unseen
    · omega
    · omega
  rw [State.measureEdge, none]

/-- An edge in the open, unseen window of the tracker is measured (R152). -/
theorem measureEdge_inside (unseen : s.tracker.seen = false) (low : -500 ≤ timeDiff s.localTime s.tracker.window)
    (high : timeDiff s.localTime s.tracker.window ≤ 500) :
    s.measureEdge = { s with tracker := s.tracker.measure (timeDiff s.localTime s.tracker.window) } := by
  have inside : s.tracker.phaseAt s.localTime = some (timeDiff s.localTime s.tracker.window) :=
    if_pos (by simp [inRangeInt, unseen, low, high])
  rw [State.measureEdge, inside]

/-- What every other edge does: nothing (R148, R151, R152). -/
theorem refEdge_ignored (ignored : rising = s.tracker.falling ∨ s.tracker.state = .free
      ∨ ((s.tracker.state = .search ∨ s.tracker.state = .holdover) ∧ s.SomeTraffic)
      ∨ (s.tracker.state = .locked ∧ (s.tracker.seen = true ∨ timeDiff s.localTime s.tracker.window < -500
        ∨ 500 < timeDiff s.localTime s.tracker.window))) : Completes (.refEdge rising) s s := by
  by_cases other : rising = s.tracker.falling
  · exact refEdge_otherPolarity other
  · rcases ignored with same | free | ⟨searching, busy⟩ | ⟨locked, outside⟩
    · exact absurd same other
    · exact refEdge_free other free
    · have stays := refEdge_searching other searching
      rwa [judgeEdge_busy ((traffic_iff s).mpr busy)] at stays
    · have stays := refEdge_locked other locked
      rwa [measureEdge_outside outside] at stays

/-- The part after a step to a whole second: the tracker is LOCKED on it (R150). -/
def State.steppedTo (s : State) (second : LocalTime) : State :=
  State.latch
    { s.setLocalTime second with
      tracker := { s.tracker with state := .locked, misses := 0, window := second, seen := true, corrections := [],
                                  phaseError := none } }
    .refLocked

theorem stepTime_eq (s : State) : s.stepTime = s.steppedTo (nearestSecond s.localTime) := by
  unfold State.stepTime
  generalize nearestSecond s.localTime = second
  rfl

/-- What a step leaves: local time, the pulses that are accepted at this instant, the tracker and its event. -/
theorem steppedTo_eq (s : State) (second : LocalTime) : s.steppedTo second = ({ s with
    localTime := second
    channels := (s.steppedTo second).channels
    tracker := { s.tracker with state := .locked, misses := 0, window := second, seen := true, corrections := [],
                                phaseError := none } } : State).latch .refLocked := rfl

theorem steppedTo_moves (s : State) (second : LocalTime) :
    (∀ t, (s.channel t).PulsesMoved ((s.steppedTo second).channel t) s.ticks (second - s.localTime))
    ∧ s.OpensOnTheNewRun (s.steppedTo second) := by
  obtain ⟨moved, -⟩ := setLocalTime_moves s second s.tracker
  exact ⟨moved, opensOnTheNewRun_of_moved rfl moved⟩

theorem judgeEdge_quiet (quiet : ¬s.SomeTraffic) : s.judgeEdge = s.steppedTo (nearestSecond s.localTime) := by
  rw [← stepTime_eq]
  exact if_neg (mt (traffic_iff s).mp quiet)

/-! ## Windows (R152, R154) -/

theorem windowDue_iff (s : State) :
    s.windowDue = true ↔ s.tracker.state = .locked ∧ 500 < timeDiff s.localTime s.tracker.window := by
  simp [State.windowDue]

theorem windowClose_early (early : s.tracker.state ≠ .locked ∨ timeDiff s.localTime s.tracker.window ≤ 500) :
    Completes .windowClose s s := by
  refine congrArg Host.Outcome.next (if_neg fun due => ?_)
  obtain ⟨locked, late⟩ := (windowDue_iff s).mp due
  rcases early with other | inside
  · exact other locked
  · omega

theorem windowClose_due (locked : s.tracker.state = .locked) (late : 500 < timeDiff s.localTime s.tracker.window) :
    Completes .windowClose s s.closeWindow :=
  congrArg Host.Outcome.next (if_pos ((windowDue_iff s).mpr ⟨locked, late⟩))

theorem closeWindow_seen (seen : s.tracker.seen = true) :
    s.closeWindow = { s with tracker := { s.tracker with window := nextSecond s.tracker.window, seen := false } } :=
  if_pos seen

theorem closeWindow_unseen (unseen : s.tracker.seen = false) : s.closeWindow = s.missWindow := if_neg (by simp [unseen])

theorem missWindow_first (first : s.tracker.misses = 0) : s.missWindow
    = ({ s with tracker := { s.tracker with misses := 1, window := nextSecond s.tracker.window, seen := false } }
        : State).latch .refMissed := by
  simp [State.missWindow, Tracker.miss, Tracker.turnWindow, first]

theorem missWindow_second (second : s.tracker.misses = 1) : s.missWindow
    = (({ s with tracker := { s.tracker with
          state := .holdover, misses := 0, window := nextSecond s.tracker.window, seen := false } }
        : State).latch .refMissed).latch .refLost := by
  simp [State.missWindow, Tracker.miss, Tracker.turnWindow, second]

/-- Settles O52: the tracker's state says what an edge or the end of a window does, a step goes to the nearest whole second,
and a phase error joins its targets to the list. -/
theorem referenceEdgesAndWindows : Obligations.ReferenceEdgesAndWindows := by
  intro s k e n _
  refine ⟨fun rising => ⟨refEdge_ignored, fun polarity searching quiet => ?_, fun polarity locked unseen low high => ?_⟩,
    windowClose_early, fun locked late => ?_⟩
  · obtain ⟨moved, opens⟩ := steppedTo_moves s (nearestSecond s.localTime)
    have steps := refEdge_searching polarity searching
    rw [judgeEdge_quiet quiet] at steps
    exact ⟨_, _, steps, steppedTo_eq s _, moved, opens, nearestSecond_whole s.localTime,
      fun m whole => nearestSecond_nearest whole⟩
  · have measured := refEdge_locked polarity locked
    rw [measureEdge_inside unseen low high] at measured
    exact ⟨_, measured, measured_corrections k e⟩
  · have closes := windowClose_due locked late
    refine ⟨fun seen => ?_, fun unseen first => ?_, fun unseen second => ?_⟩
    · rw [closeWindow_seen seen] at closes
      exact closes
    · rw [closeWindow_unseen unseen, missWindow_first first] at closes
      exact closes
    · rw [closeWindow_unseen unseen, missWindow_second second] at closes
      exact closes

end Sys2Proof.Machine
end

section
/-! Proofs: the schedule of a synthetic train (R160 to R162). -/

namespace Sys2Proof.Machine

variable {x : Train} {g : Geometry} {debounce : Nat} {outer position : Int}

/-! ## A part of a stable sort -/

/-- A part of a list that stands in the order of the key already is that part of the sorted list: the sort is stable. -/
theorem filter_sortBy_of_pairwise {α β : Type} [LinearOrder β] {goesBefore : α → α → Bool} {key : α → β}
    (compares : ∀ a b, goesBefore a b = decide (key a < key b)) {l : List α} {p : α → Bool}
    (sorted : (l.filter p).Pairwise fun a b => key a ≤ key b) : (sortBy goesBefore l).filter p = l.filter p := by
  have total : Std.Total fun a b : α => key a ≤ key b := ⟨fun a b => le_total _ _⟩
  have trans : IsTrans α fun a b => key a ≤ key b := ⟨fun a b c => le_trans⟩
  have inside : (l.filter p).Sublist (sortBy goesBefore l) := by
    rw [sortBy_eq_insertionSort compares]
    exact List.sublist_insertionSort sorted List.filter_sublist
  have kept : (l.filter p).Sublist ((sortBy goesBefore l).filter p) := by
    simpa only [List.filter_filter, Bool.and_self] using inside.filter p
  exact (kept.eq_of_length ((sortBy_perm goesBefore l).filter p).length_eq.symm).symm

/-! ## Merged spans (R162) -/

/-- An instant lies in a span of the list. It is counted in half ticks, so that spans that only follow each other from tick
to tick leave a gap between them. -/
def Covered (l : List (Int × Int)) (n : Int) : Prop := ∃ p ∈ l, 2 * p.1 ≤ n ∧ n ≤ 2 * p.2

theorem covered_cons {a : Int × Int} {l : List (Int × Int)} {n : Int} :
    Covered (a :: l) n ↔ (2 * a.1 ≤ n ∧ n ≤ 2 * a.2) ∨ Covered l n :=
  List.exists_mem_cons_iff ..

theorem covered_congr {l m : List (Int × Int)} {n : Int} (same : l.Perm m) : Covered l n ↔ Covered m n :=
  exists_congr fun _ => and_congr_left' same.mem_iff

/-- No merged span begins before the first interval. -/
theorem mergeFrom_begins {l : List (Int × Int)} {first : Int × Int}
    (sorted : (first :: l).Pairwise fun p q => p.1 ≤ q.1) :
    ∀ p ∈ mergeFrom first l, first.1 ≤ p.1 := by
  induction l generalizing first with
  | nil => simp [mergeFrom]
  | cons b rest ih =>
    obtain ⟨least, behind⟩ := List.pairwise_cons.mp sorted
    obtain ⟨beginsFirst, beginRest⟩ := List.forall_mem_cons.mp least
    rw [mergeFrom]
    split
    · exact ih (first := (first.1, max first.2 b.2)) (List.pairwise_cons.mpr ⟨beginRest, behind.of_cons⟩)
    · exact List.forall_mem_cons.mpr ⟨le_rfl, fun p mem => beginsFirst.trans (ih behind p mem)⟩

/-- Merged spans do not touch. -/
theorem mergeFrom_apart {l : List (Int × Int)} {first : Int × Int}
    (sorted : (first :: l).Pairwise fun p q => p.1 ≤ q.1) :
    (mergeFrom first l).Pairwise fun p q => p.2 < q.1 := by
  induction l generalizing first with
  | nil => simp [mergeFrom]
  | cons b rest ih =>
    obtain ⟨least, behind⟩ := List.pairwise_cons.mp sorted
    rw [mergeFrom]
    split
    · exact ih (List.pairwise_cons.mpr ⟨(List.forall_mem_cons.mp least).2, behind.of_cons⟩)
    · next gap =>
      exact List.pairwise_cons.mpr
        ⟨fun p mem => (not_le.mp gap).trans_le (mergeFrom_begins behind p mem), ih behind⟩

/-- A merged span does not end before it begins. -/
theorem mergeFrom_forward {l : List (Int × Int)} {first : Int × Int} (forward : ∀ p ∈ first :: l, p.1 ≤ p.2) :
    ∀ p ∈ mergeFrom first l, p.1 ≤ p.2 := by
  induction l generalizing first with
  | nil => exact forward
  | cons b rest ih =>
    obtain ⟨forwardFirst, forwardRest⟩ := List.forall_mem_cons.mp forward
    rw [mergeFrom]
    split
    · exact ih (List.forall_mem_cons.mpr
        ⟨forwardFirst.trans (le_max_left _ _), (List.forall_mem_cons.mp forwardRest).2⟩)
    · exact List.forall_mem_cons.mpr ⟨forwardFirst, ih forwardRest⟩

/-- Two intervals that touch cover together what the one from the first edge to the last does. -/
theorem covered_merge {a b : Int × Int} {rest : List (Int × Int)} {n : Int} (order : a.1 ≤ b.1) (touch : b.1 ≤ a.2) :
    Covered ((a.1, max a.2 b.2) :: rest) n ↔ Covered (a :: b :: rest) n := by
  simp only [covered_cons, ← or_assoc]
  exact or_congr_left (by omega)

/-- Merged spans are together the union of the intervals. -/
theorem mergeFrom_covers {l : List (Int × Int)} {first : Int × Int} {n : Int}
    (sorted : (first :: l).Pairwise fun p q => p.1 ≤ q.1) : Covered (mergeFrom first l) n ↔ Covered (first :: l) n := by
  induction l generalizing first with
  | nil => rfl
  | cons b rest ih =>
    obtain ⟨least, behind⟩ := List.pairwise_cons.mp sorted
    obtain ⟨order, beginRest⟩ := List.forall_mem_cons.mp least
    rw [mergeFrom]
    split
    · next touch =>
      exact (ih (first := (first.1, max first.2 b.2)) (List.pairwise_cons.mpr ⟨beginRest, behind.of_cons⟩)).trans
        (covered_merge order touch)
    · rw [covered_cons, ih behind, ← covered_cons]

/-- What merging intervals in order of leading edge gives (R162). -/
theorem mergeIntervals_merged {l : List (Int × Int)} (sorted : l.Pairwise fun p q => p.1 ≤ q.1)
    (forward : ∀ p ∈ l, p.1 ≤ p.2) :
    (mergeIntervals l).Pairwise (fun p q => p.2 < q.1) ∧ (∀ p ∈ mergeIntervals l, p.1 ≤ p.2)
    ∧ ∀ n, Covered (mergeIntervals l) n ↔ Covered l n := by
  cases l with
  | nil => exact ⟨.nil, forward, fun _ => Iff.rfl⟩
  | cons a rest => exact ⟨mergeFrom_apart sorted, mergeFrom_forward forward, fun _ => mergeFrom_covers sorted⟩

/-! ## Offsets and spans of a train (R161, R162) -/

theorem Train.offset_eq (x : Train) (outer position behind : Int) : x.offset outer position behind =
    (x.delay * 1000 : Int) + ⌈(((position - outer + behind) * 1000000 : Int) : ℚ) / x.speed⌉ := by
  rw [Rat.ceil_intCast_div_natCast, Train.offset, ceilDivInt, ticksPerMs]
  push_cast
  rfl

/-- A point further behind comes no earlier. -/
theorem Train.offset_mono {near far : Int} (behind : near ≤ far) :
    x.offset outer position near ≤ x.offset outer position far := by
  rw [Train.offset_eq, Train.offset_eq]
  have products : (position - outer + near) * 1000000 ≤ (position - outer + far) * 1000000 := by omega
  gcongr

theorem Train.interval_forward (h : RehearsedHead) : (x.interval outer position h).1 ≤ (x.interval outer position h).2 :=
  Train.offset_mono (by omega)

/-- The spans of a detector do not touch, none ends before it begins, and together they are the union of the intervals of
the heads (R162). -/
theorem Train.spans_merged (x : Train) (outer position : Int) :
    (x.spans outer position).Pairwise (fun p q => p.2 < q.1) ∧ (∀ p ∈ x.spans outer position, p.1 ≤ p.2)
    ∧ ∀ n, Covered (x.spans outer position) n ↔ Covered (x.heads.map (x.interval outer position)) n := by
  have same := sortBy_perm (fun a b : Int × Int => decide (a.1 < b.1)) (x.heads.map (x.interval outer position))
  have forward : ∀ p ∈ x.heads.map (x.interval outer position), p.1 ≤ p.2 :=
    List.forall_mem_map.mpr fun h _ => x.interval_forward h
  obtain ⟨apart, spansForward, covers⟩ := mergeIntervals_merged
    (sortBy_pairwise (key := Prod.fst) (fun _ _ => rfl) (x.heads.map (x.interval outer position)))
    fun p mem => forward p (same.mem_iff.mp mem)
  exact ⟨apart, spansForward, fun n => (covers n).trans (covered_congr same)⟩

theorem Train.covered_intervals {n : Int} : Covered (x.heads.map (x.interval outer position)) n ↔ ∃ h ∈ x.heads,
    2 * x.offset outer position h.front ≤ n ∧ n ≤ 2 * x.offset outer position (h.front + (h.length : Int)) := by
  simp only [Covered, List.mem_map, exists_exists_and_eq_and, Train.interval]

/-- The edges of a detector stand in order of offset. -/
theorem Train.detectorEdges_pairwise (x : Train) (outer position : Int) (d : Detector) :
    (x.detectorEdges outer position d).Pairwise fun a b => a.offset ≤ b.offset := by
  obtain ⟨apart, forward, -⟩ := x.spans_merged outer position
  rw [Train.detectorEdges]
  refine List.pairwise_flatMap.mpr ⟨fun p mem => List.pairwise_pair.mpr (forward p mem), ?_⟩
  refine List.Pairwise.imp_of_mem (fun {p q} memP memQ gap a memA b memB => ?_) apart
  have forwardP := forward p memP
  have forwardQ := forward q memQ
  simp only [List.mem_cons, List.not_mem_nil, or_false] at memA memB
  rcases memA with rfl | rfl <;> rcases memB with rfl | rfl <;> dsimp only <;> omega

/-! ## The schedule (R160 to R162) -/

/-- The edges of an axle's pulse at a wheel sensor of a track, as they are computed (R161). -/
def Train.wheelPulse (x : Train) (g : Geometry) (debounce : Nat) (w : WheelSensor) (axle : Nat) : List ComputedEdge :=
  let f := travelFrame g x.direction
  x.pulse f.approachOuter debounce w (f.wheelPosition x.direction w) axle

/-- The edges of the pulses at the wheel sensors of a track (R161). -/
def Train.wheelEdges (x : Train) (g : Geometry) (debounce : Nat) : List ComputedEdge :=
  x.axles.flatMap fun axle => allSensors.flatMap fun w => x.wheelPulse g debounce w axle

/-- The spans at a head detector of a track (R162). -/
def Train.spansAt (x : Train) (g : Geometry) (d : Detector) : List (Int × Int) :=
  let f := travelFrame g x.direction
  x.spans f.approachOuter (f.detectorPosition x.direction d)

/-- The edges of the spans at a head detector of a track, as they are computed (R162). -/
def Train.edgesAt (x : Train) (g : Geometry) (d : Detector) : List ComputedEdge :=
  let f := travelFrame g x.direction
  x.detectorEdges f.approachOuter (f.detectorPosition x.direction d) d

/-- The edges at the head detectors of a track (R162). -/
def Train.headEdges (x : Train) (g : Geometry) : List ComputedEdge := allDetectors.flatMap fun d => x.edgesAt g d

theorem Train.edgesAt_eq (x : Train) (g : Geometry) (d : Detector) : x.edgesAt g d = (x.spansAt g d).flatMap fun span =>
    [{ offset := span.1, input := .head d, leading := true }, { offset := span.2, input := .head d, leading := false }] :=
  rfl

/-- The edges of a pulse are those of its wheel sensor. -/
theorem Train.wheelPulse_input {w : WheelSensor} {axle : Nat} {e : ComputedEdge}
    (mem : e ∈ x.wheelPulse g debounce w axle) : e.input = .wheel w := by
  simp only [Train.wheelPulse, Train.pulse, List.mem_cons, List.not_mem_nil, or_false] at mem
  rcases mem with rfl | rfl <;> rfl

/-- The edges of a detector's spans are those of the detector. -/
theorem Train.edgesAt_input {d : Detector} {e : ComputedEdge} (mem : e ∈ x.edgesAt g d) : e.input = .head d := by
  obtain ⟨p, -, edge⟩ := List.mem_flatMap.mp (x.edgesAt_eq g d ▸ mem)
  simp only [List.mem_cons, List.not_mem_nil, or_false] at edge
  rcases edge with rfl | rfl <;> rfl

theorem Train.mem_wheelEdges {e : ComputedEdge} :
    e ∈ x.wheelEdges g debounce ↔ ∃ axle ∈ x.axles, ∃ w, e ∈ x.wheelPulse g debounce w axle := by
  simp only [Train.wheelEdges, List.mem_flatMap, mem_allSensors, true_and]

theorem Train.mem_headEdges {e : ComputedEdge} : e ∈ x.headEdges g ↔ ∃ d, e ∈ x.edgesAt g d := by
  simp only [Train.headEdges, List.mem_flatMap, mem_allDetectors, true_and]

theorem Train.schedule_eq (x : Train) (g : Geometry) (debounce : Nat) : x.schedule g debounce =
    (sortBy (fun a b => a.offset < b.offset) (x.wheelEdges g debounce ++ x.headEdges g)).map ComputedEdge.place := rfl

/-- The schedule holds the computed edges, each at its place. -/
theorem Train.schedule_perm (x : Train) (g : Geometry) (debounce : Nat) :
    (x.schedule g debounce).Perm ((x.wheelEdges g debounce ++ x.headEdges g).map ComputedEdge.place) :=
  (sortBy_perm _ _).map _

/-- The schedule stands in order of tick offset (R160). -/
theorem Train.schedule_pairwise (x : Train) (g : Geometry) (debounce : Nat) :
    ((x.schedule g debounce).map fun e => e.offset).Pairwise (· ≤ ·) := by
  rw [Train.schedule_eq, List.map_map]
  refine List.pairwise_map.mpr (List.Pairwise.imp ?_ (sortBy_pairwise (key := ComputedEdge.offset) (fun _ _ => rfl) _))
  exact fun order => Int.toNat_le_toNat order

/-- The input is a wheel sensor. -/
def SyntheticInput.isWheel : SyntheticInput → Bool
  | .wheel _ => true
  | .head _ => false

/-- Each axle gives a pulse at each of the four wheel sensors, of two edges (R161). -/
theorem Train.wheelEdges_count (x : Train) (g : Geometry) (debounce : Nat) :
    (x.wheelEdges g debounce).countP (fun e => e.input.isWheel) = 8 * x.axles.length := by
  have eight (axle : Nat) :
      (allSensors.flatMap fun w => x.wheelPulse g debounce w axle).countP (fun e => e.input.isWheel) = 8 := rfl
  simp only [Train.wheelEdges, List.countP_flatMap, Function.comp_def, eight]
  rw [List.map_const', List.sum_replicate, smul_eq_mul, Nat.mul_comm]

theorem Train.headEdges_count (x : Train) (g : Geometry) : (x.headEdges g).countP (fun e => e.input.isWheel) = 0 := by
  refine List.countP_eq_zero.mpr fun e mem => ?_
  obtain ⟨d, edge⟩ := Train.mem_headEdges.mp mem
  rw [Train.edgesAt_input edge]
  exact Bool.false_ne_true

theorem Train.schedule_wheelCount (x : Train) (g : Geometry) (debounce : Nat) :
    (x.schedule g debounce).countP (fun e => e.input.isWheel) = 8 * x.axles.length := by
  rw [(x.schedule_perm g debounce).countP_eq, List.countP_map, List.countP_append]
  exact congrArg₂ (· + ·) (x.wheelEdges_count g debounce) (x.headEdges_count g)

/-- The pulse of an axle at a wheel sensor is in the schedule, both edges at their places (R161). -/
theorem Train.pulse_mem_schedule {o : Nat} (mem : o ∈ x.axles) (w : WheelSensor) :
    let f := travelFrame g x.direction
    let lead := x.offset f.approachOuter (f.wheelPosition x.direction w) o
    { offset := lead.toNat, input := .wheel w, leading := true } ∈ x.schedule g debounce
    ∧ { offset := (lead + 2 * debounce).toNat, input := .wheel w, leading := false } ∈ x.schedule g debounce := by
  intro f lead
  have placed {e : ComputedEdge} (edge : e ∈ x.wheelPulse g debounce w o) : e.place ∈ x.schedule g debounce :=
    (x.schedule_perm g debounce).mem_iff.mpr
      (List.mem_map_of_mem (List.mem_append_left _ (Train.mem_wheelEdges.mpr ⟨o, mem, w, edge⟩)))
  exact ⟨placed List.mem_cons_self, placed (List.mem_cons_of_mem _ List.mem_cons_self)⟩

/-- The edges of one detector among all of the train are those of its spans. -/
theorem Train.computed_filter (x : Train) (g : Geometry) (debounce : Nat) (y : Detector) :
    (x.wheelEdges g debounce ++ x.headEdges g).filter (fun e => e.input == .head y) = x.edgesAt g y := by
  have noWheel : (x.wheelEdges g debounce).filter (fun e => e.input == .head y) = [] := by
    refine List.filter_eq_nil_iff.mpr fun e mem => ?_
    obtain ⟨axle, -, w, edge⟩ := Train.mem_wheelEdges.mp mem
    simp [Train.wheelPulse_input edge]
  have same : (x.edgesAt g y).filter (fun e => e.input == .head y) = x.edgesAt g y :=
    List.filter_eq_self.mpr fun e mem => beq_iff_eq.mpr (Train.edgesAt_input mem)
  have other {d : Detector} (differs : d ≠ y) : (x.edgesAt g d).filter (fun e => e.input == .head y) = [] := by
    refine List.filter_eq_nil_iff.mpr fun e mem => ?_
    simp [Train.edgesAt_input mem, differs]
  rw [List.filter_append, noWheel, List.nil_append, Train.headEdges, List.filter_flatMap]
  cases y with
  | hda => simp [allDetectors, same, other]
  | hdb => simp [allDetectors, same, other]

/-- In the schedule, too, the edges of a detector are those of its spans, in their order (R162). -/
theorem Train.schedule_filter (x : Train) (g : Geometry) (debounce : Nat) (y : Detector) :
    (x.schedule g debounce).filter (fun e => e.input == .head y) = (x.spansAt g y).flatMap (fun p =>
      [{ offset := p.1.toNat, input := .head y, leading := true },
        { offset := p.2.toNat, input := .head y, leading := false }]) := by
  have edges := x.computed_filter g debounce y
  have sorted : (x.edgesAt g y).Pairwise fun a b => a.offset ≤ b.offset := x.detectorEdges_pairwise _ _ y
  rw [← edges] at sorted
  have stable := filter_sortBy_of_pairwise (fun _ _ => rfl) sorted
  rw [Train.schedule_eq, List.filter_map]
  exact (congrArg (List.map ComputedEdge.place) (stable.trans edges)).trans (List.map_flatMap ..)

/-- A train with an axle has a last edge. -/
theorem Train.schedule_getLast (axles : x.axles ≠ []) : ∃ last, (x.schedule g debounce).getLast? = some last := by
  obtain ⟨o, mem⟩ := List.exists_mem_of_ne_nil _ axles
  exact ⟨_, List.getLast?_eq_some_getLast (List.ne_nil_of_mem (Train.pulse_mem_schedule mem .wao).1)⟩

theorem lastOffset_eq {schedule : List SyntheticEdge} {last : SyntheticEdge} (ends : schedule.getLast? = some last) :
    lastOffset schedule = last.offset := by
  rw [lastOffset, ends]
  rfl

end Sys2Proof.Machine
end

section
/-! Proofs: REHEARSE and the delivery of its edges (O53). -/

namespace Sys2Proof.Machine

variable {s : State} {t : TrackId} {d : Direction} {body : List Byte} {e : SyntheticEdge} {rest : List SyntheticEdge}

/-! ## The values of REHEARSE (R160) -/

theorem offsetsOk_iff (l : List Nat) : offsetsOk l = true ↔ l.Pairwise (· ≤ ·) ∧ ∀ o ∈ l, o ≤ 1000000 := by
  induction l with
  | nil => simp [offsetsOk]
  | cons a l ih =>
    cases l with
    | nil => simp [offsetsOk]
    | cons b rest =>
      rw [offsetsOk, Bool.and_eq_true, decide_eq_true_iff, ih, ← List.isChain_iff_pairwise, ← List.isChain_iff_pairwise,
        List.isChain_cons_cons, List.forall_mem_cons (a := a)]
      constructor
      · rintro ⟨order, chain, low⟩
        exact ⟨⟨order, chain⟩, order.trans (low b List.mem_cons_self), low⟩
      · rintro ⟨⟨order, chain⟩, -, low⟩
        exact ⟨order, chain, low⟩

theorem RehearsedHead.ok_iff (h : RehearsedHead) :
    h.ok = true ↔ -5000 ≤ h.front ∧ h.front ≤ 1000000 ∧ 100 ≤ h.length ∧ h.length ≤ 3000 := by
  simp only [RehearsedHead.ok, inRangeInt, Bool.and_eq_true, decide_eq_true_iff, inRange_iff, and_assoc]

theorem Train.ok_iff (x : Train) : x.ok = true ↔ 300 ≤ x.speed ∧ x.speed ≤ 110000 ∧ x.delay ≤ 60000
    ∧ 1 ≤ x.axles.length ∧ x.axles.length ≤ 64 ∧ x.heads.length ≤ 8
    ∧ (∃ rest, x.axles = 0 :: rest) ∧ x.axles.Pairwise (· ≤ ·) ∧ (∀ o ∈ x.axles, o ≤ 1000000)
    ∧ ∀ h ∈ x.heads, -5000 ≤ h.front ∧ h.front ≤ 1000000 ∧ 100 ≤ h.length ∧ h.length ≤ 3000 := by
  simp only [Train.ok, Bool.and_eq_true, decide_eq_true_iff, inRange_iff, beq_iff_eq, List.head?_eq_some_iff, offsetsOk_iff,
    List.all_eq_true, RehearsedHead.ok_iff, and_assoc]

/-! ## REHEARSE (R160) -/

/-- The track rehearses, quiet, with no edge left to deliver (R160). -/
def Channel.ReadyToRehearse (c : Channel) : Prop :=
  c.mode = some .rehearsal ∧ (c.state = .idle ∨ c.state = .dormant) ∧ c.generator.schedule = []

/-- The part after an accepted REHEARSE. -/
def State.rehearsing (s : State) (t : TrackId) (x : Train) : State :=
  s.updChannel t fun c =>
    { c with generator :=
        { schedule := x.schedule (s.channel t).geometry (s.channel t).debounce, acceptedAt := s.ticks
          liveStrobe := x.live } }

/-- REHEARSE, with its three checks of the state taken together. -/
theorem handleRehearse_eq (track : field body 0 1 = trackCode t) (direction : field body 1 1 = directionCode d) :
    let x := trainOf body d
    let c := s.channel t
    handleRehearse body s =
      if !(isFlag (field body 8 1) && x.ok) then refuse s .badValue
      else if c.mode != some .rehearsal || !(c.state = .idle || c.state = .dormant) || !c.generator.schedule.isEmpty then
        refuse s .wrongState
      else accept (s.rehearsing t x)
        (timeBytes (later s.localTime (x.delay * 1000))
          ++ timeBytes (later s.localTime (lastOffset (x.schedule c.geometry c.debounce)))) := by
  intro x c
  rw [handleRehearse, track, trackOfCode_code, direction, directionOfCode_code]
  dsimp only
  cases c.mode != some .rehearsal <;> cases !(c.state = .idle || c.state = .dormant) <;>
    cases !c.generator.schedule.isEmpty <;> rfl

/-- REHEARSE of no track or no direction (R160). -/
theorem handleRehearse_unnamed (bad : trackOfCode (field body 0 1) = none ∨ directionOfCode (field body 1 1) = none) :
    handleRehearse body s = refuse s .badValue := by
  rw [handleRehearse]
  rcases bad with none | none
  · rw [none]
  · rw [none]
    cases trackOfCode (field body 0 1) <;> rfl

/-- REHEARSE is judged by its train, then by the track and its generator (R160). -/
theorem judged_rehearse (idle : s.LinkIdle) (fits : body.length ≤ 248)
    (length : body.length = RequestKind.rehearse.requiredLength body) (track : field body 0 1 = trackCode t)
    (direction : field body 1 1 = directionCode d) :
    let x := trainOf body d
    let c := s.channel t
    Judged .rehearse body s (field body 8 1 ≤ 1 ∧ x.ok = true) c.ReadyToRehearse (s.rehearsing t x)
      (timeBytes (later s.localTime (x.delay * 1000))
        ++ timeBytes (later s.localTime (lastOffset (x.schedule c.geometry c.debounce)))) := by
  intro x c
  have handled : handle .rehearse body s = _ := handleRehearse_eq track direction
  have values : (isFlag (field body 8 1) && x.ok) = true ↔ field body 8 1 ≤ 1 ∧ x.ok = true := by
    rw [Bool.and_eq_true, isFlag_iff]
  have barred : (c.mode != some .rehearsal || !(c.state = .idle || c.state = .dormant)
      || !c.generator.schedule.isEmpty) = true ↔ ¬c.ReadyToRehearse := by
    simp only [Channel.ReadyToRehearse, Bool.or_eq_true, Bool.not_eq_true', bne_iff_ne, Bool.or_eq_false_iff,
      decide_eq_false_iff_not, List.isEmpty_eq_false_iff, not_and_or, not_or, or_assoc, ne_eq]
  refine judged_of_handle idle fits length (by simp) (fun bad => handled.trans ?_) (fun good busy => handled.trans ?_)
    (fun good ready => handled.trans ?_) rfl
  · exact if_pos (by rw [Bool.eq_false_iff.mpr (mt values.mp bad)]; rfl)
  · rw [if_neg (by rw [values.mpr good]; decide)]
    exact if_pos (barred.mpr busy)
  · rw [if_neg (by rw [values.mpr good]; decide)]
    exact if_neg (mt barred.mp (not_not_intro ready))

/-! ## Delivery (R163, R165) -/

theorem edgeDue_early (early : ∀ e ∈ (s.channel t).generator.schedule.head?,
    s.ticks < (s.channel t).generator.acceptedAt + e.offset) : s.edgeDue t = none := by
  rw [State.edgeDue, Generator.dueEdge]
  cases schedule : (s.channel t).generator.schedule with
  | nil => rfl
  | cons e rest => exact if_neg (not_le.mpr (early e (by rw [schedule]; rfl)))

theorem edgeDue_some (schedule : (s.channel t).generator.schedule = e :: rest)
    (due : (s.channel t).generator.acceptedAt + e.offset ≤ s.ticks) : s.edgeDue t = some e := by
  rw [State.edgeDue, Generator.dueEdge, schedule]
  exact if_pos due

theorem rehearsalEdgeDelivery_early (none : s.edgeDue t = none) : Completes (.rehearsalEdgeDelivery t) s s := by
  change execRehearsalEdgeDelivery t s = _
  rw [execRehearsalEdgeDelivery, none]

theorem rehearsalEdgeDelivery_due (due : s.edgeDue t = some e) : Completes (.rehearsalEdgeDelivery t) s (s.deliver t e) := by
  change execRehearsalEdgeDelivery t s = _
  rw [execRehearsalEdgeDelivery, due]

theorem Channel.applyEdge_generator (c : Channel) (e : SyntheticEdge) (now : LocalTime) (ticks : Nat) :
    (c.applyEdge e now ticks).generator = c.generator := by
  rw [Channel.applyEdge]
  split
  · split <;> rfl
  · rfl

/-- The track's first edge has left the schedule. -/
def State.popped (s : State) (t : TrackId) (rest : List SyntheticEdge) : State :=
  s.updChannel t fun c => { c with generator := { c.generator with schedule := rest } }

/-- An edge that leaves the schedule is applied; the last one latches REHEARSAL_DONE. -/
theorem deliver_eq (schedule : (s.channel t).generator.schedule = e :: rest) :
    let applied := (s.popped t rest).updChannel t fun c => c.applyEdge e s.localTime s.ticks
    s.deliver t e = if rest = [] then applied.latch .rehearsalDone else applied := by
  intro applied
  have delivered : (s.updChannel t fun c => c.deliver e s.localTime s.ticks) = applied := by
    rw [show applied = _ from State.updChannel_updChannel ..]
    refine State.updChannel_congr ?_
    rw [Channel.deliver, schedule]
    rfl
  have left : (applied.channel t).generator.schedule = rest := by
    rw [State.updChannel_same, Channel.applyEdge_generator, State.popped, State.updChannel_same]
  simp only [State.deliver, delivered, left, List.isEmpty_iff]

/-- The inputs after a synthetic edge (R163). -/
theorem updChannel_applyEdge (u : State) (t : TrackId) (e : SyntheticEdge) (now : LocalTime) (ticks : Nat) :
    (u.updChannel t fun c => c.applyEdge e now ticks) =
      match e.input, e.leading with
      | .wheel w, true => u.updChannel t fun c =>
          { c with synthetic := c.synthetic ++ [{ sensor := w, timestamp := now, accepts := ticks + c.debounce }] }
      | .wheel _, false => u
      | .head x, high => u.updChannel t fun c =>
          let y := c.detectors.get x
          { c with
            detectors := c.detectors.set x
              { y with synthetic := high, count := if high = y.blocked then none else some (ticks + c.debounce) } } := by
  obtain ⟨offset, input, leading⟩ := e
  cases input with
  | wheel w =>
    cases leading with
    | true => rfl
    | false => exact State.updChannel_id rfl
  | head y => rfl

/-- Settles O53: the schedule is the stable sort of the computed edges, in which each detector keeps its merged spans; a
delivery takes the first edge, applies it, and looks whether it was the last. -/
theorem rehearsalRunsItsSchedule : Obligations.RehearsalRunsItsSchedule := by
  refine ⟨fun s t d body idle fits length track direction => ?_, fun s body idle fits length bad => ?_, fun s t => ?_⟩
  · intro c x f values ready
    obtain ⟨bad, wrong, good⟩ := judged_rehearse idle fits length track direction
    have values_iff : field body 8 1 ≤ 1 ∧ x.ok = true ↔ values := and_congr_right' x.ok_iff
    refine ⟨fun wild => bad (mt values_iff.mp wild), fun fine => wrong (values_iff.mpr fine), fun fine quiet => ?_⟩
    have axles : x.axles ≠ [] := by
      obtain ⟨-, -, -, -, some, -⟩ := fine
      exact List.ne_nil_of_length_pos some
    obtain ⟨last, ends⟩ := Train.schedule_getLast (g := c.geometry) (debounce := c.debounce) axles
    refine ⟨x.schedule c.geometry c.debounce, last, ?_, ends, x.schedule_pairwise _ _, ?_, fun o mem w => ?_,
      fun y => ?_⟩
    · rw [← lastOffset_eq ends]
      exact good (values_iff.mpr fine) quiet
    · exact x.schedule_wheelCount c.geometry c.debounce
    · rw [← Train.offset_eq]
      exact Train.pulse_mem_schedule mem w
    · obtain ⟨apart, -, covers⟩ := x.spans_merged f.approachOuter (f.detectorPosition d y)
      refine ⟨_, x.schedule_filter c.geometry c.debounce y, apart, fun n => ?_⟩
      simp only [← Train.offset_eq]
      exact (covers n).trans Train.covered_intervals
  · refine answers_of_handle idle fits length (by simp) (handleRehearse_unnamed ?_) rfl
    exact bad.imp trackOfCode_none directionOfCode_none
  · intro c
    refine ⟨fun early => rehearsalEdgeDelivery_early (edgeDue_early early), fun e rest schedule due => ?_⟩
    intro popped applied
    have delivers := rehearsalEdgeDelivery_due (edgeDue_some schedule due)
    have result : (popped.updChannel t fun c => c.applyEdge e s.localTime s.ticks) = applied := updChannel_applyEdge ..
    rw [deliver_eq schedule] at delivers
    refine ⟨fun none => ?_, fun more => ?_⟩
    · rw [if_pos none] at delivers
      exact result ▸ delivers
    · rw [if_neg more] at delivers
      exact result ▸ delivers

end Sys2Proof.Machine
end

section
/-! Proofs: records offered to the store, and the order of an offer and another event of its instant (O48). -/

namespace Sys2Proof.Machine

variable {s : State} {t : TrackId} {body : RecordBody} {st : Store} {request : List Byte} {r : Record}
  {ahead behind : List Record}

/-! ## The number that a record gets (R167) -/

/-- The search for a free number steps on from the first, over used numbers only. -/
theorem freeNumber_skips (used : List Nat) (skips n : Nat) : ∃ k,
    freeNumber used skips n = nextRecordNumber^[k] n ∧ ∀ j, j < k → nextRecordNumber^[j] n ∈ used := by
  induction skips generalizing n with
  | zero => exact ⟨0, rfl, by simp⟩
  | succ skips ih =>
    rw [freeNumber]
    split
    · next mem =>
      obtain ⟨k, found, skipped⟩ := ih (nextRecordNumber n)
      refine ⟨k + 1, found, fun j before => ?_⟩
      cases j with
      | zero => exact mem
      | succ j => exact skipped j (Nat.lt_of_succ_lt_succ before)
    · exact ⟨0, rfl, by simp⟩

theorem nextRecordNumber_eq {n : Nat} (range : RecordNumber n) :
    nextRecordNumber n = if n = 65535 then 1 else n + 1 := by
  obtain ⟨-, high⟩ := range
  unfold nextRecordNumber
  split <;> split <;> omega

theorem Store.Good.assigned_range (good : st.Good) : RecordNumber st.assigned := by
  obtain ⟨-, -, -, next, -⟩ := good
  exact freeNumber_range _ _ _ next

/-- A number that no held record carries. -/
theorem Store.Good.assigned_free (good : st.Good) : ∀ x ∈ st.records, x.number ≠ st.assigned := by
  obtain ⟨length, -, -, next, -⟩ := good
  have few : (st.records.map fun x => x.number).length < 65535 := by
    rw [List.length_map]
    exact length.trans_lt (by decide)
  have free := freeNumber_not_mem next few
  rw [List.length_map] at free
  exact fun x mem same => free (List.mem_map.mpr ⟨x, mem, same⟩)

/-- The record that a store makes of what is offered to it. -/
def Store.newcomer (st : Store) (t : TrackId) (now : LocalTime) (displaced : Bool) (body : RecordBody) : Record :=
  { number := st.assigned, track := t, stored := now, displaced := displaced, body := body }

theorem append_records (st : Store) (t : TrackId) (now : LocalTime) (displaced : Bool) (body : RecordBody) :
    (st.append t now displaced body).records = st.records ++ [st.newcomer t now displaced body] := rfl

/-- A record is stored at the tail with the first number from the next one on that no held record carries. -/
theorem Store.Good.append_numbered (good : st.Good) (t : TrackId) (now : LocalTime) (displaced : Bool)
    (body : RecordBody) : ∃ n k,
    st.append t now displaced body =
        { st with
          records := st.records ++ [{ number := n, track := t, stored := now, displaced := displaced, body := body }]
          nextNumber := if n = 65535 then 1 else n + 1 }
      ∧ n = nextRecordNumber^[k] st.nextNumber ∧ (∀ x ∈ st.records, x.number ≠ n)
      ∧ ∀ j, j < k → ∃ x ∈ st.records, x.number = nextRecordNumber^[j] st.nextNumber := by
  obtain ⟨k, found, skipped⟩ := freeNumber_skips (st.records.map fun x => x.number) st.records.length st.nextNumber
  refine ⟨st.assigned, k, ?_, found, good.assigned_free, fun j before => List.mem_map.mp (skipped j before)⟩
  rw [Store.append, nextRecordNumber_eq good.assigned_range]

/-! ## What an offer does (R168, R169) -/

/-- An offer to a store with room. -/
theorem offer_joins (room : s.store.records.length < 32) (t : TrackId) (body : RecordBody) :
    (s.offer t body).store = s.store.append t s.localTime false body
    ∧ (s.store.records.length + 1 = s.store.threshold →
      s.offer t body = State.latch { s with store := (s.offer t body).store } .storeLevel)
    ∧ (s.store.records.length + 1 ≠ s.store.threshold → s.offer t body = { s with store := (s.offer t body).store }) := by
  have length : (s.store.append t s.localTime false body).records.length = s.store.records.length + 1 := by
    rw [append_records, List.length_append, List.length_singleton]
  rw [State.offer, if_pos (show s.store.records.length < Config.storeSlots from room)]
  dsimp only
  rw [length]
  split
  · next level => exact ⟨rfl, fun _ => rfl, fun below => absurd level below⟩
  · next below => exact ⟨rfl, fun level => absurd level below, fun _ => rfl⟩

/-- An offer to a full store under KEEP. -/
theorem offer_discards (full : s.store.records.length = 32) (keep : s.store.policy = .keep) (t : TrackId)
    (body : RecordBody) : s.offer t body = (s.countLost t body).latch .storeLoss := by
  rw [State.offer, if_neg (by rw [full]; decide), keep]

theorem offer_discards_store (full : s.store.records.length = 32) (keep : s.store.policy = .keep) (t : TrackId)
    (body : RecordBody) : (s.offer t body).store = s.store := by
  rw [offer_discards full keep, State.latch_store]
  cases body <;> rfl

/-- An offer to a full store under REPLACE. -/
theorem offer_displaces (full : s.store.records.length = 32) (replace : s.store.policy = .replace) (t : TrackId)
    (body : RecordBody) :
    (s.offer t body).store
        = Store.append { s.store with records := s.store.records.tail } t s.localTime true body
    ∧ s.offer t body = State.latch { s with store := (s.offer t body).store } .storeLoss := by
  rw [State.offer, if_neg (by rw [full]; decide), replace, List.drop_one]
  exact ⟨rfl, rfl⟩

theorem Store.Good.tail (good : st.Good) : Store.Good { st with records := st.records.tail } := by
  rw [← List.drop_one]
  exact good.dropOldest

theorem State.LinkIdle.offer (idle : s.LinkIdle) (t : TrackId) (body : RecordBody) : (s.offer t body).LinkIdle := by
  rw [State.LinkIdle, (offer_offers s t body).link_idle idle]
  exact idle

/-- Two records that are offered one after the other stand in that order. -/
theorem offer_offer_records (room : s.store.records.length + 2 ≤ 32) (t k : TrackId) (body other : RecordBody) :
    ∃ x y, ((s.offer t body).offer k other).store.records = s.store.records ++ [x, y]
      ∧ x.track = t ∧ x.body = body ∧ y.track = k ∧ y.body = other := by
  obtain ⟨first, -⟩ := offer_joins (s := s) (by omega) t body
  have held : (s.offer t body).store.records = s.store.records ++ [s.store.newcomer t s.localTime false body] := by
    rw [first, append_records]
  obtain ⟨second, -⟩ := offer_joins (s := s.offer t body) (by rw [held, List.length_append, List.length_singleton]; omega)
    k other
  refine ⟨s.store.newcomer t s.localTime false body,
    (s.offer t body).store.newcomer k (s.offer t body).localTime false other, ?_, rfl, rfl, rfl, rfl⟩
  rw [second, append_records, held, List.append_assoc]
  rfl

/-! ## The requests beside an offer (R170 to R172) -/

/-- FETCH RECORD on a store that holds one record. -/
theorem answers_fetchRecord_one (idle : s.LinkIdle) (held : s.store.records = [r]) :
    Answers .fetchRecord [] s s .ok (1#8 :: r.bytes) := by
  obtain ⟨-, -, requests⟩ := recordsAreFetchedAndReleased
  obtain ⟨-, fetch, -⟩ := requests s idle
  have answer := fetch r [] held
  rwa [held] at answer

/-- RELEASE RECORD with the number of a record that a good store holds. -/
theorem answers_releaseRecord_held (idle : s.LinkIdle) (good : s.store.Good) (length : request.length = 2)
    (number : field request 0 2 = r.number) (held : s.store.records = ahead ++ r :: behind) :
    Answers .releaseRecord request s { s with store := { s.store with records := ahead ++ behind } } .ok [] := by
  obtain ⟨-, -, requests⟩ := recordsAreFetchedAndReleased
  obtain ⟨-, -, release⟩ := requests s idle
  obtain ⟨-, -, take⟩ := release request length
  obtain ⟨-, different, range, -⟩ := good
  obtain ⟨positive, -⟩ := range r (held ▸ List.mem_append_right ahead List.mem_cons_self)
  exact take ahead r behind (by omega) held number.symm different

/-- RELEASE RECORD with a record number that no record of the store carries. -/
theorem answers_releaseRecord_gone (idle : s.LinkIdle) (length : request.length = 2)
    (range : RecordNumber (field request 0 2)) (gone : ∀ x ∈ s.store.records, x.number ≠ field request 0 2) :
    Answers .releaseRecord request s s .notFound [] := by
  obtain ⟨-, -, requests⟩ := recordsAreFetchedAndReleased
  obtain ⟨-, -, release⟩ := requests s idle
  obtain ⟨-, notFound, -⟩ := release request length
  obtain ⟨positive, -⟩ := range
  exact notFound (by omega) gone

/-- SET STORE with figures in range. -/
theorem answers_setStore (idle : s.LinkIdle) (length : request.length = 2) (policy : field request 0 1 ≤ 1)
    (low : 1 ≤ field request 1 1) (high : field request 1 1 ≤ 32) :
    Answers .setStore request s
      { s with
        store := { s.store with
          policy := if field request 0 1 = 0 then .keep else .replace, threshold := field request 1 1 } } .ok [] := by
  obtain ⟨setStore, -⟩ := storeAndHealthAreSet s request idle
  obtain ⟨-, -, accepted⟩ := setStore length
  exact accepted ⟨policy, low, high⟩ trivial

/-! ## A RELEASE RECORD of the instant of an offer, the store full (R174) -/

/-- Released first, the record leaves room for the newcomer. -/
theorem offer_after_release (full : s.store.records.length = 32) (held : s.store.records = ahead ++ r :: behind)
    (t : TrackId) (body : RecordBody) :
    let freed : State := { s with store := { s.store with records := ahead ++ behind } }
    ∃ x, (freed.offer t body).store.records = ahead ++ behind ++ [x] ∧ x.body = body ∧ x.displaced = false
      ∧ (freed.offer t body).attention
        = if s.store.threshold = 32 then (s.latch .storeLevel).attention else s.attention := by
  intro freed
  have left : freed.store.records.length + 1 = 32 := by
    rw [held] at full
    simpa [freed, Nat.add_assoc] using full
  obtain ⟨stored, level, below⟩ := offer_joins (s := freed) (by omega) t body
  refine ⟨freed.store.newcomer t s.localTime false body, ?_, rfl, rfl, ?_⟩
  · rw [stored, append_records]
  · split
    · next top =>
      rw [level (left.trans top.symm)]
      rfl
    · next other => rw [below fun same => other (same.symm.trans left)]

/-- Released after the newcomer has displaced the oldest, the record is taken, or it was the oldest and is gone. -/
theorem release_after_displacement (good : s.store.Good) (idle : s.LinkIdle) (full : s.store.records.length = 32)
    (replace : s.store.policy = .replace) (length : request.length = 2) (number : field request 0 2 = r.number)
    (held : s.store.records = ahead ++ r :: behind) (t : TrackId) (body : RecordBody) :
    let u := s.offer t body
    ∃ x : Record, x.body = body ∧ x.displaced = true
      ∧ (∀ y rest, ahead = y :: rest → Answers .releaseRecord request u
        { u with store := { u.store with records := rest ++ behind ++ [x] } } .ok [])
      ∧ (ahead = [] → x.number ≠ r.number → Answers .releaseRecord request u u .notFound []) := by
  intro u
  let kept : Store := { s.store with records := s.store.records.tail }
  obtain ⟨stored, -⟩ := offer_displaces full replace t body
  have records : u.store.records = s.store.records.tail ++ [kept.newcomer t s.localTime true body] :=
    congrArg Store.records stored
  refine ⟨kept.newcomer t s.localTime true body, rfl, rfl, fun y rest first => ?_, fun oldest apart => ?_⟩
  · have place : u.store.records = rest ++ r :: (behind ++ [kept.newcomer t s.localTime true body]) := by
      rw [records, held, first]
      simp
    rw [List.append_assoc]
    exact answers_releaseRecord_held (idle.offer t body) ((offer_mends s t body).store good) length number place
  · obtain ⟨-, different, range, -⟩ := good
    rw [held, oldest, List.nil_append] at different range
    rw [List.map_cons, List.nodup_cons] at different
    rw [held, oldest, List.nil_append, List.tail_cons] at records
    refine answers_releaseRecord_gone (idle.offer t body) length (number ▸ range r List.mem_cons_self) fun x mem => ?_
    rw [number]
    rcases List.mem_append.mp (records ▸ mem) with other | new
    · exact fun same => different.1 (List.mem_map.mpr ⟨x, other, same⟩)
    · rwa [List.mem_singleton.mp new]

/-- Settles O48: what an offer does by the room and the policy, and then each order of an offer and another event. -/
theorem offersFillTheStore : Obligations.OffersFillTheStore := by
  intro s t body good st stored u
  refine ⟨fun room => ?_, fun full keep => ⟨fun x head => ?_, fun x passage => ?_⟩, fun full replace => ?_,
    fun other room => offer_offer_records room t _ body other, fun idle => ⟨fun empty => ?_, ?_, ?_⟩⟩
  · obtain ⟨joined, latches⟩ := offer_joins room t body
    obtain ⟨n, k, numbered⟩ := good.append_numbered t s.localTime false body
    exact ⟨⟨n, k, joined ▸ numbered⟩, latches⟩
  · subst head
    exact offer_discards full keep t _
  · subst passage
    exact offer_discards full keep t _
  · obtain ⟨joined, latches⟩ := offer_displaces full replace t body
    obtain ⟨n, k, numbered⟩ := good.tail.append_numbered t s.localTime true body
    exact ⟨⟨n, k, joined ▸ numbered⟩, latches⟩
  · obtain ⟨-, -, requests⟩ := recordsAreFetchedAndReleased
    obtain ⟨nothing, -⟩ := requests s idle
    change s.store.records = [] at empty
    obtain ⟨joined, -⟩ := offer_joins (s := s) (by simp [empty]) t body
    refine ⟨nothing empty, s.store.newcomer t s.localTime false body, rfl, rfl,
      answers_fetchRecord_one (idle.offer t body) ?_⟩
    rw [joined, append_records, empty, List.nil_append]
  · intro request ahead r behind full length number held freed
    refine ⟨answers_releaseRecord_held idle good length number held, offer_after_release full held t body, fun keep => ?_,
      fun replace => release_after_displacement good idle full replace length number held t body⟩
    have same : u.store = s.store := offer_discards_store full keep t body
    have place : u.store.records = ahead ++ r :: behind := (congrArg Store.records same).trans held
    have answer := answers_releaseRecord_held (idle.offer t body) ((offer_mends s t body).store good) length number place
    rwa [same] at answer
  · intro request length policy low high set w
    refine ⟨answers_setStore (idle.offer t body) length policy low high, answers_setStore idle length policy low high,
      fun full keep => ?_, fun full replace => ?_, fun room => ?_⟩
    · exact offer_discards_store (s := set s) full (if_pos keep) t body
    · obtain ⟨joined, -⟩ := offer_displaces (s := set s) full (if_neg (by omega)) t body
      exact ⟨_, congrArg Store.records joined, rfl, rfl⟩
    · obtain ⟨-, latches⟩ := offer_joins (s := set s) room t body
      exact latches

end Sys2Proof.Machine
end

section
/-! Proofs: requests that wait, requests that are refused for their length, and what IDENTIFY reports (O4, O5, O11). -/

namespace Sys2Proof.Machine

variable {s : State} {q : Request} {body : List Byte}

/-! ## Refused requests (R178) -/

/-- A refused request leaves the part alone but for its reply: no restart follows, and no record is noted. -/
theorem process_refused {status : Status} (refused : answer q s = refuse s status) (bad : status ≠ .ok) :
    s.process q = s.replying q status [] := by
  have noRestart : restartsAfter q status = false := by simp [restartsAfter, bad]
  simp only [State.process, State.replying, refused, refuse, noRestart, reportedBy_eq]

/-- A byte that is the code of no kind names none. -/
theorem kindOfByte_none {b : Byte} (unknown : ∀ k : RequestKind, k.code ≠ b) : kindOfByte b = none := by
  refine Option.eq_none_iff_forall_ne_some.mpr fun k named => unknown k (BitVec.eq_of_toNat_eq ?_)
  unfold kindOfByte at named
  split at named
  case h_30 => exact nomatch named
  all_goals
    next byte =>
      obtain rfl := Option.some.inj named
      exact byte.symm

/-- A request of no kind is answered UNKNOWN_KIND. -/
theorem process_unknownKind (unknown : ∀ k : RequestKind, k.code ≠ q.kind) :
    s.process q = s.replying q .unknownKind [] := by
  refine process_refused ?_ (by simp)
  rw [answer, kindOfByte_none unknown]

/-- A request with a body of the wrong length is answered BAD_LENGTH. -/
theorem answers_badLength {k : RequestKind} (idle : s.LinkIdle) (fits : body.length ≤ 248)
    (wrong : body.length ≠ k.requiredLength body) : Answers k body s s .badLength [] := by
  intro tag
  refine (exec_command_idle idle k tag fits).trans (congrArg _ (process_refused ?_ (by simp)))
  simp [answer, kindOfByte_code, Bool.eq_false_iff.mpr (mt (bodyLengthOk_iff k body).mp wrong)]

/-- Settles O5: an unfit body is refused before its kind's handler sees it, and one that fits in no frame is dropped. -/
theorem wrongLengthIsBadLength : Obligations.WrongLengthIsBadLength := by
  refine fun kind body s => ⟨fun idle fits wrong => answers_badLength idle fits wrong, fun long tag => ?_⟩
  have unfit : bodyFits body = false := decide_eq_false (Nat.not_le.mpr long)
  refine (exec_command kind tag body s).trans ?_
  rw [State.submit, unfit]
  rfl

/-! ## The receive queue (R177) -/

/-- A request command with a body that fits in a frame hands that frame on. -/
theorem exec_command_fits (k : RequestKind) (tag : Byte) (fits : body.length ≤ 248) :
    exec (k.command tag body) s = .next (s.receive { kind := k.code, tag := tag, body := body }) := by
  rw [exec_command, State.submit, if_pos (show bodyFits body = true from decide_eq_true fits)]

/-- A link that is not idle queues a request, or discards it where the queue is full. -/
theorem State.receive_busy (busy : ¬s.LinkIdle) (q : Request) : s.receive q =
    if s.link.queue.length < 4 then { s with link := { s.link with queue := s.link.queue ++ [q] } }
    else s.latch .linkOverrun := by
  have taken : ¬(s.link.transmission.isNone && s.link.queue.isEmpty) = true := by
    simpa [State.LinkIdle] using busy
  rw [State.receive, if_neg taken]
  rfl

/-- Settles O4: a busy link looks at the length of its queue alone. -/
theorem requestsWaitBehindAReply : Obligations.RequestsWaitBehindAReply := by
  intro kind tag body s fits busy
  have received := (exec_command_fits (s := s) kind tag fits).trans (congrArg _ (State.receive_busy busy _))
  exact ⟨fun room => by rw [Completes, received, if_pos room],
    fun full => by rw [Completes, received, if_neg (Nat.not_lt.mpr full)]⟩

/-- Settles O11: the handler's fields are constants, and a body that is not empty has the wrong length. -/
theorem identifyReportsThePart : Obligations.IdentifyReportsThePart := by
  refine fun s idle => ⟨answers_of_handle idle (by simp) rfl (by simp) rfl rfl, fun body some fits => ?_⟩
  exact answers_badLength idle fits (by simpa [RequestKind.requiredLength] using some)

end Sys2Proof.Machine
end

section
/-! Proofs: the receiver, byte by byte, and the bytes of a whole frame (O6, O7). -/

namespace Sys2Proof.Machine

variable {s : State} {taken rest body : List Byte} {last n : Nat} {r : Receiver}

/-! ## The frame after SYNC (R175) -/

/-- Two bytes, low byte first, spell the word that they make up. -/
theorem toNat_word (high low : Byte) : (high ++ low : BitVec 16).toNat = fromBytes [low, high] := by
  have small : low.toNat < 2 ^ 8 := low.isLt
  rw [BitVec.toNat_append, ← Nat.shiftLeft_add_eq_or_of_lt small, Nat.shiftLeft_eq]
  simp only [fromBytes]
  omega

/-- A word is its high byte and its low byte. -/
theorem word_bytes (x : BitVec 16) : ((x >>> 8).setWidth 8 ++ x.setWidth 8 : BitVec 16) = x := by
  refine BitVec.eq_of_getLsbD_eq fun i inside => ?_
  rw [BitVec.getLsbD_append, BitVec.getLsbD_setWidth, BitVec.getLsbD_setWidth, BitVec.getLsbD_ushiftRight]
  by_cases low : i < 8
  · simp [low]
  · simp [low, show i - 8 < 8 by omega, show 8 + (i - 8) = i by omega]

/-- The last two bytes of a frame are judged against the CRC of those before them. -/
theorem frameGood_iff (covered : List Byte) (low high : Byte) :
    frameGood (covered ++ [low, high]) = true ↔ crc covered = (high ++ low : BitVec 16) := by
  have start : (covered ++ [low, high]).length - 2 = covered.length := by simp
  have sum : field (covered ++ [low, high]) covered.length 2 = (high ++ low : BitVec 16).toNat := by
    rw [toNat_word, field, List.drop_left]
    rfl
  rw [frameGood, start, List.take_left, sum, decide_eq_true_iff, ← BitVec.toNat_inj, eq_comm]

/-- The request of a whole frame is its kind, its tag and its body. -/
theorem requestOf_frame (len kind tag low high : Byte) (body : List Byte) :
    requestOf (len :: kind :: tag :: body ++ [low, high]) = { kind := kind, tag := tag, body := body } := by
  simp [requestOf, field, fromBytes]

/-- Bytes as many as a frame has behind its LEN byte are a kind, a tag, a body and a CRC. -/
theorem exists_frame (length : rest.length = n + 4) :
    ∃ (kind tag low high : Byte) (body : List Byte), body.length = n ∧ rest = kind :: tag :: body ++ [low, high] := by
  match rest, length with
  | kind :: tag :: more, length =>
    have two : (more.drop n).length = 2 := by
      simp only [List.length_cons] at length
      rw [List.length_drop]
      omega
    obtain ⟨low, high, sum⟩ := List.length_eq_two.mp two
    refine ⟨kind, tag, low, high, more.take n, ?_, ?_⟩
    · simp only [List.length_cons] at length
      rw [List.length_take]
      omega
    · rw [← sum, List.cons_append, List.cons_append, List.take_append_drop]

theorem toNat_len (fits : body.length ≤ 248) : (BitVec.ofNat 8 body.length).toNat = body.length := by
  rw [BitVec.toNat_ofNat]
  omega

/-- Bytes are a complete frame where they are laid out as one and their CRC is right. -/
theorem frameComplete_iff : frameComplete taken = true ↔
    ∃ (kind tag low high : Byte) (body : List Byte), body.length ≤ 248
      ∧ taken = BitVec.ofNat 8 body.length :: kind :: tag :: body ++ [low, high]
      ∧ crc (BitVec.ofNat 8 body.length :: kind :: tag :: body) = (high ++ low : BitVec 16) := by
  constructor
  · intro complete
    match taken, complete with
    | len :: rest, complete =>
      simp only [frameComplete, frameLength, Bool.and_eq_true, decide_eq_true_iff] at complete
      obtain ⟨⟨fits, length⟩, good⟩ := complete
      obtain ⟨kind, tag, low, high, body, size, rfl⟩ := exists_frame (rest := rest) (n := len.toNat) (by simpa using length)
      have isLen : BitVec.ofNat 8 body.length = len := by rw [size, BitVec.ofNat_toNat, BitVec.setWidth_eq]
      refine ⟨kind, tag, low, high, body, size ▸ fits, by rw [isLen]; rfl, ?_⟩
      rw [isLen]
      exact (frameGood_iff _ _ _).mp good
  · rintro ⟨kind, tag, low, high, body, fits, rfl, sum⟩
    have good := (frameGood_iff _ low high).mpr sum
    simp only [List.cons_append] at good
    simp [frameComplete, frameLength, toNat_len fits, Config.maxBody, fits, good]

/-! ## What the receiver does with a byte (R176) -/

theorem setReceiver_same (is : s.link.receiver = r) : s.setReceiver r = s := by
  subst is
  rfl

@[simp] theorem setReceiver_setReceiver (s : State) (q r : Receiver) : (s.setReceiver q).setReceiver r = s.setReceiver r :=
  rfl

theorem hunt_eq (s : State) (value : Byte) (stop : Bool) : s.hunt value stop =
    if value = 0xA7#8 ∧ stop = true then s.setReceiver (.inFrame [] s.ticks) else s.setReceiver .hunting := by
  rw [State.hunt, ← apply_ite]
  simp [Config.sync, and_comm]

theorem gapIs_iff (inside : s.link.receiver = .inFrame taken last) : s.gapIs n = true ↔ n ≤ s.ticks - last := by
  simp [State.gapIs, State.gap, inside]

/-- No gap runs outside a frame. -/
theorem gapIs_outside (outside : ∀ taken last, s.link.receiver ≠ .inFrame taken last) : s.gapIs n = false := by
  cases is : s.link.receiver with
  | inFrame taken last => exact absurd is (outside taken last)
  | hunting => simp [State.gapIs, State.gap, is]
  | abandoned _ _ _ => simp [State.gapIs, State.gap, is]

theorem gapOver_iff (inside : s.link.receiver = .inFrame taken last) :
    s.gapOver = true ↔ 2000 + sendTicks s.link.baud 1 ≤ s.ticks - last := gapIs_iff inside

theorem frameGapTimeout_outside (outside : ∀ taken last, s.link.receiver ≠ .inFrame taken last) :
    Completes .frameGapTimeout s s := by
  refine congrArg _ (if_neg ?_)
  rw [State.gapRunOut, gapIs_outside outside]
  simp

theorem rxByte_hunting (hunting : s.link.receiver = .hunting) (value : Byte) (stop : Bool) :
    exec (.rxByte value stop) s = .next (s.hunt value stop) := by
  change execRxByte value stop s = _
  rw [execRxByte, hunting]

theorem rxByte_inFrame (inside : s.link.receiver = .inFrame taken last) (value : Byte) (stop : Bool) :
    exec (.rxByte value stop) s = .next (
      if s.gapOver then s.hunt value stop
      else if stop then s.takeByte (taken ++ [value])
      else s.setReceiver .hunting) := by
  change execRxByte value stop s = _
  rw [execRxByte, inside]

theorem rxByte_abandoned {restart : Nat} (abandoned : s.link.receiver = .abandoned taken last restart) (value : Byte)
    (stop : Bool) : exec (.rxByte value stop) s = .next (
      if s.completesAbandoned taken last restart value stop then s.completeFrame (taken ++ [value])
      else s.hunt value stop) := by
  change execRxByte value stop s = _
  rw [execRxByte, abandoned]

/-- A byte with a high stop bit that comes in time is taken. -/
theorem rxByte_inTime (inside : s.link.receiver = .inFrame taken last)
    (inTime : s.ticks - last < 2000 + sendTicks s.link.baud 1) (value : Byte) :
    exec (.rxByte value true) s = .next (s.takeByte (taken ++ [value])) := by
  rw [rxByte_inFrame inside, if_neg (mt (gapOver_iff inside).mp (Nat.not_le.mpr inTime)), if_pos rfl]

theorem takeByte_cons (s : State) (len : Byte) (rest : List Byte) : s.takeByte (len :: rest) =
    if 248 < len.toNat then s.setReceiver .hunting
    else if rest.length = len.toNat + 4 then s.completeFrame (len :: rest)
    else s.setReceiver (.inFrame (len :: rest) s.ticks) := by
  simp [State.takeByte, Config.maxBody, frameLength]

/-- A whole frame is handed on, or leaves no trace, by its CRC. -/
theorem completeFrame_frame (s : State) (len kind tag low high : Byte) (body : List Byte) :
    s.completeFrame (len :: kind :: tag :: body ++ [low, high]) =
      if crc (len :: kind :: tag :: body) = (high ++ low : BitVec 16) then
        (s.setReceiver .hunting).receive { kind := kind, tag := tag, body := body }
      else s.setReceiver .hunting := by
  simp only [State.completeFrame, frameGood_iff, requestOf_frame]

/-- The last byte of a frame makes it whole. -/
theorem takeByte_frame (s : State) {len : Byte} (kind tag low high : Byte) (fits : len.toNat ≤ 248)
    (size : body.length = len.toNat) : s.takeByte (len :: kind :: tag :: body ++ [low, high]) =
      if crc (len :: kind :: tag :: body) = (high ++ low : BitVec 16) then
        (s.setReceiver .hunting).receive { kind := kind, tag := tag, body := body }
      else s.setReceiver .hunting := by
  rw [← completeFrame_frame]
  exact (takeByte_cons s len (kind :: tag :: body ++ [low, high])).trans
    ((if_neg (Nat.not_lt.mpr fits)).trans (if_pos (by simp [size])))

/-- A byte completes the frame that a restart of this instant abandoned. -/
theorem completesAbandoned_iff {restart : Nat} {value : Byte} {stop : Bool} :
    s.completesAbandoned taken last restart value stop = true ↔
      ∃ (kind tag low high : Byte) (body : List Byte),
        restart = s.ticks ∧ stop = true ∧ s.ticks - last < 2000 + sendTicks s.link.baud 1 ∧ body.length ≤ 248
        ∧ taken ++ [value] = BitVec.ofNat 8 body.length :: kind :: tag :: body ++ [low, high]
        ∧ crc (BitVec.ofNat 8 body.length :: kind :: tag :: body) = (high ++ low : BitVec 16) := by
  have inTime : (!(s.setReceiver (.inFrame taken last)).gapOver) = true
      ↔ s.ticks - last < 2000 + sendTicks s.link.baud 1 := by
    rw [Bool.not_eq_true', Bool.eq_false_iff, ← Nat.not_le]
    exact not_congr (gapOver_iff (s := s.setReceiver (.inFrame taken last)) rfl)
  rw [State.completesAbandoned, Bool.and_eq_true, Bool.and_eq_true, Bool.and_eq_true, decide_eq_true_iff, inTime,
    frameComplete_iff]
  constructor
  · rintro ⟨⟨⟨now, high⟩, time⟩, kind, tag, low, high', body, complete⟩
    exact ⟨kind, tag, low, high', body, now, high, time, complete⟩
  · rintro ⟨kind, tag, low, high', body, now, high, time, complete⟩
    exact ⟨⟨⟨now, high⟩, time⟩, kind, tag, low, high', body, complete⟩

/-- Settles O7: the receiver's three states, and within a frame what the byte makes of the frame. -/
theorem receiverHuntsAndAbandons : Obligations.ReceiverHuntsAndAbandons := by
  intro value stop s takes hunted
  have hunts : s.hunt value stop = hunted := hunt_eq s value stop
  refine ⟨fun hunting => ⟨fun noSync => ?_, fun sync high => ?_, ?_⟩, fun taken last restart abandoned => ?_,
    fun taken last inside => ⟨fun late => ?_, fun inTime => ⟨fun lowStop => ?_, fun len rest highStop whole => ?_⟩,
      fun ended => ?_, fun running => ?_⟩⟩
  · exact (rxByte_hunting hunting _ _).trans
      (congrArg _ (hunts.trans ((if_neg noSync).trans (setReceiver_same hunting))))
  · exact (rxByte_hunting hunting _ _).trans (congrArg _ (hunts.trans (if_pos ⟨sync, high⟩)))
  · exact frameGapTimeout_outside (by simp [hunting])
  · refine ⟨frameGapTimeout_outside (by simp [abandoned]), fun incomplete => ?_,
      fun kind tag low high body complete => ?_⟩
    · refine (rxByte_abandoned abandoned _ _).trans (congrArg _ ((if_neg fun completes => ?_).trans hunts))
      obtain ⟨kind, tag, low, high, body, complete⟩ := completesAbandoned_iff.mp completes
      exact incomplete kind tag low high body complete
    · have completes := completesAbandoned_iff.mpr ⟨kind, tag, low, high, body, complete⟩
      obtain ⟨-, -, -, -, bytes, sum⟩ := complete
      refine (rxByte_abandoned abandoned _ _).trans (congrArg _ ((if_pos completes).trans ?_))
      rw [bytes, completeFrame_frame, if_pos sum]
      rfl
  · exact (rxByte_inFrame inside _ _).trans (congrArg _ ((if_pos ((gapOver_iff inside).mpr late)).trans hunts))
  · subst lowStop
    refine (rxByte_inFrame inside _ _).trans (congrArg _ ?_)
    rw [if_neg (mt (gapOver_iff inside).mp (Nat.not_le.mpr inTime)), if_neg Bool.false_ne_true]
    rfl
  · subst highStop
    have joins := rxByte_inTime inside inTime value
    rw [whole] at joins ⊢
    have judged := joins.trans (congrArg _ (takeByte_cons s len rest))
    refine ⟨fun long => ?_, fun fits short => ?_, fun kind tag low high body fits size bytes => ?_⟩
    · exact judged.trans (congrArg _ (if_pos long))
    · exact judged.trans (congrArg _ ((if_neg (Nat.not_lt.mpr fits)).trans (if_neg short)))
    · subst bytes
      have completed := joins.trans (congrArg _ (takeByte_frame s kind tag low high fits size))
      refine ⟨fun wrong => completed.trans (congrArg _ (if_neg wrong)), fun right => ?_⟩
      have received := completed.trans (congrArg _ (if_pos right))
      refine ⟨received, fun idle unknown => received.trans (congrArg _ ?_)⟩
      exact (State.receive_idle (s := s.setReceiver .hunting) idle _).trans (process_unknownKind unknown)
  · exact congrArg _ (if_pos ((gapIs_iff inside).mpr ended))
  · exact congrArg _ (if_neg (mt (gapIs_iff inside).mp (Nat.not_le.mpr running)))

/-! ## The bytes of a whole frame (R175) -/

theorem runAll_cons {c : Instr} {t : State} (next : exec c s = .next t) (more : List Instr) :
    runAll (c :: more) s = runAll more t := by rw [runAll, next]

/-- A byte at the instant of the one before it is in time. -/
theorem rxByte_now (s : State) (taken : List Byte) (value : Byte) :
    exec (.rxByte value true) (s.setReceiver (.inFrame taken s.ticks))
      = .next ((s.setReceiver (.inFrame taken s.ticks)).takeByte (taken ++ [value])) :=
  rxByte_inTime rfl (by simp) value

/-- Bytes that do not complete the frame join it, one after another. -/
theorem runAll_bytes {len : Byte} (fits : len.toNat ≤ 248) (bytes : List Byte) (more : List Instr)
    (short : rest.length + bytes.length < len.toNat + 4) :
    runAll (bytes.map (fun b => Instr.rxByte b true) ++ more) (s.setReceiver (.inFrame (len :: rest) s.ticks))
      = runAll more (s.setReceiver (.inFrame (len :: (rest ++ bytes)) s.ticks)) := by
  induction bytes generalizing rest with
  | nil => simp
  | cons b bytes ih =>
    rw [List.length_cons] at short
    have joins := rxByte_now s (len :: rest) b
    rw [List.cons_append, takeByte_cons, if_neg (Nat.not_lt.mpr fits), if_neg (by simp; omega)] at joins
    rw [List.map_cons, List.cons_append, runAll_cons joins]
    refine (ih (rest := rest ++ [b]) (by simp; omega)).trans ?_
    rw [List.append_assoc, List.singleton_append]

/-- Settles O6: SYNC opens the frame, LEN to the CRC's low byte join it, and the CRC's high byte completes it. -/
theorem frameBytesMakeTheRequest : Obligations.FrameBytesMakeTheRequest := by
  intro kind tag body s fits hunting covered sum
  have length := toNat_len fits
  let low : Byte := sum.setWidth 8
  let high : Byte := (sum >>> 8).setWidth 8
  have opens : exec (.rxByte 0xA7#8 true) s = .next (s.setReceiver (.inFrame [] s.ticks)) :=
    (rxByte_hunting hunting _ _).trans (congrArg _ ((hunt_eq s _ _).trans (if_pos ⟨rfl, rfl⟩)))
  have lenJoins := rxByte_now s [] (BitVec.ofNat 8 body.length)
  rw [List.nil_append, takeByte_cons, if_neg (by omega), if_neg (by simp)] at lenJoins
  have completes := rxByte_now s (BitVec.ofNat 8 body.length :: (kind.code :: tag :: body ++ [low])) high
  have whole : BitVec.ofNat 8 body.length :: (kind.code :: tag :: body ++ [low]) ++ [high]
      = BitVec.ofNat 8 body.length :: kind.code :: tag :: body ++ [low, high] := by simp
  rw [whole, takeByte_frame _ _ _ _ _ (by omega) length.symm, if_pos (word_bytes sum).symm] at completes
  have spelled : ((0xA7#8 :: covered ++ [low, high]).map fun b => Instr.rxByte b true)
      = .rxByte 0xA7#8 true :: .rxByte (BitVec.ofNat 8 body.length) true
        :: ((kind.code :: tag :: body ++ [low]).map (fun b => Instr.rxByte b true) ++ [.rxByte high true]) := by
    simp [covered]
  change runAll ((0xA7#8 :: covered ++ [low, high]).map fun b => Instr.rxByte b true) s = _
  rw [spelled, runAll_cons opens, runAll_cons lenJoins]
  refine (runAll_bytes (rest := []) (by omega) _ _ (by simp [length])).trans ((runAll_cons completes []).trans ?_)
  rw [exec_command_fits kind tag fits, runAll, setReceiver_setReceiver, setReceiver_same hunting]

end Sys2Proof.Machine
end

section
/-! Proofs: the bits of a reply at TXD, and its end (O8). -/

namespace Sys2Proof.Machine

variable {s : State} {x : Transmission}

/-! ## The bits on the line (R175, R178) -/

/-- The ten bits of a byte on the line. -/
theorem uartBits_getD (b : Byte) {j : Nat} (inside : j < 10) :
    (uartBits b).getD j true = if j = 0 then false else if j = 9 then true else b.getLsbD (j - 1) := by
  interval_cases j <;> rfl

/-- Bytes are sent back to back, ten bits each. -/
theorem bits_getD (bytes : List Byte) {i j : Nat} (inside : i < bytes.length) (bit : j < 10) :
    (bytes.flatMap uartBits).getD (10 * i + j) true = (uartBits bytes[i]).getD j true := by
  induction bytes generalizing i with
  | nil => simp at inside
  | cons b rest ih =>
    have ten : (uartBits b).length = 10 := rfl
    rw [List.flatMap_cons]
    cases i with
    | zero =>
      rw [List.getD_append _ _ _ _ (by rw [ten]; omega), Nat.mul_zero, Nat.zero_add]
      rfl
    | succ i =>
      rw [List.getD_append_right _ _ _ _ (by rw [ten]; omega), ten,
        show 10 * (i + 1) + j - 10 = 10 * i + j by omega]
      exact ih (by simpa using inside)

/-- The bit on the line is the one whose bit time runs. -/
theorem bitsSent_eq {baud : BitVec 2} {ticks n : Nat} (begun : n * 1000000 ≤ (ticks - x.started) * baudRate baud)
    (running : (ticks - x.started) * baudRate baud < (n + 1) * 1000000) : x.bitsSent baud ticks = n :=
  Nat.div_eq_of_lt_le begun running

theorem txd_idle (idle : s.link.transmission = none) : s.txd = true := by rw [State.txd, idle]

theorem txd_sending (sending : s.link.transmission = some x) :
    s.txd = (x.bytes.flatMap uartBits).getD (x.bitsSent s.link.baud s.ticks) true := by rw [State.txd, sending]

/-! ## The end of a reply (R178) -/

/-- A reply whose bits have not taken their time yet has not been sent. -/
theorem replyDue_of_unsent (sending : s.link.transmission = some x)
    (unsent : s.ticks < x.started ∨ (s.ticks - x.started) * baudRate s.link.baud < x.bytes.length * 10 * 1000000) :
    s.replyDue = false := by
  have time : sendTicks s.link.baud x.bytes.length ≤ s.ticks - x.started
      ↔ x.bytes.length * 10 * 1000000 ≤ (s.ticks - x.started) * baudRate s.link.baud := by
    rw [sendTicks, ceilDiv_le_iff (baudRate_pos _), Nat.mul_comm (baudRate _)]
  simp only [State.replyDue, sending, decide_eq_false_iff_not]
  intro due
  rcases unsent with early | unsent
  · omega
  · exact absurd (time.mp (by omega)) (Nat.not_le.mpr unsent)

theorem takeNext_empty (empty : s.link.queue = []) : s.takeNext = s := by rw [State.takeNext, empty]

theorem takeNext_cons {q : Request} {rest : List Request} (waits : s.link.queue = q :: rest) :
    s.takeNext = State.process { s with link := { s.link with queue := rest } } q := by rw [State.takeNext, waits]

/-- REPLY_SENT at the end of a reply that no restart follows. -/
theorem replySent_due (sending : s.link.transmission = some x) (noRestart : x.restarts = false) (due : s.replyDue = true) :
    exec .replySent s = .next s.endReply := by
  change execReplySent s = _
  rw [execReplySent, if_pos due, if_neg (by rw [restarts_eq sending, noRestart]; exact Bool.false_ne_true)]

/-- Settles O8: the bits by their bit times, and the end of a reply by what waits in the queue. -/
theorem replySentTakesTheNextRequest : Obligations.ReplySentTakesTheNextRequest := by
  refine ⟨fun s idle => txd_idle idle, fun s x i j inside sending bit => ?_,
    fun s x sending noRestart => ⟨fun unsent => ?_, fun started sent => ⟨fun empty => ?_, fun q rest waits => ?_⟩⟩⟩
  · intro sent begun running
    rw [txd_sending sending, bitsSent_eq begun running, bits_getD _ inside bit, uartBits_getD _ bit]
  · refine congrArg _ (if_neg ?_)
    rw [replyDue_of_unsent sending unsent]
    exact Bool.false_ne_true
  · have ends := replySent_due sending noRestart (replyDue_of_sent sending started sent)
    exact ends.trans (congrArg _ (takeNext_empty (s := { s with link := { s.link with transmission := none } }) empty))
  · intro taken
    have ends := replySent_due sending noRestart (replyDue_of_sent sending started sent)
    have takes : Completes .replySent s (taken.process q) :=
      ends.trans (congrArg _ (takeNext_cons (s := { s with link := { s.link with transmission := none } }) waits))
    exact ⟨takes, fun unknown => takes.trans (congrArg _ (process_unknownKind unknown))⟩

end Sys2Proof.Machine
end

section
/-! Proofs: the latching of events, the ATTN output, and the requests READ EVENTS and SET ATTENTION (O12, O13). -/

namespace Sys2Proof.Machine

variable {s : State} {a : Attention} {e : Event}

/-! ## Latching (R181, R184) -/

theorem Event.mask_eq (e : Event) : e.mask = 1#12 <<< e.bit := BitVec.twoPow_eq _ _

/-- An event's bit is unset in a set exactly where the set and the event's mask have nothing in common. -/
theorem Event.and_mask_iff (x : BitVec 12) (e : Event) : x &&& e.mask = 0#12 ↔ x.getLsbD e.bit = false := by
  have some : BitVec.twoPow 12 e.bit ≠ 0#12 := by cases e <;> decide
  rw [Event.mask, BitVec.and_twoPow]
  cases x.getLsbD e.bit <;> simp [some]

/-- In LEVEL mode ATTN follows the unmasked set. -/
theorem Attention.settle_level (level : a.mode = .level) :
    a.settle = { a with attn := decide (a.latched &&& ~~~a.mask ≠ 0#12), pulseEnds := none } := by
  rw [Attention.settle, level, Attention.unmasked, bne, beq_eq_decide, decide_not]

/-- In EDGE mode ATTN is as its pulse left it. -/
theorem Attention.settle_edge (edge : a.mode = .edge) : a.settle = a := by rw [Attention.settle, edge]

/-- An event that is latched already has no effect. -/
theorem Attention.latch_held (held : a.latched.getLsbD e.bit = true) (ticks : Nat) : a.latch e ticks = a :=
  if_neg (by simp [Event.and_mask_iff, held])

/-- An event joins the set in LEVEL mode. -/
theorem Attention.latch_level (new : a.latched.getLsbD e.bit = false) (level : a.mode = .level) (ticks : Nat) :
    a.latch e ticks =
      { a with
        latched := a.latched ||| (1#12 <<< e.bit)
        attn := decide ((a.latched ||| (1#12 <<< e.bit)) &&& ~~~a.mask ≠ 0#12)
        pulseEnds := none } := by
  have joined := Attention.settle_level (a := { a with latched := a.latched ||| (1#12 <<< e.bit) }) level
  rw [Attention.latch, if_pos ((Event.and_mask_iff _ _).mpr new), Event.mask_eq, ← joined, level]

/-- An event joins the set in EDGE mode. -/
theorem Attention.latch_edge (new : a.latched.getLsbD e.bit = false) (edge : a.mode = .edge) (ticks : Nat) :
    a.latch e ticks =
      if a.mask.getLsbD e.bit = false then
        { a with latched := a.latched ||| (1#12 <<< e.bit), attn := true, pulseEnds := some (ticks + 8) }
      else { a with latched := a.latched ||| (1#12 <<< e.bit) } := by
  rw [Attention.latch, if_pos ((Event.and_mask_iff _ _).mpr new), edge, Event.mask_eq]
  simp only [← Event.mask_eq, Event.and_mask_iff]
  rfl

/-- The pulse is over where its end has come. -/
theorem Attention.pulseDue_iff (a : Attention) (ticks : Nat) :
    a.pulseDue ticks = true ↔ ∃ d, a.pulseEnds = some d ∧ d ≤ ticks := by
  cases ends : a.pulseEnds <;> simp [Attention.pulseDue, timerDue, ends]

/-- Settles O13: the mode and the mask decide what a new event does to ATTN, and the end of a pulse what ends it. -/
theorem latchedEventMovesAttn : Obligations.LatchedEventMovesAttn := by
  have latched (e : Event) (s : State) {b : Attention} (h : s.attention.latch e s.ticks = b) :
      s.latch e = { s with attention := b } := by rw [State.latch, h]
  refine ⟨fun e s => ⟨fun held => latched e s (Attention.latch_held held _),
    fun new level => latched e s (Attention.latch_level new level _), fun new edge unmasked => latched e s ?_,
    fun new edge masked => latched e s ?_⟩, fun s => ⟨fun d ends due => ?_, fun early => ?_⟩⟩
  · rw [Attention.latch_edge new edge, if_pos unmasked]
  · rw [Attention.latch_edge new edge, if_neg (by simp [masked])]
  · exact congrArg _ (if_pos ((Attention.pulseDue_iff _ _).mpr ⟨d, ends, due⟩))
  · refine congrArg _ (if_neg fun ended => ?_)
    obtain ⟨d, ends, due⟩ := (Attention.pulseDue_iff _ _).mp ended
    exact absurd due (Nat.not_le.mpr (early d ends))

/-! ## READ EVENTS (R182) -/

theorem Attention.clear_level (level : a.mode = .level) :
    a.clear = { a with latched := 0#12, attn := false, pulseEnds := none } :=
  (Attention.settle_level (a := { a with latched := 0#12 }) level).trans (by simp)

theorem Attention.clear_edge (edge : a.mode = .edge) : a.clear = { a with latched := 0#12 } :=
  Attention.settle_edge (a := { a with latched := 0#12 }) edge

/-- READ EVENTS at an idle link, by what clearing the set leaves. -/
theorem answers_readEvents (idle : s.LinkIdle) (cleared : s.attention.clear = a) : Answers .readEvents [] s
    { s with attention := a } .ok
    (toBytes 2 s.attention.latched.toNat ++ toBytes 2 s.attention.mask.toNat
      ++ [BitVec.ofNat 8 s.attention.mode.code]) := by
  refine answers_of_handle idle (by simp) rfl (by simp) ?_ rfl
  rw [handle, handleReadEvents, cleared]
  rfl

/-! ## SET ATTENTION (R183, R184) -/

/-- The events that are unmasked now and were not are the latched ones that were masked. -/
theorem newly_unmasked (latched mask was : BitVec 12) :
    (latched &&& ~~~mask) &&& ~~~(latched &&& ~~~was) = latched &&& ~~~mask &&& was := by
  ext i
  simp only [BitVec.getElem_and, BitVec.getElem_not]
  cases latched[i] <;> simp

/-- SET ATTENTION to LEVEL mode. -/
theorem Attention.configure_level (a : Attention) (mask : BitVec 12) (ticks : Nat) : a.configure mask .level ticks =
    { latched := a.latched, mask := mask, mode := .level, attn := decide (a.latched &&& ~~~mask ≠ 0#12)
      pulseEnds := none } :=
  Attention.settle_level (a := { a with mask := mask, mode := .level }) rfl

/-- SET ATTENTION to EDGE mode: a change from LEVEL deasserts ATTN before a pulse may start. -/
theorem Attention.configure_edge (a : Attention) (mask : BitVec 12) (ticks : Nat) : a.configure mask .edge ticks =
    if a.latched &&& ~~~mask &&& a.mask ≠ 0#12 then
      { latched := a.latched, mask := mask, mode := .edge, attn := true, pulseEnds := some (ticks + 8) }
    else if a.mode = .level then
      { latched := a.latched, mask := mask, mode := .edge, attn := false, pulseEnds := none }
    else { latched := a.latched, mask := mask, mode := .edge, attn := a.attn, pulseEnds := a.pulseEnds } := by
  unfold Attention.configure
  by_cases level : a.mode = .level
  · simp only [level, if_true, Attention.unmasked, newly_unmasked, bne_iff_ne]
    rfl
  · simp only [level, if_false, Attention.unmasked, newly_unmasked, bne_iff_ne]
    rfl

/-- Settles O12: clearing the set and configuring the unit, in each mode. -/
theorem attentionIsReadAndSet : Obligations.AttentionIsReadAndSet := by
  refine ⟨fun s idle => ⟨fun level => ?_, fun edge => ?_⟩, fun s body idle length => ?_⟩
  · simpa [level, AttnMode.code] using answers_readEvents idle (Attention.clear_level level)
  · simpa [edge, AttnMode.code] using answers_readEvents idle (Attention.clear_edge edge)
  · intro a mask values level edge
    have checked : (decide (field body 0 2 < 4096) && isFlag (field body 2 1)) = true ↔ values := by
      rw [Bool.and_eq_true, decide_eq_true_iff, isFlag_iff]
    refine judged_of_handle idle (by omega) length (by simp) (fun bad => ?_) (fun _ no => absurd trivial no)
      (fun good _ => ?_) rfl
    · rw [handle, handleSetAttention]
      exact if_neg (mt checked.mp bad)
    · rw [handle, handleSetAttention]
      refine (if_pos (checked.mpr good)).trans ?_
      by_cases zero : field body 2 1 = 0
      · rw [if_pos zero, if_pos zero, Attention.configure_level]
      · rw [if_neg zero, if_neg zero, Attention.configure_edge]

end Sys2Proof.Machine
end

section
/-! Proofs: plan steps survive their bytes (O40). -/

namespace Sys2Proof.Machine

variable {x : Step}

/-- Bytes that spell a number hold it, where it lies within their range. -/
theorem field_toBytes_of_lt {n v : Nat} (small : v < 256 ^ n) (rest : List Byte) : field (toBytes n v ++ rest) 0 n = v :=
  (field_toBytes n v rest).trans (Nat.mod_eq_of_lt small)

theorem field_byte_of_lt {v : Nat} (small : v < 256) (rest : List Byte) : field (BitVec.ofNat 8 v :: rest) 0 1 = v :=
  (field_byte v rest).trans (Nat.mod_eq_of_lt small)

/-- The bytes of a step in range hold its kind and its operands, as those of the first step of a LOAD PLAN body. -/
theorem spellsStep_bytes (fits : x.InRange) : SpellsStep ([0#8, 0#8] ++ x.bytes) 0 x := by
  cases x with
  | atPos p =>
    obtain ⟨low, high⟩ := fits
    refine ⟨rfl, fieldInt_eq (n := 4) ?_ (by omega) (by omega)⟩
    exact field_toBytes_of_lt (by omega) [0#8]
  | after d =>
    obtain ⟨-, high⟩ := fits
    exact ⟨rfl, field_toBytes_of_lt (by omega) [0#8]⟩
  | expose c strobe =>
    cases strobe with
    | none => exact ⟨rfl, field_byte_of_lt (by omega) _, rfl⟩
    | some y => exact ⟨rfl, field_byte_of_lt (by omega) _, rfl, field_byte_of_lt (by omega) _⟩
  | mark => rfl

/-- The bytes of a step in range spell it. -/
theorem stepOfBytes_bytes (fits : x.InRange) : stepOfBytes x.bytes = some x := by
  have whole : (([0#8, 0#8] ++ x.bytes).drop (2 + 6 * 0)).take 6 = x.bytes :=
    List.take_of_length_le (Nat.le_of_eq x.length_bytes)
  rw [← whole]
  exact stepOfBytes_of_spells (spellsStep_bytes fits) fits

/-- Settles O40: each step has 6 bytes, and they spell it. -/
theorem planStepsSurviveTheirBytes : Obligations.PlanStepsSurviveTheirBytes := by
  intro steps fits
  have inRange (x : Step) (mem : x ∈ steps) : x.InRange := by
    have fits := fits x mem
    cases x with
    | atPos p => exact fits
    | after d => exact fits
    | expose c strobe => trivial
    | mark => trivial
  refine ⟨length_flatMap_bytes Step.length_bytes steps, stepsOfBytes_iff.mpr ⟨rfl, fun i inside => ?_⟩⟩
  have entry := entry_flatMap Step.length_bytes [] [] inside
  simp only [List.nil_append, List.append_nil, List.length_nil, Nat.zero_add] at entry
  rw [entry]
  exact stepOfBytes_bytes (inRange _ (List.getElem_mem inside))

end Sys2Proof.Machine
end

section
/-! Proofs: the command at the front of the queue runs, and every command leaves the queue and the free choices alone (O1,
O3). -/

namespace Sys2Proof.Machine

variable {s u v : State}

/-- Settles O1: what a step is with a command waiting. -/
theorem stepRunsTheFrontCommand : Obligations.StepRunsTheFrontCommand := by
  intro c rest s waiting
  rw [step, waiting]

/-- No arm of a command faults or refuses. -/
theorem exec_answers (c : Instr) (s : State) : ∃ t, exec c s = .next t := by cases c <;> exact ⟨_, rfl⟩

/-! ## The queue and the free choices (log entries 1, 17 and 26) -/

/-- From `s` to `u` no command joins or leaves the queue, and no free choice is made. -/
def State.KeepsQueue (s u : State) : Prop := u.pending = s.pending ∧ u.choices = s.choices

theorem State.KeepsQueue.refl (s : State) : s.KeepsQueue s := ⟨rfl, rfl⟩

theorem State.KeepsQueue.trans (h : s.KeepsQueue u) (k : u.KeepsQueue v) : s.KeepsQueue v :=
  ⟨k.1.trans h.1, k.2.trans h.2⟩

theorem Work.keepsQueue (h : Work s u) : s.KeepsQueue u := by
  obtain ⟨-, -, -, -, -, -, -, -, -, pending, choices⟩ := h.keeps
  exact ⟨pending, choices⟩

theorem Settings.keepsQueue (h : Settings s u) : s.KeepsQueue u := by
  obtain ⟨_, _, _, _, _, _, _, _, rfl⟩ := h
  exact .refl s

theorem Stays.keepsQueue {o : Host.Outcome State Fault Refusal} (h : Stays (Work s) o) : Stays s.KeepsQueue o :=
  fun u next => (h u next).keepsQueue

/-- A step that is taken under a condition keeps the queue where the step does. -/
theorem State.KeepsQueue.ite {condition : Prop} [Decidable condition] (h : s.KeepsQueue u) (k : s.KeepsQueue v) :
    s.KeepsQueue (if condition then u else v) := by
  split
  · exact h
  · exact k

theorem advance_keepsQueue (s : State) : s.KeepsQueue s.advance := by
  cases next : s.nextCorrection with
  | none => rw [advance_plain next]; exact ⟨rfl, rfl⟩
  | some c => rw [advance_adjusted next]; exact ⟨rfl, rfl⟩

theorem restart_keepsQueue (s : State) : s.KeepsQueue s.restart := ⟨rfl, rfl⟩

theorem reformInhibit_keepsQueue (s : State) : s.KeepsQueue s.reformInhibit := by
  have formed : s.KeepsQueue { s with inhibit := formInhibit s.inhibits } := ⟨rfl, rfl⟩
  unfold State.reformInhibit
  exact .ite (formed.trans (cutFiring_work _).keepsQueue) formed

theorem setLocalTime_keepsQueue (s : State) (now : LocalTime) : s.KeepsQueue (s.setLocalTime now) := by
  rw [setLocalTime_keeps]
  exact ⟨rfl, rfl⟩

theorem State.KeepsQueue.withTracker (h : s.KeepsQueue u) (tracker : Tracker) : s.KeepsQueue { u with tracker := tracker } :=
  h

theorem judgeEdge_keepsQueue (s : State) : s.KeepsQueue s.judgeEdge := by
  unfold State.judgeEdge State.stepTime
  exact .ite (.refl s) (((setLocalTime_keepsQueue s _).withTracker _).trans (latch_records _ _).work.keepsQueue)

theorem measureEdge_keepsQueue (s : State) : s.KeepsQueue s.measureEdge := by
  unfold State.measureEdge
  split <;> exact ⟨rfl, rfl⟩

theorem closeWindow_keepsQueue (s : State) : s.KeepsQueue s.closeWindow := .ite ⟨rfl, rfl⟩ (.ite ⟨rfl, rfl⟩ ⟨rfl, rfl⟩)

/-! ## Requests -/

theorem storeSettings_keepsQueue (t : Option TrackId) (ok : Bool) (f : Channel → Channel) (s : State) :
    s.KeepsQueue (storeSettings t ok f s).state := by
  unfold storeSettings
  split
  · exact .refl s
  · split
    · exact .refl s
    · split
      · exact .refl s
      · exact (updChannel_records s _ f).work.keepsQueue

theorem handleSetTime_keepsQueue (body : List Byte) (s : State) : s.KeepsQueue (handleSetTime body s).state := by
  unfold handleSetTime
  dsimp only
  split
  · exact .refl s
  · split
    · exact .refl s
    · exact (setLocalTime_keepsQueue s _).withTracker _

/-- No request reaches the queue or the free choices. -/
theorem handle_keepsQueue (k : RequestKind) (body : List Byte) (s : State) : s.KeepsQueue (handle k body s).state := by
  cases k with
  | setTrackGeometry => exact storeSettings_keepsQueue _ _ _ s
  | setTrackTiming => exact storeSettings_keepsQueue _ _ _ s
  | setSpeedFilter => exact storeSettings_keepsQueue _ _ _ s
  | setHeadLimits => exact storeSettings_keepsQueue _ _ _ s
  | setTrackMode => exact (handleSetTrackMode_work body s).keepsQueue
  | setTime => exact handleSetTime_keepsQueue body s
  | setCamera =>
    simp only [handle, handleSetCamera]
    split
    · exact .refl s
    · split
      · exact .refl s
      · split
        · exact (updCamera_work s _ _).keepsQueue
        · exact .refl s
  | resetCamera =>
    simp only [handle, handleResetCamera]
    split
    · exact .refl s
    · exact (updCamera_work s _ _).keepsQueue
  | setInhibit =>
    have configured : s.KeepsQueue { s with inhibits := configureInhibits body s.inhibits } := ⟨rfl, rfl⟩
    simp only [handle, handleSetInhibit]
    split
    · exact configured.trans (reformInhibit_keepsQueue _)
    · exact .refl s
  | rehearse =>
    simp only [handle, handleRehearse]
    split
    · split
      · exact .refl s
      · split
        · exact .refl s
        · split
          · exact .refl s
          · split
            · exact .refl s
            · exact (updChannel_records s _ _).work.keepsQueue
    · exact .refl s
  | _ => exact (handle_settings body s (by simp [RequestKind.reaching])).keepsQueue

/-! ## The link (R176 to R178) -/

theorem process_keepsQueue (q : Request) (s : State) : s.KeepsQueue (s.process q) := by
  have answered : s.KeepsQueue (answer q s).state := by
    unfold answer
    split
    · exact .refl s
    · split
      · exact handle_keepsQueue _ _ s
      · exact .refl s
  exact answered

theorem receive_keepsQueue (q : Request) (s : State) : s.KeepsQueue (s.receive q) :=
  .ite (process_keepsQueue q s) (.ite ⟨rfl, rfl⟩ ⟨rfl, rfl⟩)

theorem submit_keepsQueue (k : RequestKind) (tag : Byte) (body : List Byte) (s : State) :
    s.KeepsQueue (s.submit k tag body) := .ite (receive_keepsQueue _ s) (.refl s)

theorem setReceiver_keepsQueue (s : State) (r : Receiver) : s.KeepsQueue (s.setReceiver r) := ⟨rfl, rfl⟩

theorem completeFrame_keepsQueue (taken : List Byte) (s : State) : s.KeepsQueue (s.completeFrame taken) :=
  .ite ((setReceiver_keepsQueue s _).trans (receive_keepsQueue _ _)) (setReceiver_keepsQueue s _)

theorem takeByte_keepsQueue (taken : List Byte) (s : State) : s.KeepsQueue (s.takeByte taken) := by
  cases taken with
  | nil => exact .refl s
  | cons len rest =>
    exact .ite (setReceiver_keepsQueue s _) (.ite (completeFrame_keepsQueue _ s) (setReceiver_keepsQueue s _))

theorem execRxByte_keepsQueue (value : Byte) (stopHigh : Bool) (s : State) :
    Stays s.KeepsQueue (execRxByte value stopHigh s) := by
  have hunts : s.KeepsQueue (s.hunt value stopHigh) := setReceiver_keepsQueue s _
  refine Stays.next ?_
  split
  · exact hunts
  · exact .ite hunts (.ite (takeByte_keepsQueue _ s) (setReceiver_keepsQueue s _))
  · exact .ite (completeFrame_keepsQueue _ s) hunts

theorem endReply_keepsQueue (s : State) : s.KeepsQueue s.endReply := by
  unfold State.endReply State.takeNext
  split
  · exact ⟨rfl, rfl⟩
  · next q rest _ => exact process_keepsQueue q { s with link := { s.link with transmission := none, queue := rest } }

/-! ## Every command -/

/-- Commands come from outside and from `State.idle` alone: no command changes the queue or chooses. -/
theorem exec_keepsQueue (c : Instr) (s : State) : Stays s.KeepsQueue (exec c s) := by
  cases c
  case restartTakesEffect => exact .next (.ite (restart_keepsQueue s) (.refl s))
  case pinReset straps => exact .next ⟨rfl, rfl⟩
  case rxByte value stopHigh => exact execRxByte_keepsQueue value stopHigh s
  case frameGapTimeout => exact .next (.ite (setReceiver_keepsQueue s _) (.refl s))
  case replySent => exact .next (.ite (.ite (restart_keepsQueue s) (endReply_keepsQueue s)) (.refl s))
  case attnPulseEnd => exact .next (.ite ⟨rfl, rfl⟩ (.refl s))
  case wheelLeadingEdge t w => exact (execWheelLeadingEdge_work t w s).keepsQueue
  case wheelTrailingEdge t w => exact (execWheelTrailingEdge_work t w s).keepsQueue
  case wheelPulseAccepted t w => exact (execWheelPulseAccepted_work t w s).keepsQueue
  case headDetectorEdge t d high => exact .next (updChannel_records s t _).work.keepsQueue
  case blockedStart t d => exact (execBlockedStart_work t d s).keepsQueue
  case blockedEnd t d => exact (execBlockedEnd_work t d s).keepsQueue
  case headCrosses t n => exact (execHeadCrosses_work t n s).keepsQueue
  case headDeparted t n => exact (execHeadDeparted_work t n s).keepsQueue
  case timelineEntryExpiry t n => exact (execTimelineEntryExpiry_work t n s).keepsQueue
  case triggerRelease i => exact (execTriggerRelease_work i s).keepsQueue
  case cdoneEdge i => exact (execCdoneEdge_work i s).keepsQueue
  case confirmationWindowExpiry i => exact (execConfirmationWindowExpiry_work i s).keepsQueue
  case recoveryEnd i => exact (execRecoveryEnd_work i s).keepsQueue
  case warmUpEnd i => exact .next (updCamera_work s i _).keepsQueue
  case strobePulseEnd x => exact (execStrobePulseEnd_work x s).keepsQueue
  case inhibitInputEdge i high =>
    have seen : s.KeepsQueue { s with inhibits := updateAt s.inhibits i fun x => { x with level := high } } := ⟨rfl, rfl⟩
    exact .next (seen.trans (reformInhibit_keepsQueue _))
  case chargeCompletion => exact (execChargeCompletion_work s).keepsQueue
  case clearIntervalExpiry t => exact (execClearIntervalExpiry_work t s).keepsQueue
  case dormantDelayExpiry t => exact (execDormantDelayExpiry_work t s).keepsQueue
  case stalenessExpiry t => exact (execStalenessExpiry_work t s).keepsQueue
  case refEdge rising =>
    refine .next (.ite (.refl s) ?_)
    split
    · exact .refl s
    · exact judgeEdge_keepsQueue s
    · exact measureEdge_keepsQueue s
    · exact judgeEdge_keepsQueue s
  case windowClose => exact .next (.ite (closeWindow_keepsQueue s) (.refl s))
  case adjustedTick => exact .next (.ite (advance_keepsQueue s) (.refl s))
  case rehearsalEdgeDelivery t => exact (execRehearsalEdgeDelivery_work t s).keepsQueue
  all_goals exact .next (submit_keepsQueue _ _ _ s)

/-- Settles O3: no arm faults or refuses, and what an arm answers has the queue and the choices of before. -/
theorem everyCommandAnswersAState : Obligations.EveryCommandAnswersAState := by
  intro c s
  obtain ⟨t, answers⟩ := exec_answers c s
  exact ⟨t, answers, exec_keepsQueue c s t answers⟩

end Sys2Proof.Machine
end
